-- ==== Sys2Proof/Word.lean ====
section
/-! DEFINITION. The one machine word of the part: the byte of its console port and of its line frames. -/

namespace Sys2Proof

/-- A byte as the console port shifts it and as a line frame carries it (R183, R194). -/
abbrev Byte := BitVec 8

end Sys2Proof
end

