-- ==== Sys2Proof/Syntax.lean ====
section
/-! DEFINITION. The commands of the part: one constructor for each row of spec/opcode_table.json, with the row's
operands. A console request carries the bytes of its transaction after the request code (R183); a heard line frame
carries its fields as they stand on the wire with the stuff bits removed (R143, R193). -/

namespace Sys2Proof

/-- An axis of the table (R78). -/
inductive Axis where
  | x | y
  deriving DecidableEq, Repr

/-- The head's four actuators (R106), in the order of R91 and R109. -/
inductive Actuator where
  | bearing | headSpan | clinchSpan | clinchMode
  deriving DecidableEq, Repr

/-- The seven kinds of line frame (R143). -/
inductive FrameKind where
  | withdraw | claim | owe | announce | passportHead | passportEntry | status
  deriving DecidableEq, Repr

/-- A frame heard on the line, as received with start bit, stuff bits and end field taken off (R143, R193). The
kind is the constructor's. -/
structure HeardFrame where
  /-- The class bit of the header: false urgent (0), true normal (1). -/
  cls : Bool
  /-- The sender's station number as the header holds it. -/
  sender : BitVec 4
  /-- The length byte. -/
  length : Byte
  /-- The payload bytes received. -/
  payload : List Byte
  /-- The CRC field received. -/
  crc : BitVec 16
  deriving DecidableEq, Repr

/-- The commands the part takes, one constructor a row of spec/opcode_table.json. -/
inductive Instr where
  /-- PIN_RESET: RSTN low (R1). -/
  | pinReset
  /-- READ_TRANSACTION: all the bytes shifted in; none, or the null code first (R183). -/
  | readTransaction (bytes : List Byte)
  /-- UNKNOWN_REQUEST: the code, and the bytes after it (R183). -/
  | unknownRequest (code : Byte) (bytes : List Byte)
  /-- SETUP (R186). -/
  | setup (bytes : List Byte)
  /-- READ_STATUS (R188). -/
  | readStatus (bytes : List Byte)
  /-- READ_REPORTS (R190). -/
  | readReports (bytes : List Byte)
  /-- BANK_OPEN (R6). -/
  | bankOpen (bytes : List Byte)
  /-- BLOCK_BEGIN (R8). -/
  | blockBegin (bytes : List Byte)
  /-- STEP (R9). -/
  | stepRecord (bytes : List Byte)
  /-- BLOCK_COMMIT (R10). -/
  | blockCommit (bytes : List Byte)
  /-- BANK_CLOSE (R12). -/
  | bankClose (bytes : List Byte)
  /-- BANK_CLEAR_ABORT (R13). -/
  | bankClearAbort (bytes : List Byte)
  /-- BANK_ERASE (R14). -/
  | bankErase (bytes : List Byte)
  /-- PART_ENTRY (R17). -/
  | partEntry (bytes : List Byte)
  /-- REEL_LOAD (R21). -/
  | reelLoad (bytes : List Byte)
  /-- SERVICE_BEGIN (R22). -/
  | serviceBegin (bytes : List Byte)
  /-- SERVICE_END (R23). -/
  | serviceEnd (bytes : List Byte)
  /-- LOCK (R24). -/
  | lock (bytes : List Byte)
  /-- UNLOCK (R24). -/
  | unlock (bytes : List Byte)
  /-- RELEASE_GROUP (R31). -/
  | releaseGroup (bytes : List Byte)
  /-- READ_DISPENSER (R25). -/
  | readDispenser (bytes : List Byte)
  /-- HOME (R89). -/
  | home (bytes : List Byte)
  /-- JOG (R92). -/
  | jog (bytes : List Byte)
  /-- READ_POSITION (R94). -/
  | readPosition (bytes : List Byte)
  /-- BOARD_LOAD (R136). -/
  | boardLoad (bytes : List Byte)
  /-- IMAGE_SKIP (R137). -/
  | imageSkip (bytes : List Byte)
  /-- BOARD_WITHDRAW (R138). -/
  | boardWithdraw (bytes : List Byte)
  /-- WITHDRAW_CLAMP_OPEN (R138). -/
  | withdrawClampOpen
  /-- READ_BOARD (R140). -/
  | readBoard (bytes : List Byte)
  /-- START (R165). -/
  | start (bytes : List Byte)
  /-- STOP (R166). -/
  | stop (bytes : List Byte)
  /-- RUN_RESET (R172). -/
  | runReset (bytes : List Byte)
  /-- ALARM_ACK (R177). -/
  | alarmAck (bytes : List Byte)
  /-- ALARM_CLEAR (R178). -/
  | alarmClear (bytes : List Byte)
  /-- READ_ALARMS (R180). -/
  | readAlarms (bytes : List Byte)
  /-- REVOLUTION_START (R98). -/
  | revolutionStart
  /-- RESTORING_TURN_START (R101). -/
  | restoringTurnStart
  /-- REST_MARK (R112). -/
  | restMark
  /-- TRANSFER_MARK (R102). -/
  | transferMark
  /-- ADVANCE_MARK (R104). -/
  | advanceMark
  /-- LEAD_SENSE_CONFIRM (R103). -/
  | leadSenseConfirm
  /-- PITCH_CONFIRM (R104). -/
  | pitchConfirm
  /-- DROP_MARK (R27). -/
  | dropMark
  /-- VERIFY_MARK (R36). -/
  | verifyMark
  /-- VERIFY_WORD: the bits shifted while VFRM was low, first bit first (R196). -/
  | verifyWord (bits : List Bool)
  /-- GATE_MARK (R108). -/
  | gateMark
  /-- DOWN_MARK (R110). -/
  | downMark
  /-- CLINCH_MARK (R111). -/
  | clinchMark
  /-- CLINCH_CONFIRM (R111). -/
  | clinchConfirm
  /-- UP_MARK (R112). -/
  | upMark
  /-- MARK_TIMEOUT_EXPIRY (R97). -/
  | markTimeoutExpiry
  /-- CHAIN_TIMER_EXPIRY (R104). -/
  | chainTimerExpiry
  /-- ACTUATOR_IN_POSITION (R107). -/
  | actuatorInPosition (a : Actuator)
  /-- ACTUATOR_TIMER_EXPIRY (R107). -/
  | actuatorTimerExpiry (a : Actuator)
  /-- GATE_HOLD_LIMIT_EXPIRY (R109). -/
  | gateHoldLimitExpiry
  /-- AXIS_STEP (R80). -/
  | axisStep (ax : Axis)
  /-- SETTLE_EXPIRY (R81). -/
  | settleExpiry
  /-- INDEX_MARK: the axis's index input becomes active (R87). -/
  | indexMark (ax : Axis)
  /-- HOME_INPUT: the axis's home input becomes active (R90). -/
  | homeInput (ax : Axis)
  /-- HOME_LIMIT_EXPIRY (R91). -/
  | homeLimitExpiry
  /-- GUARD_OPEN (R113). -/
  | guardOpen
  /-- GUARD_CLOSE (R114). -/
  | guardClose
  /-- TAPE_END: the dispenser's tape-end level changes to ACTIVE (true) or INACTIVE (R26). -/
  | tapeEnd (d : Fin 64) (active : Bool)
  /-- DROP_CONFIRM: the dispenser's drop-confirm input becomes active (R28). -/
  | dropConfirm (d : Fin 64)
  /-- INDEX_HOLD_LEVEL_CHANGE: the line becomes released (true) or pulled (R126). -/
  | indexHoldLevelChange (released : Bool)
  /-- LINE_INDEX (R126). -/
  | lineIndex
  /-- ENTRY_SENSOR: a board at the stop (R128). -/
  | entrySensor
  /-- EXIT_SENSOR: the exit sensor has become active and then inactive (R128). -/
  | exitSensor
  /-- CLAMP_CLOSED: the clamp-closed input becomes active (R128). -/
  | clampClosed
  /-- TRANSFER_LIMIT_EXPIRY (R128). -/
  | transferLimitExpiry
  /-- PASSPORT_WAIT_EXPIRY (R133). -/
  | passportWaitExpiry
  /-- SILENCE_EXPIRY of a station (R150). -/
  | silenceExpiry (station : Nat)
  /-- STATUS_INTERVAL_EXPIRY (R151). -/
  | statusIntervalExpiry
  /-- FRAME_BEGIN: the line is free (R145). -/
  | frameBegin
  /-- FRAME_SENT (R144). -/
  | frameSent
  /-- FRAME_ATTEMPT_FAILED (R144). -/
  | frameAttemptFailed
  /-- FRAME_DROPPED (R148). -/
  | frameDropped
  /-- WITHDRAW_FRAME heard (R139). -/
  | withdrawFrame (f : HeardFrame)
  /-- CLAIM_FRAME heard (R158). -/
  | claimFrame (f : HeardFrame)
  /-- OWE_FRAME heard (R155). -/
  | oweFrame (f : HeardFrame)
  /-- ANNOUNCE_FRAME heard (R152). -/
  | announceFrame (f : HeardFrame)
  /-- PASSPORT_HEAD heard (R131). -/
  | passportHead (f : HeardFrame)
  /-- PASSPORT_ENTRY heard (R131). -/
  | passportEntry (f : HeardFrame)
  /-- STATUS_FRAME heard (R150). -/
  | statusFrame (f : HeardFrame)
  /-- ENTRY_SENSOR_EMPTY (R125, condition 7). -/
  | entrySensorEmpty
  deriving DecidableEq, Repr

end Sys2Proof
end

