-- ==== Sys2Proof/WellFormed.lean ====
section
/-! DEFINITION. Which commands can be formed at the part's pins: the operands a sender can deliver (R142 stations,
R143 frames, R183 transactions). `exec` has a meaning for every command, well-formed or not. -/

namespace Sys2Proof

/-- The request codes that name a request (R195). -/
def requestCodes : List Nat :=
  [0x01, 0x02, 0x03, 0x10, 0x11, 0x12, 0x13, 0x14, 0x15, 0x16, 0x17, 0x20, 0x21, 0x22, 0x23, 0x24, 0x25, 0x26,
   0x30, 0x31, 0x32, 0x40, 0x41, 0x42, 0x43, 0x50, 0x51, 0x52, 0x53, 0x54, 0x55]

/-- The byte is the null code of a read transaction or names a request (R183, R195). -/
def knownCode (c : Byte) : Bool := c == 0 || requestCodes.contains c.toNat

/-- A frame as the receiver can have it: as many payload bytes as its length byte says, at most 32 (R143). -/
def HeardFrame.wf (f : HeardFrame) : Bool := f.payload.length == f.length.toNat && decide (f.length.toNat ≤ 32)

/-- The command can be formed at the part's pins. -/
def Instr.wf : Instr → Bool
  | .readTransaction [] => true
  | .readTransaction (b :: _) => b == 0
  | .unknownRequest c _ => !knownCode c
  | .silenceExpiry n => decide (1 ≤ n) && decide (n ≤ 15)
  | .withdrawFrame f => f.wf
  | .claimFrame f => f.wf
  | .oweFrame f => f.wf
  | .announceFrame f => f.wf
  | .passportHead f => f.wf
  | .passportEntry f => f.wf
  | .statusFrame f => f.wf
  | .pinReset | .setup _ | .readStatus _ | .readReports _ | .bankOpen _ | .blockBegin _ | .stepRecord _
  | .blockCommit _ | .bankClose _ | .bankClearAbort _ | .bankErase _ | .partEntry _ | .reelLoad _ | .serviceBegin _
  | .serviceEnd _ | .lock _ | .unlock _ | .releaseGroup _ | .readDispenser _ | .home _ | .jog _ | .readPosition _
  | .boardLoad _ | .imageSkip _ | .boardWithdraw _ | .withdrawClampOpen | .readBoard _ | .start _ | .stop _
  | .runReset _ | .alarmAck _ | .alarmClear _ | .readAlarms _ | .revolutionStart | .restoringTurnStart | .restMark
  | .transferMark | .advanceMark | .leadSenseConfirm | .pitchConfirm | .dropMark | .verifyMark | .verifyWord _
  | .gateMark | .downMark | .clinchMark | .clinchConfirm | .upMark | .markTimeoutExpiry | .chainTimerExpiry
  | .actuatorInPosition _ | .actuatorTimerExpiry _ | .gateHoldLimitExpiry | .axisStep _ | .settleExpiry
  | .indexMark _ | .homeInput _ | .homeLimitExpiry | .guardOpen | .guardClose | .tapeEnd _ _ | .dropConfirm _
  | .indexHoldLevelChange _ | .lineIndex | .entrySensor | .exitSensor | .clampClosed | .transferLimitExpiry
  | .passportWaitExpiry | .statusIntervalExpiry | .frameBegin | .frameSent | .frameAttemptFailed | .frameDropped
  | .entrySensorEmpty => true

end Sys2Proof
end

