-- ==== Sys2Proof/Decode.lean ====
section
/-! DEFINITION. The part's decoders and, after each, its encoder: the host's `decodeTableWord` (the table gives no
row any bits), the fields of bytes (R193, R194), a console transaction (R183, R195), a cam code (R97, R196's chapter),
and a frame on the wire (R143, R193). -/

namespace Sys2Proof

/-- The command that a word spells by the bits of spec/opcode_table.json: no row of the table has bits. -/
def decodeTableWord (_nbits _w : Nat) : Option Instr := none

/-! ### Fields of bytes: most significant byte first, two's complement (chapter 11) -/

/-- The byte at an offset of a body, as a number. -/
def at8 (body : List Byte) (i : Nat) : Nat := (body.getD i 0).toNat

/-- The 2-byte field at an offset. -/
def at16 (body : List Byte) (i : Nat) : Nat := 256 * at8 body i + at8 body (i + 1)

/-- The 4-byte field at an offset. -/
def at32 (body : List Byte) (i : Nat) : Nat := 65536 * at16 body i + at16 body (i + 2)

/-- A 16-bit number read as two's complement. -/
def signed16 (n : Nat) : Int := if n < 32768 then (n : Int) else (n : Int) - 65536

/-- The signed 2-byte field at an offset. -/
def atS16 (body : List Byte) (i : Nat) : Int := signed16 (at16 body i)

/-- A number as a field of the given number of bytes, most significant first. -/
def beBytes : (width : Nat) → Nat → List Byte
  | 0, _ => []
  | w + 1, n => beBytes w (n / 256) ++ [BitVec.ofNat 8 n]

/-- A signed number as a 2-byte two's complement field. -/
def sBytes16 (i : Int) : List Byte := beBytes 2 (i % 65536).toNat

/-! ### Console transactions (R183, R195) -/

/-- The command a transaction carries: the bytes shifted in while chip select was asserted (R183). -/
def decodeTransaction : List Byte → Instr
  | [] => .readTransaction []
  | c :: rest =>
    match c.toNat with
    | 0x00 => .readTransaction (c :: rest)
    | 0x01 => .setup rest
    | 0x02 => .readStatus rest
    | 0x03 => .readReports rest
    | 0x10 => .bankOpen rest
    | 0x11 => .blockBegin rest
    | 0x12 => .stepRecord rest
    | 0x13 => .blockCommit rest
    | 0x14 => .bankClose rest
    | 0x15 => .bankClearAbort rest
    | 0x16 => .bankErase rest
    | 0x17 => .partEntry rest
    | 0x20 => .reelLoad rest
    | 0x21 => .serviceBegin rest
    | 0x22 => .serviceEnd rest
    | 0x23 => .lock rest
    | 0x24 => .unlock rest
    | 0x25 => .releaseGroup rest
    | 0x26 => .readDispenser rest
    | 0x30 => .home rest
    | 0x31 => .jog rest
    | 0x32 => .readPosition rest
    | 0x40 => .boardLoad rest
    | 0x41 => .boardWithdraw rest
    | 0x42 => .imageSkip rest
    | 0x43 => .readBoard rest
    | 0x50 => .start rest
    | 0x51 => .stop rest
    | 0x52 => .runReset rest
    | 0x53 => .alarmAck rest
    | 0x54 => .alarmClear rest
    | 0x55 => .readAlarms rest
    | _ => .unknownRequest c rest

/-- The bytes of the transaction that carries a console command; none for an event of another pin (R195). -/
def encodeTransaction : Instr → Option (List Byte)
  | .readTransaction bytes => some bytes
  | .unknownRequest c rest => some (c :: rest)
  | .setup rest => some (0x01 :: rest)
  | .readStatus rest => some (0x02 :: rest)
  | .readReports rest => some (0x03 :: rest)
  | .bankOpen rest => some (0x10 :: rest)
  | .blockBegin rest => some (0x11 :: rest)
  | .stepRecord rest => some (0x12 :: rest)
  | .blockCommit rest => some (0x13 :: rest)
  | .bankClose rest => some (0x14 :: rest)
  | .bankClearAbort rest => some (0x15 :: rest)
  | .bankErase rest => some (0x16 :: rest)
  | .partEntry rest => some (0x17 :: rest)
  | .reelLoad rest => some (0x20 :: rest)
  | .serviceBegin rest => some (0x21 :: rest)
  | .serviceEnd rest => some (0x22 :: rest)
  | .lock rest => some (0x23 :: rest)
  | .unlock rest => some (0x24 :: rest)
  | .releaseGroup rest => some (0x25 :: rest)
  | .readDispenser rest => some (0x26 :: rest)
  | .home rest => some (0x30 :: rest)
  | .jog rest => some (0x31 :: rest)
  | .readPosition rest => some (0x32 :: rest)
  | .boardLoad rest => some (0x40 :: rest)
  | .boardWithdraw rest => some (0x41 :: rest)
  | .imageSkip rest => some (0x42 :: rest)
  | .readBoard rest => some (0x43 :: rest)
  | .start rest => some (0x50 :: rest)
  | .stop rest => some (0x51 :: rest)
  | .runReset rest => some (0x52 :: rest)
  | .alarmAck rest => some (0x53 :: rest)
  | .alarmClear rest => some (0x54 :: rest)
  | .readAlarms rest => some (0x55 :: rest)
  | _ => none

/-- The bytes of a request after its code: the length byte and a body of that many bytes (R195). -/
def requestBytes (body : List Byte) : List Byte := BitVec.ofNat 8 body.length :: body

/-- The body of a request whose fixed body length is `len`, from the bytes after its code; none when the frame ends
early or its length byte differs. Bytes beyond the body are ignored (R183). -/
def requestBody (len : Nat) : List Byte → Option (List Byte)
  | [] => none
  | n :: rest => if n.toNat = len ∧ len ≤ rest.length then some (rest.take len) else none

/-! ### The cam encoder (R97, 11.5) -/

/-- The mark that a change to a code of MK3..0 delivers: REST 0, TRANSFER to UP 1 to 8; the other codes are none. -/
def decodeCamCode (code : BitVec 4) : Option Instr :=
  match code.toNat with
  | 0 => some .restMark
  | 1 => some .transferMark
  | 2 => some .advanceMark
  | 3 => some .dropMark
  | 4 => some .verifyMark
  | 5 => some .gateMark
  | 6 => some .downMark
  | 7 => some .clinchMark
  | 8 => some .upMark
  | _ => none

/-- The code that delivers a mark. -/
def encodeCamCode : Instr → Option (BitVec 4)
  | .restMark => some 0
  | .transferMark => some 1
  | .advanceMark => some 2
  | .dropMark => some 3
  | .verifyMark => some 4
  | .gateMark => some 5
  | .downMark => some 6
  | .clinchMark => some 7
  | .upMark => some 8
  | _ => none

/-! ### The line on the wire (R143, R193); a bit is true when recessive (1) -/

/-- The value of a kind in the header (R143). -/
def FrameKind.value : FrameKind → Nat
  | .withdraw => 1
  | .claim => 2
  | .owe => 3
  | .announce => 4
  | .passportHead => 5
  | .passportEntry => 6
  | .status => 7

/-- The kind of a value; 0 is none (R143, R148). -/
def kindOfValue (v : Nat) : Option FrameKind :=
  match v with
  | 1 => some .withdraw
  | 2 => some .claim
  | 3 => some .owe
  | 4 => some .announce
  | 5 => some .passportHead
  | 6 => some .passportEntry
  | 7 => some .status
  | _ => none

/-- The class bit of a kind: urgent 0 (false), normal 1 (R143, R193). -/
def FrameKind.normal : FrameKind → Bool
  | .withdraw | .claim | .owe => false
  | .announce | .passportHead | .passportEntry | .status => true

/-- The payload length of a kind (R143). -/
def FrameKind.payloadLength : FrameKind → Nat
  | .withdraw => 4
  | .claim => 8
  | .owe => 19
  | .announce => 8
  | .passportHead => 11
  | .passportEntry => 22
  | .status => 6

/-- The header byte: class in bit 7, kind in bits 6..4, sender in bits 3..0 (R193). -/
def headerByte (cls : Bool) (k : FrameKind) (sender : BitVec 4) : Byte :=
  BitVec.ofNat 8 ((if cls then 128 else 0) + 16 * k.value + sender.toNat)

/-- The bits of a byte, most significant first. -/
def bitsOfByte (b : Byte) : List Bool := (List.range 8).map fun i => b.getLsbD (7 - i)

/-- The number a list of bits spells, most significant first. -/
def natOfBits (bits : List Bool) : Nat := bits.foldl (fun n b => 2 * n + (if b then 1 else 0)) 0

/-- One bit into the CRC register: generator x^16 + x^12 + x^5 + 1 (R193). -/
def crcStep (c : BitVec 16) (b : Bool) : BitVec 16 :=
  if c.msb != b then (c <<< 1) ^^^ 0x1021#16 else c <<< 1

/-- The CRC of bytes in the order sent, register initially all ones, no final inversion (R193). -/
def crcOfBytes (bytes : List Byte) : BitVec 16 :=
  (bytes.flatMap bitsOfByte).foldl crcStep 0xFFFF#16

/-- The CRC of a frame: over header, length and payload (R193). -/
def frameCrc (k : FrameKind) (f : HeardFrame) : BitVec 16 :=
  crcOfBytes (headerByte f.cls k f.sender :: f.length :: f.payload)

/-- Bits with one bit of the opposite level after every five of one level, inserted bits counted (R193).
`run` bits of level `last` stand before the bits. -/
def stuffBits : List Bool → Nat → Bool → List Bool
  | [], _, _ => []
  | b :: bs, run, last =>
    let run' := if b = last then run + 1 else 1
    if run' = 5 then b :: (!b) :: stuffBits bs 1 (!b) else b :: stuffBits bs run' b

/-- The next `n` bits with the stuff bits removed, the run and level they end with, and the bits left; none when the
wire breaks off or six bits of one level stand together (R193). -/
def unstuffBits : List Bool → Nat → Nat → Bool → Option (List Bool × Nat × Bool × List Bool)
  | bits, 0, run, last => some ([], run, last, bits)
  | [], _ + 1, _, _ => none
  | b :: bs, n + 1, run, last =>
    if run = 5 then
      if b = last then none else unstuffBits bs (n + 1) 1 b
    else
      match unstuffBits bs n (if b = last then run + 1 else 1) b with
      | none => none
      | some (out, r, l, rest) => some (b :: out, r, l, rest)

/-- The stuff bit that may follow the last CRC bit is taken off (log 33). -/
def dropLastStuff (run : Nat) (last : Bool) (bits : List Bool) : Option (List Bool) :=
  if run = 5 then
    match bits with
    | b :: bs => if b = last then none else some bs
    | [] => none
  else some bits

/-- The end field: 7 recessive bits (R193). -/
def endFieldHeard (bits : List Bool) : Bool := decide (7 ≤ bits.length) && (bits.take 7).all id

/-- Bits in groups of eight as bytes; `n` of them. -/
def bytesOfBits : Nat → List Bool → List Byte
  | 0, _ => []
  | n + 1, bits => BitVec.ofNat 8 (natOfBits (bits.take 8)) :: bytesOfBits n (bits.drop 8)

/-- The command that hears a frame of a kind. -/
def frameCommand (k : FrameKind) (f : HeardFrame) : Instr :=
  match k with
  | .withdraw => .withdrawFrame f
  | .claim => .claimFrame f
  | .owe => .oweFrame f
  | .announce => .announceFrame f
  | .passportHead => .passportHead f
  | .passportEntry => .passportEntry f
  | .status => .statusFrame f

/-- The command the receiver takes from the bits of one frame, start bit first: the frame's, or FRAME_DROPPED for a
stuffing or end field violation or a header that names no kind (R148, R193). -/
def decodeWire (bits : List Bool) : Instr :=
  match unstuffBits bits 17 0 true with
  | none => .frameDropped
  | some (head, run, last, rest) =>
    let header := (bytesOfBits 1 (head.drop 1)).headD 0
    let len := (bytesOfBits 1 (head.drop 9)).headD 0
    if head.headD true || decide (32 < len.toNat) then .frameDropped
    else
      match unstuffBits rest (8 * len.toNat + 16) run last with
      | none => .frameDropped
      | some (body, run', last', tail) =>
        match dropLastStuff run' last' tail with
        | none => .frameDropped
        | some ending =>
          if endFieldHeard ending then
            match kindOfValue (header.toNat / 16 % 8) with
            | none => .frameDropped
            | some k =>
              frameCommand k
                (HeardFrame.mk (header.getLsbD 7) (BitVec.ofNat 4 header.toNat) len (bytesOfBits len.toNat body)
                  (BitVec.ofNat 16 (natOfBits (body.drop (8 * len.toNat)))))
          else .frameDropped

/-- The bits of a frame before stuffing: start bit, header, length, payload, CRC (R193). -/
def frameBits (k : FrameKind) (f : HeardFrame) : List Bool :=
  false :: (headerByte f.cls k f.sender :: f.length :: f.payload ++ beBytes 2 f.crc.toNat).flatMap bitsOfByte

/-- The bits the sender drives for a frame (R193). -/
def encodeWire (k : FrameKind) (f : HeardFrame) : List Bool :=
  stuffBits (frameBits k f) 0 true ++ List.replicate 7 true

/-- A frame of a kind with the length and CRC its sender gives it. -/
def makeFrame (k : FrameKind) (sender : Nat) (payload : List Byte) : HeardFrame :=
  let f := HeardFrame.mk k.normal (BitVec.ofNat 4 sender) (BitVec.ofNat 8 payload.length) payload 0
  HeardFrame.mk f.cls f.sender f.length f.payload (frameCrc k f)

end Sys2Proof
end

