-- ==== Sys2Proof/Config.lean ====
section
/-! DEFINITION. The constants the spec fixes for every station, and the free values: constants with no body
for what the spec leaves open (log 23). -/

namespace Sys2Proof.Config

/-- Greatest value of the move arithmetic, in microseconds (00, Units and conventions). -/
abbrev maxMicros : Nat := 16777215
/-- Context slots of the board manager (R118). -/
abbrev slots : Nat := 5
/-- Greatest length of a retry list (R55, R120). -/
abbrev retryMax : Nat := 8
/-- Greatest length of an adopted list (R120). -/
abbrev adoptedMax : Nat := 16
/-- Greatest number of passport entries of a context (R120). -/
abbrev entriesMax : Nat := 32
/-- Greatest retry count of an item (R54). -/
abbrev retryCountMax : Nat := 2
/-- Assignments of one plan pass (R43). -/
abbrev budget : Nat := 8
/-- Places of the urgent queue (R146). -/
abbrev urgentMax : Nat := 8
/-- ANNOUNCE frames the normal queue holds at most (R147). -/
abbrev announceMax : Nat := 7
/-- Reports the report queue holds at most (R189). -/
abbrev reportMax : Nat := 16
/-- Entries the alarm list holds at most (R176). -/
abbrev alarmMax : Nat := 16
/-- Time the index hold line stays released before a line index, in microseconds (R126). -/
abbrev qualifyMicros : Nat := 2000
/-- The status interval, in microseconds (R151). -/
abbrev statusMicros : Nat := 100000

/-- FREE VALUE (log 23): the number that stands in a response field of the given width (in bytes) whose value is
absent. R195 gives the place of the field and not the code of an absent value. -/
opaque absentField : Nat → Nat

/-- FREE VALUE (log 23): the 1-byte count that precedes a list of the given length above 255 in a response body.
R195 gives the count one byte, and a context may hold 512 own items. -/
opaque longListCount : Nat → Byte

end Sys2Proof.Config
end

