-- ==== Sys2Proof/Machine/State.lean ====
section
/-! DEFINITION. The part's state as plain data: one record for each block of 00 ("Blocks of the part"), the input
levels, and the queue of commands waiting. INVENTORY.md lists every field with its rule and reset value. -/

namespace Sys2Proof.Machine

/-- A timer: none while it is not started, else the microseconds left. -/
abbrev Timer := Option Nat

/-! ### Program store (R1) -/

/-- One of the two banks. -/
inductive BankId where
  | zero | one
  deriving DecidableEq, Repr

/-- State of a bank (R1). -/
inductive BankState where
  | empty | loading | aborted | ready
  deriving DecidableEq, Repr

/-- Abort causes in the order of R11, numbered 1..12 by R195. -/
inductive AbortCause where
  | blockSize | blockExcess | wrongBank | stepExcess | sequence | field | image | partZero | geometry | span
  | duplicateId | shortClose
  deriving DecidableEq, Repr

/-- How the anvil bends the cut leads (R4, R111). -/
inductive ClinchMode where
  | inward | outward | cutOnly
  deriving DecidableEq, Repr

/-- Holes A and B of a step, image-local (R4). -/
structure Holes where
  aX : Int
  aY : Int
  bX : Int
  bY : Int
  deriving DecidableEq, Repr

/-- A step record as the bank stores it, with its derived span index (R4, R5). -/
structure StepRecord where
  id : Nat
  image : Nat
  holes : Holes
  part : Nat
  mode : ClinchMode
  span : Nat
  deriving DecidableEq, Repr

/-- A present entry of an image table; `turned` is rotation 180 (R1). -/
structure Image where
  ox : Nat
  oy : Nat
  turned : Bool
  deriving DecidableEq, Repr

/-- A program bank (R1); the committed count is the number of committed steps. -/
structure Bank where
  state : BankState
  programId : Option Nat
  declared : Nat
  images : List (Option Image)
  steps : List StepRecord
  abortCause : Option AbortCause
  deriving DecidableEq, Repr

/-- The EMPTY contents of R1. -/
def Bank.emptied : Bank :=
  { state := .empty, programId := none, declared := 0, images := List.replicate 8 none, steps := [],
    abortCause := none }

/-- An open block (R1). -/
structure OpenBlock where
  bank : BankId
  size : Nat
  steps : List StepRecord
  deriving DecidableEq, Repr

/-- Kind of a part (1.6). -/
inductive PartKind where
  | nonpolar | polar | unchecked
  deriving DecidableEq, Repr

/-- A present part table entry (1.6). -/
structure PartEntry where
  kind : PartKind
  cls : Nat
  lo : Nat
  hi : Nat
  deriving DecidableEq, Repr

/-- The program store (R1). `parts` holds part code c at index c - 1. -/
structure Store where
  b0 : Bank
  b1 : Bank
  parts : List (Option PartEntry)
  block : Option OpenBlock
  deriving DecidableEq, Repr

/-! ### Dispenser unit (R19, R20) -/

/-- State of a dispenser, in the order of R19. -/
inductive DispState where
  | absent | unloaded | ready | out | service | locked | jammed
  deriving DecidableEq, Repr

/-- A dispenser record (R19). `tapeEnd` is true at level ACTIVE. -/
structure Dispenser where
  position : Nat
  state : DispState
  part : Option Nat
  quantity : Nat
  faults : Nat
  totalDrops : Nat
  tapeEnd : Bool
  outstanding : Option Nat
  missed : Option Nat
  deriving DecidableEq, Repr

/-- A dispenser record after pin reset (R19; the tape-end level: log 8). -/
def Dispenser.initial : Dispenser :=
  { position := 0, state := .unloaded, part := none, quantity := 0, faults := 0, totalDrops := 0, tapeEnd := false,
    outstanding := none, missed := none }

/-- A group record (R20). -/
structure Group where
  faults : Nat
  quarantined : Bool
  deriving DecidableEq, Repr

/-- The dispenser unit: 64 dispensers, 16 groups. -/
structure DispUnit where
  records : List Dispenser
  groups : List Group
  deriving DecidableEq, Repr

/-! ### Items and poses -/

/-- An item key: board serial, owner station, step id (00). -/
structure ItemKey where
  serial : Nat
  owner : Nat
  step : Nat
  deriving DecidableEq, Repr

/-- What an OWE frame, a passport entry and an adopted entry carry of an item (R57, R122, R123). -/
structure ItemData where
  key : ItemKey
  image : Nat
  holes : Holes
  part : Nat
  span : Nat
  mode : ClinchMode
  deriving DecidableEq, Repr

/-- Direction of the head (R65). -/
inductive Bearing where
  | east | north | west | south
  deriving DecidableEq, Repr

/-- A pose (R65 to R67). -/
structure Pose where
  tx : Nat
  ty : Nat
  bearing : Bearing
  span : Nat
  mode : ClinchMode
  deriving DecidableEq, Repr

/-- Item origin (R33). -/
inductive Origin where
  | own | adopted
  deriving DecidableEq, Repr

/-! ### Chain tracker and verify port (R32 to R36) -/

/-- What a live clip holds; `board` is the context slot it references (R33). -/
structure ClipItem where
  key : ItemKey
  board : Nat
  disp : Nat
  pose : Pose
  origin : Origin
  deriving DecidableEq, Repr

/-- A clip record, each state with the fields R33 gives it. -/
inductive Clip where
  | empty
  | planned (i : ClipItem)
  | loaded (i : ClipItem)
  | verified (i : ClipItem) (flip : Bool)
  | rejected (key : ItemKey) (board : Option Nat) (disp : Nat) (origin : Origin)
  | surplus (key : Option ItemKey) (board : Option Nat) (disp : Option Nat) (origin : Option Origin)
  | unknown
  deriving DecidableEq, Repr

/-- The measurement record (R36, R196). -/
structure Measurement where
  key : ItemKey
  position : Nat
  disp : Nat
  entry : PartEntry
  tag : Nat
  deriving DecidableEq, Repr

/-- The chain plan, the purge-required flag and the verify port (R32, R36, R196). -/
structure Chain where
  clips : List Clip
  purgeRequired : Bool
  measurement : Option Measurement
  tagCount : Nat
  deriving DecidableEq, Repr

/-! ### Planner (R43) -/

/-- How a plan pass ended (R43). -/
inductive EndCause where
  | budget | waiting | exhausted | none
  deriving DecidableEq, Repr

/-- The summary of the last plan pass (R43). -/
structure PassSummary where
  frontier : Int
  assignments : Nat
  owed : Nat
  cause : EndCause
  deriving DecidableEq, Repr

/-- The summary before any pass has run (R43). -/
def PassSummary.initial : PassSummary := { frontier := -1, assignments := 0, owed := 0, cause := .none }

/-! ### Pose unit (R62) -/

/-- The last settled pose (R71). -/
structure LastPose where
  x : Nat
  y : Nat
  bearing : Bearing
  headSpan : Nat
  clinchSpan : Nat
  mode : ClinchMode
  valid : Bool
  deriving DecidableEq, Repr

/-- The rate tables of both axes: the intervals r_0..r_(L-1) (R69). -/
structure Rates where
  x : List Nat
  y : List Nat
  deriving DecidableEq, Repr

/-- The positioning record (R62, R73, R74): the clip aimed at and its pose, both none for a JOG, which holds a target alone
(R92); the target; the prediction Tp and the countdown R. -/
structure Positioning where
  clip : Option ItemKey
  pose : Option Pose
  tx : Nat
  ty : Nat
  tp : Nat
  r : Nat
  atUp : Bool
  deriving DecidableEq, Repr

/-- The pose unit (R62). -/
structure PoseUnit where
  rates : Option Rates
  last : LastPose
  clean : Option Nat
  positioning : Option Positioning
  holdMark : Bool
  deriving DecidableEq, Repr

/-! ### Table drive (R78) -/

/-- State of a move (R78). -/
inductive MoveState where
  | waiting | stepping | decelerating | held | settling
  deriving DecidableEq, Repr

/-- An axis of a move (R78, R80, R84), in each case with its direction, its step count `n` and the steps it still has to
issue: standing with `toGo` steps not issued; on its profile with the interval before step `k` of `n` running, so that
n - k + 1 are still to issue; or in a stop sequence with the interval of ramp index `j` running and `toGo` still to issue to
the target. `left` is the time left of that interval. -/
inductive AxisMotion where
  | done (up : Bool) (n toGo : Nat)
  | profile (up : Bool) (n k : Nat) (left : Nat)
  | stopping (up : Bool) (n toGo j : Nat) (left : Nat)
  deriving DecidableEq, Repr

/-- A move of one or both axes (R78, R80); `ending` when a halt ends it at its stop (R86). -/
structure Motion where
  tx : Nat
  ty : Nat
  state : MoveState
  x : AxisMotion
  y : AxisMotion
  settle : Timer
  ending : Bool
  deriving DecidableEq, Repr

/-- Phase of an axis in HOME (R90); `atTravel` when the search has reached the travel limit and waits. -/
inductive HomePhase where
  | approach | search | atTravel | ended
  deriving DecidableEq, Repr

/-- An axis in HOME with its running step interval, none while it stands (R90). -/
structure HomeAxis where
  phase : HomePhase
  interval : Timer
  deriving DecidableEq, Repr

/-- A HOME in progress (R89 to R91): `begun` once its motion has begun; the actuators that have reported. -/
structure HomeRun where
  begun : Bool
  x : HomeAxis
  y : HomeAxis
  limit : Timer
  bearingDone : Bool
  headSpanDone : Bool
  clinchSpanDone : Bool
  clinchModeDone : Bool
  deriving DecidableEq, Repr

/-- The operation of the table drive (R78). -/
inductive Operation where
  | none
  | move (clip : ItemKey) (m : Motion)
  | home (h : HomeRun)
  | jog (ax : Axis) (check : Bool) (m : Motion)
  deriving DecidableEq, Repr

/-- The table drive (R78). The direction outputs are true in the positive direction. -/
structure Table where
  x : Nat
  y : Nat
  phaseX : Option Nat
  phaseY : Option Nat
  homeValid : Bool
  op : Operation
  dirX : Bool
  dirY : Bool
  deriving DecidableEq, Repr

/-! ### Stroke controller (R96) -/

/-- Shaft state (R96). -/
inductive Shaft where
  | atRest | turning | pitchHeld | gateHeld | stopped | restoring
  deriving DecidableEq, Repr

/-- The marks in their order from REST (R97). -/
inductive Mark where
  | rest | transfer | advance | drop | verify | gate | down | clinch | up
  deriving DecidableEq, Repr

/-- Kind of a revolution (R99). -/
inductive RevKind where
  | insert | index | purge
  deriving DecidableEq, Repr

/-- Lead-sense state (R96). -/
inductive LeadState where
  | notExpected | awaited | sensed | missed
  deriving DecidableEq, Repr

/-- Clinch state (R96). -/
inductive ClinchState where
  | notExpected | awaited | confirmed | missed
  deriving DecidableEq, Repr

/-- The revolution record (R96), with the time since the REST mark that started it (R75). -/
structure Revolution where
  kind : RevKind
  descending : Bool
  leftGate : Bool
  last : Mark
  lead : LeadState
  clinch : ClinchState
  elapsed : Nat
  deriving DecidableEq, Repr

/-- Chain step state (R96). -/
inductive ChainStep where
  | none | started | confirmed
  deriving DecidableEq, Repr

/-- The jaw record (R96). -/
inductive Jaw where
  | empty
  | item (key : ItemKey) (board : Option Nat) (pose : Pose) (flip : Bool) (origin : Origin)
  | waste (board : Option Nat)
  deriving DecidableEq, Repr

/-- An actuator record: the value commanded while SETTING, the actuator timer, and the value for which the in-position
input is active (R96, R107; log 11). Values: bearing code 0..3, span index, clinch mode code. -/
structure ActRecord where
  setting : Option Nat
  timer : Timer
  standsAt : Option Nat
  deriving DecidableEq, Repr

/-- The stroke controller (R96, R101). `keptBack` holds the actuators whose commands the open guard keeps back (R106, R114; log
62). -/
structure Stroke where
  shaft : Shaft
  rev : Option Revolution
  restoreLast : Option Mark
  restoreHeld : Bool
  chainStep : ChainStep
  chainTimer : Timer
  jaw : Jaw
  bearing : ActRecord
  headSpan : ActRecord
  clinchSpan : ActRecord
  clinchMode : ActRecord
  keptBack : List Actuator
  missCount : Nat
  revCount : Nat
  markTimer : Timer
  gateTimer : Timer
  jawOut : Bool
  descentOut : Bool
  clinchOut : Bool
  chainDriveOut : Bool
  deriving DecidableEq, Repr

/-! ### Board manager (R118) -/

/-- State of a context (R118). -/
inductive CtxState where
  | expected | arriving | current | departing
  deriving DecidableEq, Repr

/-- Pairing of a context (R118). -/
inductive Pairing where
  | none | awaited | settled
  deriving DecidableEq, Repr

/-- State of an own item (R118). -/
inductive OwnState where
  | pending | inChain | inserted | owed | skipped
  deriving DecidableEq, Repr

/-- An own item (R118). -/
structure OwnItem where
  state : OwnState
  retries : Nat
  deriving DecidableEq, Repr

/-- State of an adopted entry (R122). -/
inductive AdoptedState where
  | pending | inChain | inserted | dropped
  deriving DecidableEq, Repr

/-- An entry of the adopted list (R122). -/
structure Adopted where
  item : ItemData
  retries : Nat
  state : AdoptedState
  deriving DecidableEq, Repr

/-- State of a passport entry (R123). -/
inductive EntryState where
  | opened
  | claimed (station : Nat)
  | madeUp (station : Nat)
  deriving DecidableEq, Repr

/-- A passport entry (R123). -/
structure Entry where
  item : ItemData
  state : EntryState
  deriving DecidableEq, Repr

/-- The four flags a passport head carries (R118, R194). -/
structure PassFlags where
  noPassport : Bool
  partialPassport : Bool
  unidentified : Bool
  passportFull : Bool
  deriving DecidableEq, Repr

/-- A board context (R118). The passport entries are the upstream run followed by the own run (R123). `fromHead` tells a context
that R133 made from a passport head from one that R129 created, which R133 treats apart (log 18). -/
structure Context where
  serial : Nat
  programId : Option Nat
  bank : Option BankId
  position : Nat
  state : CtxState
  entered : Bool
  planClosed : Bool
  noProgram : Bool
  finished : Bool
  flags : PassFlags
  pairing : Pairing
  history : PassFlags
  skippedStations : BitVec 16
  skipMask : BitVec 8
  own : List OwnItem
  cursor : Nat
  retry : List ItemKey
  adopted : List Adopted
  upstream : List Entry
  ownRun : List Entry
  ownInserted : Nat
  madeUpInserted : Nat
  owed : Nat
  ejected : Nat
  clinchSuspect : Nat
  fromHead : Bool
  deriving DecidableEq, Repr

/-- No flag set. -/
def PassFlags.clear : PassFlags :=
  { noPassport := false, partialPassport := false, unidentified := false, passportFull := false }

/-- A context as R118 creates it: EXPECTED, no flags, no items. -/
def Context.created (serial : Nat) (programId : Option Nat) (position : Nat) (mask : BitVec 8) : Context :=
  { serial := serial, programId := programId, bank := none, position := position, state := .expected,
    entered := false, planClosed := false, noProgram := false, finished := false, flags := PassFlags.clear,
    pairing := .none, history := PassFlags.clear, skippedStations := 0, skipMask := mask, own := [], cursor := 0,
    retry := [], adopted := [], upstream := [], ownRun := [], ownInserted := 0, madeUpInserted := 0, owed := 0,
    ejected := 0, clinchSuspect := 0, fromHead := false }

/-- Content of a PASSPORT_HEAD (R130, R143); program id 0 for none. -/
structure PassHead where
  serial : Nat
  programId : Nat
  mask : BitVec 8
  count : Nat
  flags : PassFlags
  skipped : BitVec 16
  deriving DecidableEq, Repr

/-- Run state (R163), in the order of R194's codes. -/
inductive RunState where
  | unconfigured | idle | ready | running | stopping | halting | halted
  deriving DecidableEq, Repr

/-- Content of a STATUS frame (R143). -/
structure StatusContent where
  run : RunState
  serial : Nat
  holding : Bool
  alarm : Bool
  deriving DecidableEq, Repr

/-- A line frame's content (R143). -/
inductive Frame where
  | withdraw (serial : Nat)
  | claim (key : ItemKey) (image : Nat)
  | owe (item : ItemData)
  | announce (serial programId position : Nat) (mask : BitVec 8)
  | passportHead (h : PassHead)
  | passportEntry (index : Nat) (e : Entry)
  | status (c : StatusContent)
  deriving DecidableEq, Repr

/-- The passport-in buffer: a head and its entries by index (R131). -/
structure PassIn where
  head : PassHead
  entries : List (Option Entry)
  deriving DecidableEq, Repr

/-- The load slot's values (R136). -/
structure LoadSlot where
  serial : Nat
  programId : Nat
  mask : BitVec 8
  deriving DecidableEq, Repr

/-- A board transfer in progress (R127, R128): a context departs; a board is expected though no context is held; the
exit sensor has cleared; the board has been reported at the stop; the limit; the limit has expired (log 16). -/
structure Transfer where
  departs : Bool
  expected : Bool
  exited : Bool
  arrived : Bool
  limit : Timer
  jammed : Bool
  deriving DecidableEq, Repr

/-- The board manager (R118, R125 to R138). -/
structure Boards where
  slots : List (Option Context)
  passIn : Option PassIn
  passOut : List Frame
  load : Option LoadSlot
  transfer : Option Transfer
  pulled : Bool
  fiveAlone : Bool
  qualify : Timer
  passWait : Timer
  clampOut : Bool
  clampWanted : Bool
  withdrawOpen : Bool
  deriving DecidableEq, Repr

/-! ### Line controller (R142) -/

/-- A roster entry (R142). -/
structure RosterEntry where
  present : Bool
  silence : Timer
  last : Option StatusContent
  deriving DecidableEq, Repr

/-- Where a frame was taken from (R145). -/
inductive Source where
  | urgent | passport | normal
  deriving DecidableEq, Repr

/-- The frame in transmission (R142): its source, none once that source has been emptied; withdrawn when it leaves the
urgent queue at the end of its attempt (R162). -/
structure Sending where
  frame : Frame
  source : Option Source
  withdrawn : Bool
  deriving DecidableEq, Repr

/-- The line controller (R142). `roster` holds station n at index n - 1; `begunNormal` while the transmission of the frame at
the front of the normal queue has begun and it has not been sent (R147). -/
structure Line where
  urgent : List Frame
  normal : List Frame
  begunNormal : Bool
  roster : List RosterEntry
  rxErrors : Nat
  announceLoss : Nat
  statusTimer : Option Nat
  sending : Option Sending
  deriving DecidableEq, Repr

/-! ### Jam supervisor (R163) -/

/-- Stop qualifier (R163). -/
inductive StopQualifier where
  | atRest | atBoardEnd
  deriving DecidableEq, Repr

/-- Alarm classes in the order of section 9.6. -/
inductive AlarmClass where
  | strokeStall | chainStall | dropMiss | verifyReject | verifyFault | transferMiss | headJam | clinchFault
  | tableSlip | tableLate | actuatorFault | boardJam | homeFault | duplicateStation | dispenserJam
  | groupQuarantine | downstreamAbsent
  deriving DecidableEq, Repr

/-- Source of an alarm (R163). -/
inductive AlarmSource where
  | none
  | dispenser (d : Nat)
  | group (g : Nat)
  | axis (a : Axis)
  | actuator (a : Actuator)
  deriving DecidableEq, Repr

/-- An alarm list entry (R163); the severity is the class's. -/
structure AlarmEntry where
  number : Nat
  cls : AlarmClass
  source : AlarmSource
  firstRev : Nat
  count : Nat
  acked : Bool
  deriving DecidableEq, Repr

/-- The jam supervisor (R163); the guard-hold flag is the guard input. -/
structure Jam where
  run : RunState
  qualifier : Option StopQualifier
  alarms : List AlarmEntry
  nextNumber : Nat
  listOverflow : Bool
  unrecordedHalt : Bool
  purgeCount : Nat
  deriving DecidableEq, Repr

/-! ### Console port (R182) -/

/-- Role of a station, in the order of R195's codes. -/
inductive Role where
  | first | middle | last | single
  deriving DecidableEq, Repr

/-- Ramp parameters of an axis (R186). -/
structure Ramp where
  vs : Nat
  dv : Nat
  vm : Nat
  deriving DecidableEq, Repr

/-- The mark angles (R186). -/
structure Angles where
  transfer : Nat
  advance : Nat
  drop : Nat
  verify : Nat
  gate : Nat
  down : Nat
  clinch : Nat
  up : Nat
  deriving DecidableEq, Repr

/-- The setup record (R186); times and timers in milliseconds. -/
structure Setup where
  station : Nat
  role : Role
  verifyPos : Nat
  verifier : Bool
  positions : List Nat
  angles : Angles
  nominal : Nat
  travelX : Nat
  travelY : Nat
  rampX : Ramp
  rampY : Ramp
  datumX : Int
  datumY : Int
  settle : Nat
  quarterTurn : Nat
  spanTime : Nat
  modeTime : Nat
  markTimeout : Nat
  chainTimer : Nat
  gateLimit : Nat
  actuatorTimer : Nat
  transferLimit : Nat
  homeLimit : Nat
  passportWait : Nat
  silence : Nat
  quarantine : Nat
  deriving DecidableEq, Repr

/-- Result codes in the order of R195. -/
inductive ResultCode where
  | done | started | refusedState | refusedRange | refusedInUse | refusedFull | blockAborted | unknownRequest
  deriving DecidableEq, Repr

/-- Outcome of a JOG (R93). -/
inductive JogOutcome where
  | reached | stopped | slipped
  deriving DecidableEq, Repr

/-- Content of a report, in the order of R191. -/
inductive ReportKind where
  | boardDone (serial : Nat) (programId : Option Nat) (ownInserted madeUp owed ejected suspect skipped : Nat)
      (entered planClosed noProgram finished : Bool) (flags : PassFlags)
  | boardResult (serial notMadeUp : Nat) (complete : Bool)
  | lostItem (serial : Nat) (key : ItemKey) (part : Nat)
  | unknownBoard (station : Nat)
  | reelOut (d : Nat) (part : Option Nat) (totalDrops : Nat)
  | homeDone (phaseX phaseY : Option Nat)
  | jogDone (ax : Axis) (target counter : Nat) (outcome : JogOutcome)
  deriving DecidableEq, Repr

/-- A report with its number (R189). -/
structure Report where
  number : Nat
  kind : ReportKind
  deriving DecidableEq, Repr

/-- What READ_DISPENSER returns (R25). -/
structure DispenserReply where
  position : Nat
  state : DispState
  part : Option Nat
  quantity : Nat
  faults : Nat
  totalDrops : Nat
  tapeEnd : Bool
  dropOutstanding : Bool
  available : Bool
  groupFaults : Nat
  groupQuarantined : Bool
  deriving DecidableEq, Repr

/-- The operation as reads report it (R78, R94). -/
inductive OpName where
  | none | move | home | jog
  deriving DecidableEq, Repr

/-- What READ_POSITION returns (R94). -/
structure PositionReply where
  x : Nat
  y : Nat
  moving : Bool
  settled : Bool
  homeValid : Bool
  phaseX : Option Nat
  phaseY : Option Nat
  op : OpName
  moveState : Option MoveState
  deriving DecidableEq, Repr

/-- What READ_ALARMS returns (R180). -/
structure AlarmsReply where
  run : RunState
  qualifier : Option StopQualifier
  listOverflow : Bool
  unrecordedHalt : Bool
  purgeRequired : Bool
  purgeCount : Nat
  guardHold : Bool
  lamp : Bool
  horn : Bool
  alarms : List AlarmEntry
  deriving DecidableEq, Repr

/-- A bank in READ_STATUS (R2). -/
structure BankStatus where
  state : BankState
  programId : Option Nat
  declared : Nat
  committed : Nat
  inUse : Bool
  abortCause : Option AbortCause
  deriving DecidableEq, Repr

/-- A context slot in READ_STATUS (R119). -/
structure SlotStatus where
  serial : Nat
  state : CtxState
  position : Nat
  entered : Bool
  planClosed : Bool
  noProgram : Bool
  finished : Bool
  flags : PassFlags
  pairing : Pairing
  deriving DecidableEq, Repr

/-- The number of clip records in each state (R32). -/
structure ClipCounts where
  empty : Nat
  planned : Nat
  loaded : Nat
  verified : Nat
  rejected : Nat
  surplus : Nat
  unknown : Nat
  deriving DecidableEq, Repr

/-- The seven conditions of R125. -/
structure HoldConditions where
  c1 : Bool
  c2 : Bool
  c3 : Bool
  c4 : Bool
  c5 : Bool
  c6 : Bool
  c7 : Bool
  deriving DecidableEq, Repr

/-- The retry counts of a context (R54, R55): the length of the retry list, the counts of the own items in bank order, and
those of the adopted items with their keys in list order. -/
structure RetryStatus where
  listed : Nat
  own : List Nat
  adopted : List (ItemKey × Nat)
  deriving DecidableEq, Repr

/-- What READ_STATUS shows of an actuator record: the value commanded and the actuator timer while SETTING, none while IDLE
(R96). -/
structure ActStatus where
  setting : Option Nat
  timer : Timer
  deriving DecidableEq, Repr

/-- What READ_STATUS returns, its sections in the order of R188; after them the retry counts that R54 and R55 ask for
(log 46). The period is none before SETUP (R62, R188; log 59). -/
structure StatusReply where
  setupDone : Bool
  station : Option (Nat × Role)
  reportCount : Nat
  reportOverflow : Bool
  nextReport : Nat
  alertAsserted : Bool
  run : RunState
  qualifier : Option StopQualifier
  guardHold : Bool
  bank0 : BankStatus
  bank1 : BankStatus
  openBlock : Option (BankId × Nat)
  clips : ClipCounts
  purgeRequired : Bool
  purgeCount : Nat
  pass : PassSummary
  lastPose : LastPose
  cleanPeriod : Option Nat
  positioning : Option (Nat × Nat × Nat × Nat)
  op : OpName
  moveState : Option MoveState
  homeValid : Bool
  shaft : Shaft
  revolution : Option (RevKind × Mark)
  jawItem : Option ItemKey
  bearing : ActStatus
  headSpan : ActStatus
  clinchSpan : ActStatus
  clinchMode : ActStatus
  missCount : Nat
  revCount : Nat
  slots : List (Option SlotStatus)
  load : Option LoadSlot
  passIn : Option (Nat × Nat)
  passOutLeft : Nat
  pulled : Bool
  conditions : HoldConditions
  lineReleased : Bool
  urgentCount : Nat
  urgentFront : Option FrameKind
  normalCount : Nat
  normalFront : Option FrameKind
  roster : List (Bool × Option StatusContent)
  rxErrors : Nat
  announceLoss : Nat
  sending : Bool
  retries : List (Option RetryStatus)
  deriving DecidableEq, Repr

/-- The body of a response (R184, R195). -/
inductive Body where
  | empty
  | aborted (b : BankId) (c : AbortCause)
  | dispenserState (st : DispState)
  | dispenser (r : DispenserReply)
  | position (r : PositionReply)
  | board (c : Context)
  | alarms (r : AlarmsReply)
  | status (r : StatusReply)
  | reports (rs : List Report) (left : Nat) (overflow : Bool)
  deriving DecidableEq, Repr

/-- A response frame (R182, R195); request code 0 is NONE. -/
structure Response where
  result : ResultCode
  code : Byte
  number : Nat
  body : Body
  deriving DecidableEq, Repr

/-- The console port (R182); the setup-done flag is the presence of the setup record. -/
structure Console where
  response : Response
  setup : Option Setup
  reports : List Report
  overflow : Bool
  nextReport : Nat
  deriving DecidableEq, Repr

/-! ### Inputs -/

/-- The levels of the inputs that a rule reads as levels (R87, R90, R125, R126, R128, R163); the home and index inputs:
log 10. -/
structure Inputs where
  guardOpen : Bool
  entryBoard : Bool
  clampClosed : Bool
  lineReleased : Bool
  homeX : Bool
  homeY : Bool
  indexX : Bool
  indexY : Bool
  deriving DecidableEq, Repr

/-- The part's whole state, and the queue of the commands waiting, first in first out (log 1). -/
structure State where
  store : Store
  disp : DispUnit
  chain : Chain
  planner : PassSummary
  pose : PoseUnit
  table : Table
  stroke : Stroke
  boards : Boards
  line : Line
  jam : Jam
  console : Console
  inputs : Inputs
  pending : List Instr
  deriving DecidableEq, Repr

/-- Reasons the model's run could end with a fault: none. Every rule of the spec gives its command an effect in every
state, so no meaning raises a fault (safe: nothing is cut short). -/
inductive Fault where
  deriving DecidableEq, Repr

/-- Reasons a command could be refused by the model. -/
inductive Refusal where
  /-- Raised by an arm of `exec` whose command has no meaning yet; no arm does. Safe: the model stops. -/
  | notModelled (mnemonic : String)
  deriving DecidableEq, Repr

/-! ### Reset -/

/-- The program store after pin reset (R1). -/
def Store.initial : Store :=
  { b0 := Bank.emptied, b1 := Bank.emptied, parts := List.replicate 255 none, block := none }

/-- The dispenser unit after pin reset (R19, R20). -/
def DispUnit.initial : DispUnit :=
  { records := List.replicate 64 Dispenser.initial, groups := List.replicate 16 { faults := 0, quarantined := false } }

/-- The chain tracker after pin reset (R32, R36, R196). -/
def Chain.initial : Chain := { clips := [], purgeRequired := true, measurement := none, tagCount := 0 }

/-- The pose unit after pin reset (R62; the fields of an invalid record: log 9). -/
def PoseUnit.initial : PoseUnit :=
  { rates := none,
    last := { x := 0, y := 0, bearing := .east, headSpan := 0, clinchSpan := 0, mode := .inward, valid := false },
    clean := none, positioning := none, holdMark := false }

/-- The table drive after pin reset (R78). -/
def Table.initial : Table :=
  { x := 0, y := 0, phaseX := none, phaseY := none, homeValid := false, op := .none, dirX := false, dirY := false }

/-- An IDLE actuator record with no command (R96). -/
def ActRecord.initial : ActRecord := { setting := none, timer := none, standsAt := none }

/-- The stroke controller after pin reset (R96). -/
def Stroke.initial : Stroke :=
  { shaft := .stopped, rev := none, restoreLast := none, restoreHeld := false, chainStep := .none, chainTimer := none,
    jaw := .waste none, bearing := ActRecord.initial, headSpan := ActRecord.initial,
    clinchSpan := ActRecord.initial, clinchMode := ActRecord.initial, keptBack := [], missCount := 0, revCount := 0,
    markTimer := none, gateTimer := none, jawOut := false, descentOut := false, clinchOut := false,
    chainDriveOut := false }

/-- The board manager after pin reset (R118, R125, R130, R131, R136; the clamp: log 25). -/
def Boards.initial : Boards :=
  { slots := List.replicate 5 none, passIn := none, passOut := [], load := none, transfer := none, pulled := true,
    fiveAlone := false, qualify := none, passWait := none, clampOut := false, clampWanted := false,
    withdrawOpen := false }

/-- The line controller after pin reset (R142). -/
def Line.initial : Line :=
  { urgent := [], normal := [], begunNormal := false, roster := List.replicate 15 { present := false, silence := none, last := none },
    rxErrors := 0, announceLoss := 0, statusTimer := none, sending := none }

/-- The jam supervisor after pin reset (R163). -/
def Jam.initial : Jam :=
  { run := .unconfigured, qualifier := none, alarms := [], nextNumber := 1, listOverflow := false,
    unrecordedHalt := false, purgeCount := 0 }

/-- The console port after pin reset (R182). -/
def Console.initial : Console :=
  { response := { result := .done, code := 0, number := 0, body := .empty }, setup := none, reports := [],
    overflow := false, nextReport := 0 }

/-- The input levels the model takes at power-on (log 9); the line is pulled, since the part pulls it (R125). -/
def Inputs.initial : Inputs :=
  { guardOpen := false, entryBoard := false, clampClosed := false, lineReleased := false, homeX := false,
    homeY := false, indexX := false, indexY := false }

/-- The part right after pin reset, with no command waiting. -/
def State.reset : State :=
  { store := Store.initial, disp := DispUnit.initial, chain := Chain.initial, planner := PassSummary.initial,
    pose := PoseUnit.initial, table := Table.initial, stroke := Stroke.initial, boards := Boards.initial,
    line := Line.initial, jam := Jam.initial, console := Console.initial, inputs := Inputs.initial, pending := [] }

/-! ### Updates, one for each block -/

/-- The state with another program store. -/
def State.setStore (s : State) (v : Store) : State := { s with store := v }
/-- The state with another dispenser unit. -/
def State.setDisp (s : State) (v : DispUnit) : State := { s with disp := v }
/-- The state with another chain tracker. -/
def State.setChain (s : State) (v : Chain) : State := { s with chain := v }
/-- The state with another pass summary. -/
def State.setPlanner (s : State) (v : PassSummary) : State := { s with planner := v }
/-- The state with another pose unit. -/
def State.setPose (s : State) (v : PoseUnit) : State := { s with pose := v }
/-- The state with another table drive. -/
def State.setTable (s : State) (v : Table) : State := { s with table := v }
/-- The state with another stroke controller. -/
def State.setStroke (s : State) (v : Stroke) : State := { s with stroke := v }
/-- The state with another board manager. -/
def State.setBoards (s : State) (v : Boards) : State := { s with boards := v }
/-- The state with another line controller. -/
def State.setLine (s : State) (v : Line) : State := { s with line := v }
/-- The state with another jam supervisor. -/
def State.setJam (s : State) (v : Jam) : State := { s with jam := v }
/-- The state with another console port. -/
def State.setConsole (s : State) (v : Console) : State := { s with console := v }
/-- The state with other input levels. -/
def State.setInputs (s : State) (v : Inputs) : State := { s with inputs := v }
/-- The state with another queue. -/
def State.setPending (s : State) (v : List Instr) : State := { s with pending := v }

end Sys2Proof.Machine
end

