-- ==== Sys2Proof/Machine/Ops.lean ====
section
/-! DEFINITION. The named operations over the state's records that the blocks share: saturating arithmetic, context
slots, clips, the alarm list's entries (R175, R176), the report queue (R189), the transmit queues (R146, R147). -/

namespace Sys2Proof.Machine

/-! ### Arithmetic -/

/-- Saturating at a greatest value (00, Units and conventions). -/
def capAt (top n : Nat) : Nat := if n ≤ top then n else top

/-- Saturating addition of move times (R70). -/
def satAdd (a b : Nat) : Nat := capAt Config.maxMicros (a + b)

/-- Saturating multiplication of move times (R70). -/
def satMul (a b : Nat) : Nat := capAt Config.maxMicros (a * b)

/-- Milliseconds in microseconds. -/
def ms (n : Nat) : Nat := n * 1000

/-- A supervision timer of setup, in microseconds left: 0 disables it (R186). -/
def supervise (n : Nat) : Timer := if n = 0 then none else some (ms n)

/-! ### Setup -/

/-- The fields read before SETUP, when no record is held: a SINGLE station with no number and no travel. No response shows one
of them: READ_STATUS gives the station, the role and the clean period as absent then (R62, R188). -/
def Setup.blank : Setup :=
  { station := 0, role := .single, verifyPos := 0, verifier := false, positions := [],
    angles := { transfer := 0, advance := 0, drop := 0, verify := 0, gate := 0, down := 0, clinch := 0, up := 0 },
    nominal := 0, travelX := 0, travelY := 0, rampX := { vs := 0, dv := 0, vm := 0 },
    rampY := { vs := 0, dv := 0, vm := 0 }, datumX := 0, datumY := 0, settle := 0, quarterTurn := 0, spanTime := 0,
    modeTime := 0, markTimeout := 0, chainTimer := 0, gateLimit := 0, actuatorTimer := 0, transferLimit := 0,
    homeLimit := 0, passportWait := 0, silence := 0, quarantine := 0 }

/-- The setup record the blocks read (R187). -/
def cfg (s : State) : Setup := s.console.setup.getD Setup.blank

/-- Setup is done (R182). -/
def setupDone (s : State) : Bool := s.console.setup.isSome

/-- The station is FIRST or SINGLE: it takes boards from the loader (R136). -/
def headOfLine (s : State) : Bool := (cfg s).role == .first || (cfg s).role == .single

/-! ### Program store -/

/-- A bank of the store. -/
def Store.bank (st : Store) : BankId → Bank
  | .zero => st.b0
  | .one => st.b1

/-- The store with a bank replaced. -/
def Store.setBank (st : Store) (b : BankId) (v : Bank) : Store :=
  match b with
  | .zero => { st with b0 := v }
  | .one => { st with b1 := v }

/-- The other bank. -/
def BankId.other : BankId → BankId
  | .zero => .one
  | .one => .zero

/-- The bank a number names (1.4). -/
def bankOfNat (n : Nat) : Option BankId :=
  match n with
  | 0 => some .zero
  | 1 => some .one
  | _ => none

/-! ### Context slots -/

/-- The context in a slot. -/
def ctxAt (s : State) (i : Nat) : Option Context := s.boards.slots.getD i none

/-- A slot replaced. -/
def setSlot (s : State) (i : Nat) (c : Option Context) : State :=
  s.setBoards { s.boards with slots := s.boards.slots.set i c }

/-- The context in a slot changed; an empty slot stays as it is. -/
def modCtx (s : State) (i : Nat) (f : Context → Context) : State :=
  s.setBoards { s.boards with slots := s.boards.slots.modify i (fun o => o.map f) }

/-- The first slot, from number `n` on, whose context passes. -/
def findSlot (p : Context → Bool) : List (Option Context) → Nat → Option Nat
  | [], _ => none
  | none :: rest, n => findSlot p rest (n + 1)
  | some c :: rest, n => if p c then some n else findSlot p rest (n + 1)

/-- The slot of the first context that passes. -/
def slotOf (s : State) (p : Context → Bool) : Option Nat := findSlot p s.boards.slots 0

/-- The slot of the CURRENT context. -/
def currentSlot (s : State) : Option Nat := slotOf s (fun c => c.state == .current)

/-- The slot of the ARRIVING context. -/
def arrivingSlot (s : State) : Option Nat := slotOf s (fun c => c.state == .arriving)

/-- The slot of the DEPARTING context. -/
def departingSlot (s : State) : Option Nat := slotOf s (fun c => c.state == .departing)

/-- The slot of the context that holds a serial. -/
def slotOfSerial (s : State) (serial : Nat) : Option Nat := slotOf s (fun c => c.serial == serial)

/-- The context that is CURRENT. -/
def currentCtx (s : State) : Option Context := (currentSlot s).bind (ctxAt s)

/-- The serial of the CURRENT context, 0 when none is (R143). -/
def currentSerial (s : State) : Nat := ((currentCtx s).map (·.serial)).getD 0

/-- The first empty slot, from number `n` on. -/
def firstEmpty : List (Option Context) → Nat → Option Nat
  | [], _ => none
  | none :: _, n => some n
  | some _ :: rest, n => firstEmpty rest (n + 1)

/-- The lowest numbered empty slot, which a new context takes (R118; log 53). -/
def emptySlot (s : State) : Option Nat := firstEmpty s.boards.slots 0

/-- A bank is in use while a context references it (R2). -/
def inUse (s : State) (b : BankId) : Bool :=
  s.boards.slots.any fun o => match o with | some c => c.bank == some b | none => false

/-- The passport entries of a context in list order: the upstream run, then the own run (R123). -/
def Context.entries (c : Context) : List Entry := c.upstream ++ c.ownRun

/-- The number of passport entries held. -/
def Context.entryCount (c : Context) : Nat := c.upstream.length + c.ownRun.length

/-- The state of the passport entry held for a key. -/
def Context.entryState (c : Context) (k : ItemKey) : Option EntryState :=
  (c.entries.find? (fun e => e.item.key == k)).map (·.state)

/-- The adopted entry for a key. -/
def Context.adoptedFor (c : Context) (k : ItemKey) : Option Adopted := c.adopted.find? (fun a => a.item.key == k)

/-- The state of every passport entry held for a key replaced; a MADE_UP entry never changes (R121). -/
def Context.setEntry (c : Context) (k : ItemKey) (st : EntryState) : Context :=
  let f : Entry → Entry := fun e =>
    if e.item.key == k then (match e.state with | .madeUp _ => e | _ => { e with state := st }) else e
  { c with upstream := c.upstream.map f, ownRun := c.ownRun.map f }

/-- An image is in the skip mask (R122). -/
def Context.skips (c : Context) (image : Nat) : Bool := c.skipMask.getLsbD image

/-! ### Chain -/

/-- What a live clip holds (R33). -/
def Clip.live : Clip → Option ClipItem
  | .planned i => some i
  | .loaded i => some i
  | .verified i _ => some i
  | _ => none

/-- The clip at a position; past the plan there is none, and it reads as UNKNOWN. -/
def clipAt (s : State) (p : Nat) : Clip := s.chain.clips.getD p .unknown

/-- A clip record replaced. -/
def setClip (s : State) (p : Nat) (c : Clip) : State :=
  s.setChain { s.chain with clips := s.chain.clips.set p c }

/-- The lowest position, from `n` on, at which a live clip passes, with what it holds. -/
def findLive (p : ClipItem → Bool) : List Clip → Nat → Option (Nat × ClipItem)
  | [], _ => none
  | c :: rest, n =>
    match c.live with
    | some i => if p i then some (n, i) else findLive p rest (n + 1)
    | none => findLive p rest (n + 1)

/-- The live clip of a context with the lowest chain position (R82). -/
def lowestLive (s : State) (slot : Nat) : Option (Nat × ClipItem) :=
  findLive (fun i => i.board == slot) s.chain.clips 0

/-! ### Dispensers -/

/-- A dispenser record; a number past the records reads as one not configured. -/
def dispAt (s : State) (d : Nat) : Dispenser := s.disp.records.getD d { Dispenser.initial with state := .absent }

/-- A dispenser record changed. -/
def modDisp (s : State) (d : Nat) (f : Dispenser → Dispenser) : State :=
  s.setDisp { s.disp with records := s.disp.records.modify d f }

/-- A group record. -/
def groupAt (s : State) (g : Nat) : Group := s.disp.groups.getD g { faults := 0, quarantined := false }

/-- A group record changed. -/
def modGroup (s : State) (g : Nat) (f : Group → Group) : State :=
  s.setDisp { s.disp with groups := s.disp.groups.modify g f }

/-- A dispenser is available: READY, its group not QUARANTINED (R20). -/
def available (s : State) (d : Nat) : Bool := (dispAt s d).state == .ready && !(groupAt s (d / 4)).quarantined

/-! ### Alarm list (R175, R176) -/

/-- Severity STOP of a class (section 9.6). -/
def AlarmClass.stop : AlarmClass → Bool
  | .strokeStall | .chainStall | .headJam | .clinchFault | .tableSlip | .tableLate | .actuatorFault | .boardJam
  | .homeFault | .duplicateStation => true
  | .dropMiss | .verifyReject | .verifyFault | .transferMiss | .dispenserJam | .groupQuarantine
  | .downstreamAbsent => false

/-- The next entry number after `n` (R175). -/
def succNumber (n : Nat) : Nat := if n ≥ 65535 then 1 else n + 1

/-- The first number from `n` on that no entry of the list holds; at most `fuel` numbers are passed over (R175). -/
def freeNumber (held : List Nat) : Nat → Nat → Nat
  | n, 0 => n
  | n, fuel + 1 => if held.contains n then freeNumber held (succNumber n) fuel else n

/-- An alarm counted into its matching NOTE entry (R175). -/
def countAlarm (c : AlarmClass) (src : AlarmSource) : List AlarmEntry → Option (List AlarmEntry)
  | [] => none
  | e :: rest =>
    if e.cls == c && e.source == src then some ({ e with count := capAt 255 (e.count + 1), acked := false } :: rest)
    else (countAlarm c src rest).map (e :: ·)

/-- The list without its oldest ACKED NOTE entry; none when it holds no such entry (R176). -/
def dropAckedNote : List AlarmEntry → Option (List AlarmEntry)
  | [] => none
  | e :: rest => if e.acked && !e.cls.stop then some rest else (dropAckedNote rest).map (e :: ·)

/-- The alarm added as a new entry at the end of a list with room (R175); a number still held is passed over as the entry takes its
own (log 69). -/
def Jam.append (j : Jam) (list : List AlarmEntry) (c : AlarmClass) (src : AlarmSource) (rev : Nat) : Jam :=
  let n := freeNumber (list.map (·.number)) j.nextNumber 17
  { j with
    alarms := list ++ [{ number := n, cls := c, source := src, firstRev := rev, count := 1, acked := false }],
    nextNumber := succNumber n }

/-- An alarm that adds an entry: with room, by displacing the oldest ACKED NOTE, or not at all (R176). -/
def Jam.add (j : Jam) (c : AlarmClass) (src : AlarmSource) (rev : Nat) : Jam :=
  if j.alarms.length < Config.alarmMax then j.append j.alarms c src rev
  else
    match dropAckedNote j.alarms with
    | some list => j.append list c src rev
    | none => { j with listOverflow := true, unrecordedHalt := j.unrecordedHalt || c.stop }

/-- An alarm entered in the list: counted into a matching NOTE entry or added (R175). -/
def Jam.enter (j : Jam) (c : AlarmClass) (src : AlarmSource) (rev : Nat) : Jam :=
  if c.stop then j.add c src rev
  else
    match countAlarm c src j.alarms with
    | some list => { j with alarms := list }
    | none => j.add c src rev

/-- An alarm entered in the list with the current revolution count (R175). For a NOTE this is all that raising it
does. -/
def enterAlarm (s : State) (c : AlarmClass) (src : AlarmSource) : State :=
  s.setJam (s.jam.enter c src s.stroke.revCount)

/-- The list holds an ACTIVE entry of severity STOP (R143, R179). -/
def activeStop (s : State) : Bool := s.jam.alarms.any fun e => e.cls.stop && !e.acked

/-- The list holds an entry of severity STOP (R171). -/
def holdsStop (list : List AlarmEntry) : Bool := list.any fun e => e.cls.stop

/-! ### Reports (R189) -/

/-- A report handed to the console port: it takes the next number, and joins the queue or is lost (R189). -/
def report (s : State) (k : ReportKind) : State :=
  let c := s.console
  s.setConsole
    { c with
      reports := if c.reports.length < Config.reportMax then c.reports ++ [{ number := c.nextReport, kind := k }]
                 else c.reports,
      overflow := c.overflow || decide (¬ c.reports.length < Config.reportMax),
      nextReport := (c.nextReport + 1) % 65536 }

/-! ### Transmit queues (R146, R147) -/

/-- The urgent queue has room (R146). -/
def urgentRoom (s : State) : Bool := decide (s.line.urgent.length < Config.urgentMax)

/-- A frame joins the urgent queue at the back; a full queue refuses the join (R146). -/
def joinUrgent (s : State) (f : Frame) : State :=
  s.setLine { s.line with urgent := if s.line.urgent.length < Config.urgentMax then s.line.urgent ++ [f]
                                    else s.line.urgent }

/-- The transmission of the frame at the front of the normal queue has begun and it has not been sent, so that it is not open to
replacement, whether its attempt runs, has failed or is begun again (R147). -/
def normalBegun (s : State) : Bool := s.line.begunNormal

/-- The first frame that passes replaced in its place; none when no frame passes. -/
def replaceFirst (p : Frame → Bool) (f : Frame) : List Frame → Option (List Frame)
  | [] => none
  | g :: rest => if p g then some (f :: rest) else (replaceFirst p f rest).map (g :: ·)

/-- The frame is a STATUS. -/
def Frame.isStatus : Frame → Bool
  | .status _ => true
  | _ => false

/-- The frame is an ANNOUNCE. -/
def Frame.isAnnounce : Frame → Bool
  | .announce _ _ _ _ => true
  | _ => false

/-- The frame is an ANNOUNCE for a serial. -/
def Frame.announces (serial : Nat) : Frame → Bool
  | .announce n _ _ _ => n == serial
  | _ => false

/-- The normal queue after a STATUS is to be queued: it replaces the queued one, or joins (R147; log 13). -/
def withStatus (begun : Bool) (q : List Frame) (f : Frame) : List Frame :=
  let fixed := if begun then q.take 1 else []
  let open' := if begun then q.drop 1 else q
  match replaceFirst Frame.isStatus f open' with
  | some q' => fixed ++ q'
  | none => fixed ++ open' ++ [f]

/-- The content of a STATUS frame as it stands (R143, R151). -/
def statusContent (s : State) : StatusContent :=
  { run := s.jam.run, serial := currentSerial s, holding := s.boards.pulled, alarm := activeStop s }

/-- A STATUS is queued (R147, R151); before SETUP the line controller queues nothing (R142). -/
def queueStatus (s : State) : State :=
  s.setLine { s.line with normal := if setupDone s then withStatus (normalBegun s) s.line.normal (.status (statusContent s))
                                    else s.line.normal }

/-- An ANNOUNCE is queued: in place of one for the same serial, at the back, or lost (R147; log 13). -/
def queueAnnounce (s : State) (serial programId position : Nat) (mask : BitVec 8) : State :=
  let f := Frame.announce serial programId position mask
  let q := s.line.normal
  let begun := normalBegun s
  let fixed := if begun then q.take 1 else []
  let open' := if begun then q.drop 1 else q
  match replaceFirst (Frame.announces serial) f open' with
  | some q' => s.setLine { s.line with normal := fixed ++ q' }
  | none =>
    if (q.filter Frame.isAnnounce).length < Config.announceMax then s.setLine { s.line with normal := q ++ [f] }
    else s.setLine { s.line with announceLoss := capAt 65535 (s.line.announceLoss + 1) }

/-! ### Roster (R150) -/

/-- The roster entry of a station; a number outside 1..15 reads as absent. -/
def rosterAt (s : State) (n : Nat) : RosterEntry :=
  if n = 0 then { present := false, silence := none, last := none }
  else s.line.roster.getD (n - 1) { present := false, silence := none, last := none }

/-- A roster entry changed. -/
def modRoster (s : State) (n : Nat) (f : RosterEntry → RosterEntry) : State :=
  if n = 0 then s else s.setLine { s.line with roster := s.line.roster.modify (n - 1) f }

/-! ### Axes and actuators -/

/-- The counter of an axis. -/
def Table.counter (t : Table) : Axis → Nat
  | .x => t.x
  | .y => t.y

/-- The counter of an axis replaced. -/
def Table.setCounter (t : Table) (ax : Axis) (n : Nat) : Table :=
  match ax with
  | .x => { t with x := n }
  | .y => { t with y := n }

/-- The phase of an axis. -/
def Table.phase (t : Table) : Axis → Option Nat
  | .x => t.phaseX
  | .y => t.phaseY

/-- The phase of an axis replaced. -/
def Table.setPhase (t : Table) (ax : Axis) (n : Nat) : Table :=
  match ax with
  | .x => { t with phaseX := some n }
  | .y => { t with phaseY := some n }

/-- The direction output of an axis replaced. -/
def Table.setDir (t : Table) (ax : Axis) (up : Bool) : Table :=
  match ax with
  | .x => { t with dirX := up }
  | .y => { t with dirY := up }

/-- The travel of an axis. -/
def travel (s : State) : Axis → Nat
  | .x => (cfg s).travelX
  | .y => (cfg s).travelY

/-- The record of an actuator. -/
def Stroke.act (k : Stroke) : Actuator → ActRecord
  | .bearing => k.bearing
  | .headSpan => k.headSpan
  | .clinchSpan => k.clinchSpan
  | .clinchMode => k.clinchMode

/-- The record of an actuator replaced. -/
def Stroke.setAct (k : Stroke) (a : Actuator) (v : ActRecord) : Stroke :=
  match a with
  | .bearing => { k with bearing := v }
  | .headSpan => { k with headSpan := v }
  | .clinchSpan => { k with clinchSpan := v }
  | .clinchMode => { k with clinchMode := v }

/-- Some actuator record is SETTING (R71). -/
def Stroke.anySetting (k : Stroke) : Bool :=
  k.bearing.setting.isSome || k.headSpan.setting.isSome || k.clinchSpan.setting.isSome || k.clinchMode.setting.isSome

/-- The actuators in the order of R91 and R109. -/
def actuators : List Actuator := [.bearing, .headSpan, .clinchSpan, .clinchMode]

/-! ### Progress -/

/-- A revolution is in progress (R96). -/
def revInProgress (s : State) : Bool :=
  match s.stroke.shaft with
  | .turning | .pitchHeld | .gateHeld | .restoring => true
  | .atRest | .stopped => false

/-- A table move is in progress: MOVE, HOME or JOG (R78). -/
def tableBusy (s : State) : Bool := match s.table.op with | .none => false | _ => true

/-- A board transfer is in progress (R127). -/
def transferring (s : State) : Bool := s.boards.transfer.isSome

/-- The run state is RUNNING or STOPPING (R82, R127). -/
def producing (s : State) : Bool := s.jam.run == .running || s.jam.run == .stopping

/-- The conveyor segment runs: a transfer is in progress, the guard closed, no halt since (R127). -/
def segmentRunning (s : State) : Bool := transferring s && !s.inputs.guardOpen && producing s

/-- The CURRENT board is clamped: the clamp output closed and the clamp-closed input active (R128). -/
def clamped (s : State) : Bool := s.boards.clampOut && s.inputs.clampClosed

/-- The shaft has reached a mark of the revolution: the number of marks in the order of R97. -/
def Mark.num : Mark → Nat
  | .rest => 0
  | .transfer => 1
  | .advance => 2
  | .drop => 3
  | .verify => 4
  | .gate => 5
  | .down => 6
  | .clinch => 7
  | .up => 8

/-- The head is busy: from the TRANSFER mark of an INSERT revolution to its UP mark or its end (R82). -/
def headBusy (s : State) : Bool :=
  match s.stroke.rev with
  | some r => r.kind == .insert && decide (1 ≤ r.last.num) && decide (r.last.num < 8)
  | none => false

end Sys2Proof.Machine
end

