-- ==== Sys2Proof/Machine/Operands.lean ====
section
/-! DEFINITION. The operand forms: the codes of the enumerations (R194, R195), the SETUP body and its checks (R186),
the STEP record (R4), the image table of BANK_OPEN (R6), and the payloads of the line frames with the range checks of
R148 (R194). -/

namespace Sys2Proof.Machine

/-! ### Codes (R194, R195) -/

/-- Code of a clinch mode (R194). -/
def ClinchMode.code : ClinchMode → Nat
  | .inward => 0
  | .outward => 1
  | .cutOnly => 2

/-- The clinch mode a code names. -/
def clinchModeOf (n : Nat) : Option ClinchMode :=
  match n with
  | 0 => some .inward
  | 1 => some .outward
  | 2 => some .cutOnly
  | _ => none

/-- Code of a bearing, in quarter turns from E (R65). -/
def Bearing.code : Bearing → Nat
  | .east => 0
  | .north => 1
  | .west => 2
  | .south => 3

/-- The bearing a number of quarter turns from E gives. -/
def bearingOf (n : Nat) : Bearing :=
  match n % 4 with
  | 0 => .east
  | 1 => .north
  | 2 => .west
  | _ => .south

/-- Code of a run state (R194). -/
def RunState.code : RunState → Nat
  | .unconfigured => 0
  | .idle => 1
  | .ready => 2
  | .running => 3
  | .stopping => 4
  | .halting => 5
  | .halted => 6

/-- The run state a code names. -/
def runStateOf (n : Nat) : Option RunState :=
  match n with
  | 0 => some .unconfigured
  | 1 => some .idle
  | 2 => some .ready
  | 3 => some .running
  | 4 => some .stopping
  | 5 => some .halting
  | 6 => some .halted
  | _ => none

/-- The part kind a code names (R195). -/
def partKindOf (n : Nat) : Option PartKind :=
  match n with
  | 0 => some .nonpolar
  | 1 => some .polar
  | 2 => some .unchecked
  | _ => none

/-- The role a code names (R195). -/
def roleOf (n : Nat) : Option Role :=
  match n with
  | 0 => some .first
  | 1 => some .middle
  | 2 => some .last
  | 3 => some .single
  | _ => none

/-- The axis a code names (R195). -/
def axisOf (n : Nat) : Option Axis :=
  match n with
  | 0 => some .x
  | 1 => some .y
  | _ => none

/-- A flag byte: 0 or 1; any other value is out of range (R195). -/
def flagOf (n : Nat) : Option Bool :=
  match n with
  | 0 => some false
  | 1 => some true
  | _ => none

/-- A number lies in a range that includes both ends. -/
def within (lo n hi : Nat) : Bool := decide (lo ≤ n) && decide (n ≤ hi)

/-- A hole coordinate lies in -8192..+8191 (R4). -/
def holeInRange (i : Int) : Bool := decide (-8192 ≤ i) && decide (i ≤ 8191)

/-- All four hole coordinates lie in range (R4). -/
def Holes.inRange (h : Holes) : Bool := holeInRange h.aX && holeInRange h.aY && holeInRange h.bX && holeInRange h.bY

/-- The holes at an offset of a body: A x, A y, B x, B y (R194). -/
def holesAt (body : List Byte) (i : Nat) : Holes :=
  { aX := atS16 body i, aY := atS16 body (i + 2), bX := atS16 body (i + 4), bY := atS16 body (i + 6) }

/-- The holes as 8 bytes. -/
def Holes.bytes (h : Holes) : List Byte := sBytes16 h.aX ++ sBytes16 h.aY ++ sBytes16 h.bX ++ sBytes16 h.bY

/-! ### SETUP (R186) -/

/-- A list of numbers has no number twice. -/
def distinct : List Nat → Bool
  | [] => true
  | n :: rest => !rest.contains n && distinct rest

/-- The fields of the SETUP body before their checks, in the order of R186 (R195: 131 bytes). -/
def setupFields (b : List Byte) (role : Role) (verifier : Bool) : Setup :=
  { station := at8 b 0, role := role, verifyPos := at8 b 2, verifier := verifier,
    positions := (List.range 64).map (fun d => at8 b (4 + d)),
    angles := { transfer := at16 b 68, advance := at16 b 70, drop := at16 b 72, verify := at16 b 74,
                gate := at16 b 76, down := at16 b 78, clinch := at16 b 80, up := at16 b 82 },
    nominal := at16 b 84, travelX := at16 b 86, travelY := at16 b 88,
    rampX := { vs := at16 b 90, dv := at16 b 92, vm := at16 b 94 },
    rampY := { vs := at16 b 96, dv := at16 b 98, vm := at16 b 100 },
    datumX := atS16 b 102, datumY := atS16 b 104, settle := at16 b 106, quarterTurn := at16 b 108,
    spanTime := at16 b 110, modeTime := at16 b 112, markTimeout := at16 b 114, chainTimer := at16 b 116,
    gateLimit := at16 b 118, actuatorTimer := at16 b 120, transferLimit := at16 b 122, homeLimit := at16 b 124,
    passportWait := at16 b 126, silence := at16 b 128, quarantine := at8 b 130 }

/-- Ramp parameters in range (R186). -/
def Ramp.inRange (r : Ramp) : Bool := within 200 r.vs 4000 && within 1 r.dv 500 && within r.vs r.vm 20000

/-- Station number and role agree (R186). -/
def roleInRange (role : Role) (station : Nat) : Bool :=
  match role with
  | .first => station == 1
  | .single => station == 1
  | .middle => within 2 station 14
  | .last => within 2 station 15

/-- Dispenser positions in range: each 0 or v + 1..240, the nonzero ones distinct, at least one (R186). -/
def positionsInRange (v : Nat) (ps : List Nat) : Bool :=
  ps.all (fun p => p == 0 || within (v + 1) p 240) && distinct (ps.filter (· != 0)) && ps.any (· != 0)

/-- Mark angles in range and strictly increasing (R186). -/
def Angles.inRange (a : Angles) : Bool :=
  decide (1 ≤ a.transfer) && decide (a.transfer < a.advance) && decide (a.advance < a.drop) &&
  decide (a.drop < a.verify) && decide (a.verify < a.gate) && decide (a.gate < a.down) &&
  decide (a.down < a.clinch) && decide (a.clinch < a.up) && decide (a.up ≤ 359)

/-- Every field of the setup record lies in its range (R186). -/
def Setup.inRange (c : Setup) : Bool :=
  within 1 c.station 15 && roleInRange c.role c.station && within 2 c.verifyPos 7 &&
  positionsInRange c.verifyPos c.positions && c.angles.inRange && within 100 c.nominal 2000 &&
  within 1 c.travelX 16383 && within 1 c.travelY 12287 && c.rampX.inRange && c.rampY.inRange &&
  decide (c.settle ≤ 50) && within 1 c.quarterTurn 1000 && within 1 c.spanTime 1000 && within 1 c.modeTime 1000 &&
  within 0 c.markTimeout 65535 && within 0 c.chainTimer 65535 && within 0 c.gateLimit 65535 &&
  within 1 c.actuatorTimer 65535 && within 1 c.transferLimit 65535 && within 1 c.homeLimit 65535 &&
  within 50 c.passportWait 2000 && within 100 c.silence 2000 && within 1 c.quarantine 255

/-- The setup record of a SETUP body; none when any field lies outside its range (R186). -/
def parseSetup (b : List Byte) : Option Setup :=
  match roleOf (at8 b 1), flagOf (at8 b 3) with
  | some role, some verifier =>
    let c := setupFields b role verifier
    if c.inRange then some c else none
  | _, _ => none

/-! ### BANK_OPEN (R6) -/

/-- An image table entry of 6 bytes: absent, present, or out of range (none). The origin and rotation of an absent
image are not examined (R6, R195). -/
def parseImage (b : List Byte) (i : Nat) : Option (Option Image) :=
  match flagOf (at8 b i) with
  | some false => some none
  | some true =>
    match flagOf (at8 b (i + 5)) with
    | some turned =>
      if at16 b (i + 1) ≤ 16383 ∧ at16 b (i + 3) ≤ 12287 then
        some (some { ox := at16 b (i + 1), oy := at16 b (i + 3), turned := turned })
      else none
    | none => none
  | none => none

/-- The image table of a BANK_OPEN body; none when an entry is out of range (R6). -/
def parseImages (b : List Byte) : Option (List (Option Image)) :=
  (List.range 8).mapM fun i => parseImage b (5 + 6 * i)

/-! ### STEP (R4, R195) -/

/-- A STEP record as its body carries it. -/
structure RawStep where
  id : Nat
  image : Nat
  holes : Holes
  part : Nat
  mode : Nat
  deriving DecidableEq, Repr

/-- The record of a STEP body (R195). -/
def parseStep (b : List Byte) : RawStep :=
  { id := at16 b 1, image := at8 b 3, holes := holesAt b 4, part := at8 b 12, mode := at8 b 13 }

/-! ### Line frames (R143, R148, R194) -/

/-- The kind of a frame's content. -/
def Frame.kind : Frame → FrameKind
  | .withdraw _ => .withdraw
  | .claim _ _ => .claim
  | .owe _ => .owe
  | .announce _ _ _ _ => .announce
  | .passportHead _ => .passportHead
  | .passportEntry _ _ => .passportEntry
  | .status _ => .status

/-- A byte field. -/
def byte1 (n : Nat) : List Byte := beBytes 1 n

/-- The 15 bytes an OWE and a passport entry share, from the owner station onward (R194). -/
def ItemData.bytes (d : ItemData) : List Byte :=
  byte1 d.key.owner ++ beBytes 2 d.key.step ++ byte1 d.image ++ d.holes.bytes ++ byte1 d.part ++ byte1 d.span ++
  byte1 d.mode.code

/-- State and station bytes of a passport entry (R194). -/
def EntryState.bytes : EntryState → List Byte
  | .opened => [0, 0]
  | .claimed n => 1 :: byte1 n
  | .madeUp n => 2 :: byte1 n

/-- The flags byte of a passport head (R194). -/
def PassFlags.byte (f : PassFlags) : Byte :=
  BitVec.ofNat 8 ((if f.noPassport then 1 else 0) + (if f.partialPassport then 2 else 0) +
    (if f.unidentified then 4 else 0) + (if f.passportFull then 8 else 0))

/-- The flags a byte of a passport head gives; bits 4..7 are ignored (R194). -/
def passFlagsOf (b : Nat) : PassFlags :=
  { noPassport := b.testBit 0, partialPassport := b.testBit 1, unidentified := b.testBit 2, passportFull := b.testBit 3 }

/-- The payload of a frame (R194). -/
def Frame.payload : Frame → List Byte
  | .withdraw serial => beBytes 4 serial
  | .claim key image => beBytes 4 key.serial ++ byte1 key.owner ++ beBytes 2 key.step ++ byte1 image
  | .owe d => beBytes 4 d.key.serial ++ d.bytes
  | .announce serial programId position mask =>
    beBytes 4 serial ++ beBytes 2 programId ++ byte1 position ++ byte1 mask.toNat
  | .passportHead h =>
    beBytes 4 h.serial ++ beBytes 2 h.programId ++ byte1 h.mask.toNat ++ byte1 h.count ++ [h.flags.byte] ++
    beBytes 2 h.skipped.toNat
  | .passportEntry index e => beBytes 4 e.item.key.serial ++ byte1 index ++ e.item.bytes ++ e.state.bytes
  | .status c =>
    byte1 c.run.code ++ beBytes 4 c.serial ++
    [BitVec.ofNat 8 ((if c.holding then 1 else 0) + (if c.alarm then 2 else 0))]

/-- The item data at an offset of a payload, from the owner station onward; none when a field is out of range (R148). -/
def parseItem (b : List Byte) (serial i : Nat) : Option ItemData :=
  match clinchModeOf (at8 b (i + 14)) with
  | some mode =>
    let d : ItemData :=
      { key := { serial := serial, owner := at8 b i, step := at16 b (i + 1) }, image := at8 b (i + 3),
        holes := holesAt b (i + 4), part := at8 b (i + 12), span := at8 b (i + 13), mode := mode }
    if within 1 d.key.owner 15 && decide (d.key.step ≤ 4095) && decide (d.image ≤ 7) && d.holes.inRange &&
      d.part != 0 && decide (d.span ≤ 42) then some d else none
  | none => none

/-- The state of a passport entry; a station that does not suit the state is out of range (R194). -/
def parseEntryState (code station : Nat) : Option EntryState :=
  match code with
  | 0 => if station = 0 then some .opened else none
  | 1 => if within 1 station 15 then some (.claimed station) else none
  | 2 => if within 1 station 15 then some (.madeUp station) else none
  | _ => none

/-- The content of a payload of a kind; none when a field is out of range (R148, R194). -/
def parsePayload (k : FrameKind) (b : List Byte) : Option Frame :=
  match k with
  | .withdraw => if at32 b 0 = 0 then none else some (.withdraw (at32 b 0))
  | .claim =>
    if at32 b 0 != 0 && within 1 (at8 b 4) 15 && decide (at16 b 5 ≤ 4095) && decide (at8 b 7 ≤ 7) then
      some (.claim { serial := at32 b 0, owner := at8 b 4, step := at16 b 5 } (at8 b 7))
    else none
  | .owe => if at32 b 0 = 0 then none else (parseItem b (at32 b 0) 4).map .owe
  | .announce =>
    if at32 b 0 != 0 && at16 b 4 != 0 && decide (at8 b 6 ≤ 15) then
      some (.announce (at32 b 0) (at16 b 4) (at8 b 6) (BitVec.ofNat 8 (at8 b 7)))
    else none
  | .passportHead =>
    if at8 b 7 ≤ 32 then
      some (.passportHead
        { serial := at32 b 0, programId := at16 b 4, mask := BitVec.ofNat 8 (at8 b 6), count := at8 b 7,
          flags := passFlagsOf (at8 b 8), skipped := BitVec.ofNat 16 (at16 b 9 / 2 * 2) })
    else none
  | .passportEntry =>
    if at8 b 4 ≤ 31 then
      match parseItem b (at32 b 0) 5, parseEntryState (at8 b 20) (at8 b 21) with
      | some d, some st => some (.passportEntry (at8 b 4) { item := d, state := st })
      | _, _ => none
    else none
  | .status =>
    match runStateOf (at8 b 0) with
    | some run => some (.status { run := run, serial := at32 b 1, holding := (at8 b 5).testBit 0, alarm := (at8 b 5).testBit 1 })
    | none => none

/-- The content of a frame heard of a kind, with its sender; none when R148 drops it: the CRC, the class, the sender,
the length or a field's range. -/
def parseHeard (k : FrameKind) (f : HeardFrame) : Option (Nat × Frame) :=
  if f.crc == frameCrc k f && f.cls == k.normal && f.sender != 0 && f.length.toNat == k.payloadLength &&
    f.payload.length == k.payloadLength then
    (parsePayload k f.payload).map (fun c => (f.sender.toNat, c))
  else none

/-- The frame a station sends for a content: header, length, payload, CRC (R143, R193). -/
def Frame.toWire (f : Frame) (sender : Nat) : HeardFrame := makeFrame f.kind sender f.payload

end Sys2Proof.Machine
end

