-- ==== Sys2Proof/Machine/Pose.lean ====
section
/-! DEFINITION. Pose and timing arithmetic: the span test of a step (R5), the pose computation (R63 to R68), rate tables
and move times (R69, R70), the settled tests (R71, R108), the prediction (R73), the period and the start test (R75, R76). -/

namespace Sys2Proof.Machine

/-! ### Span and pose (R5, R63 to R68) -/

/-- The detent index and the grid test of a span: k with 0 ≤ k ≤ 42 and distance at most 4; none when it fails (R5). -/
def detentOf (s : Int) : Option Nat :=
  let k := (s - 190) / 20
  if 0 ≤ k ∧ k ≤ 42 ∧ (s - (200 + 20 * k)).natAbs ≤ 4 then some k.toNat else none

/-- Exactly one of dx and dy is nonzero: the skew test (R5). -/
def axial (dx dy : Int) : Bool := (dx == 0) != (dy == 0)

/-- Cause of a NO_TARGET answer (R63). -/
inductive NoTarget where
  | noBank | noImage | geometry | travel
  deriving DecidableEq, Repr

/-- The pose unit's answer (R63). -/
inductive PoseAnswer where
  | pose (p : Pose)
  | noTarget (c : NoTarget)
  deriving DecidableEq, Repr

/-- Stage 1: an image-local coordinate on the panel (R64). -/
def panelCoord (origin : Nat) (turned : Bool) (v : Int) : Int := if turned then (origin : Int) - v else (origin : Int) + v

/-- Stage 2: the bearing from A' to B' (R65). -/
def bearingFrom (dx dy : Int) : Option Bearing :=
  if dy = 0 then (if 0 < dx then some .east else if dx < 0 then some .west else none)
  else if dx = 0 then (if 0 < dy then some .north else some .south)
  else none

/-- Stages 1 to 4 on one image and this station's datum and travel (R64 to R67). The pair lies on one axis, so that
trunc(d / 2) is 0 on the other. -/
def poseOn (c : Setup) (im : Image) (d : ItemData) : PoseAnswer :=
  let ax := panelCoord im.ox im.turned d.holes.aX
  let ay := panelCoord im.oy im.turned d.holes.aY
  let dx := panelCoord im.ox im.turned d.holes.bX - ax
  let dy := panelCoord im.oy im.turned d.holes.bY - ay
  match bearingFrom dx dy with
  | none => .noTarget .geometry
  | some b =>
    let tx := c.datumX + (ax + Int.tdiv dx 2)
    let ty := c.datumY + (ay + Int.tdiv dy 2)
    if 0 ≤ tx ∧ tx ≤ (c.travelX : Int) ∧ 0 ≤ ty ∧ ty ≤ (c.travelY : Int) then
      .pose { tx := tx.toNat, ty := ty.toNat, bearing := b, span := d.span, mode := d.mode }
    else .noTarget .travel

/-- The pose of an item in a context, through the image table of the bank bound to it (R63). -/
def poseOf (s : State) (c : Context) (d : ItemData) : PoseAnswer :=
  match c.bank with
  | none => .noTarget .noBank
  | some b =>
    match (s.store.bank b).images.getD d.image none with
    | none => .noTarget .noImage
    | some im => poseOn (cfg s) im d

/-- The bearing with the flip applied: E and W exchange, N and S exchange (R68). -/
def flipped (b : Bearing) (flip : Bool) : Bearing := if flip then bearingOf (b.code + 2) else b

/-! ### Ramps and axis time (R69, R70) -/

/-- The rate table of an axis: r_i = floor(1,000,000 / (Vs + i dV)) for i below L (R69). -/
def rateTable (r : Ramp) : List Nat :=
  (List.range (min 1024 ((r.vm - r.vs) / r.dv + 1))).map fun i => 1000000 / (r.vs + i * r.dv)

/-- The rate table of an axis as held (R62). -/
def ratesOf (s : State) (ax : Axis) : List Nat :=
  match s.pose.rates with
  | none => []
  | some r => match ax with | .x => r.x | .y => r.y

/-- The ramp steps of a move of n steps: m = min(L, floor(n / 2)) (R70, R80). -/
def rampSteps (rs : List Nat) (n : Nat) : Nat := min rs.length (n / 2)

/-- The ramp index of the interval before step k of n (R80). -/
def rampIndex (rs : List Nat) (n k : Nat) : Nat :=
  let m := rampSteps rs n
  if k ≤ m then k - 1 else if n - m < k then n - k else m - 1

/-- The interval of a ramp index. -/
def intervalAt (rs : List Nat) (j : Nat) : Nat := rs.getD j 0

/-- The time of an axis move of n steps (R70). -/
def axisTime (rs : List Nat) (n : Nat) : Nat :=
  let m := rampSteps rs n
  satAdd (satMul 2 ((rs.take m).foldl satAdd 0)) (satMul (n - 2 * m) (intervalAt rs (m - 1)))

/-- The distance between two counter values. -/
def distance (a b : Nat) : Nat := (a - b) + (b - a)

/-! ### The period (R75, R76) -/

/-- The period P: the clean period, or the nominal one while it is absent (R75). -/
def period (s : State) : Nat := s.pose.clean.getD (ms (cfg s).nominal)

/-- The window W = floor(GATE P / 360) of the start test (R76). -/
def window (s : State) : Nat := (cfg s).angles.gate * period s / 360

/-- The time from UP to REST that event 1 of R74 credits. -/
def upToRest (s : State) : Nat := (360 - (cfg s).angles.up) * period s / 360

/-! ### Settled tests (R71, R108) -/

/-- The table is settled (R71). -/
def tableSettled (s : State) : Bool :=
  s.pose.last.valid && !tableBusy s && s.table.x == s.pose.last.x && s.table.y == s.pose.last.y

/-- The value an actuator stands for in the last settled pose. -/
def LastPose.value (l : LastPose) : Actuator → Nat
  | .bearing => l.bearing.code
  | .headSpan => l.headSpan
  | .clinchSpan => l.clinchSpan
  | .clinchMode => l.mode.code

/-- The value a pose, with its flip, wants of an actuator (R65, R68). -/
def poseValue (p : Pose) (flip : Bool) : Actuator → Nat
  | .bearing => (flipped p.bearing flip).code
  | .headSpan => p.span
  | .clinchSpan => p.span
  | .clinchMode => p.mode.code

/-- The last settled pose holds every actuator value of a pose. -/
def actuatorsAt (s : State) (p : Pose) (flip : Bool) : Bool :=
  actuators.all fun a => s.pose.last.value a == poseValue p flip a

/-- The pose is settled at a VERIFIED clip's pose (R71). -/
def settledAt (s : State) (p : Pose) (flip : Bool) : Bool :=
  tableSettled s && !s.stroke.anySetting && s.pose.last.x == p.tx && s.pose.last.y == p.ty && actuatorsAt s p flip

/-- The table part of the GATE test: valid record, no move, the counters at the target (R108). -/
def tableAt (s : State) (p : Pose) : Bool :=
  s.pose.last.valid && !tableBusy s && s.table.x == p.tx && s.table.y == p.ty

/-- The GATE test for the item in the jaws (R108). -/
def gateTest (s : State) : Bool :=
  match s.stroke.jaw with
  | .item _ _ p flip _ => tableAt s p && !s.stroke.anySetting && actuatorsAt s p flip
  | _ => false

/-! ### Prediction (R73) -/

/-- Quarter turns between two bearings: 1 between neighbours, 2 between opposites (R73). -/
def quarterTurns (a b : Bearing) : Nat :=
  match (a.code + 4 - b.code) % 4 with
  | 0 => 0
  | 2 => 2
  | _ => 1

/-- The flip of a VERIFIED clip; none for a clip in any other state (R68). -/
def Clip.verifiedFlip : Clip → Option Bool
  | .verified _ f => some f
  | _ => none

/-- The time an actuator takes for a clip's pose, as setup gives it (R73). -/
def actuatorTime (s : State) (p : Pose) (flip : Bool) (a : Actuator) : Nat :=
  match a with
  | .bearing =>
    ms (cfg s).quarterTurn *
      (if s.pose.last.valid then quarterTurns (flipped p.bearing flip) s.pose.last.bearing else 2)
  | .headSpan => ms (cfg s).spanTime
  | .clinchSpan => ms (cfg s).spanTime
  | .clinchMode => ms (cfg s).modeTime

/-- The prediction Tp of a positioning toward a clip's pose; `verified` is the clip's flip once it is VERIFIED (R73). -/
def predict (s : State) (p : Pose) (verified : Option Bool) : Nat :=
  let l := s.pose.last
  let tX := axisTime (ratesOf s .x) (distance p.tx s.table.x)
  let tY := axisTime (ratesOf s .y) (distance p.ty s.table.y)
  let tB := match verified with
    | some flip =>
      if l.valid && l.bearing == flipped p.bearing flip then 0 else actuatorTime s p flip .bearing
    | none => 0
  let tS := if l.valid && l.headSpan == p.span && l.clinchSpan == p.span then 0 else ms (cfg s).spanTime
  let tM := if l.valid && l.mode == p.mode then 0 else ms (cfg s).modeTime
  satAdd (max tX (max tY (max tB (max tS tM)))) (ms (cfg s).settle)

/-- The prediction of a JOG: the axis time plus the settle time (R92). -/
def predictJog (s : State) (ax : Axis) (target : Nat) : Nat :=
  satAdd (axisTime (ratesOf s ax) (distance target (s.table.counter ax))) (ms (cfg s).settle)

/-- The start test of R76, for a VERIFIED clip at position 0. -/
def startTest (s : State) (i : ClipItem) (flip : Bool) : Bool :=
  settledAt s i.pose flip ||
  (match s.pose.positioning with
   | some r => r.clip == some i.key && decide (r.r ≤ window s)
   | none => false)

end Sys2Proof.Machine
end

