-- ==== Sys2Proof/Machine/Flags.lean ====
section
/-! DEFINITION. Conditions and outputs computed from the state: the conditions of the index hold line (R125), the
lamp, the horn and ALERTN (R179, R192), and every output pin of the part as a view of the state (R78, R96, 11.5). -/

namespace Sys2Proof.Machine

/-- The stop waits for the board's end (R98, R125): STOPPING with qualifier AT_BOARD_END. -/
def stoppingAtBoardEnd (s : State) : Bool := s.jam.run == .stopping && s.jam.qualifier == some .atBoardEnd

/-- A CURRENT context exists and is not FINISHED (R98, R125). -/
def boardUnfinished (s : State) : Bool :=
  match currentCtx s with
  | some c => !c.finished
  | none => false

/-- Condition 5 of R125: the role is FIRST or MIDDLE and the next station is absent from the roster. -/
def downstreamMissing (s : State) : Bool :=
  ((cfg s).role == .first || (cfg s).role == .middle) && !(rosterAt s ((cfg s).station + 1)).present

/-- The seven conditions of R125 as they stand. -/
def holdConditions (s : State) : HoldConditions :=
  { c1 := !(s.jam.run == .running || stoppingAtBoardEnd s)
    c2 := revInProgress s || tableBusy s || transferring s
    c3 := s.chain.purgeRequired
    c4 := boardUnfinished s
    c5 := downstreamMissing s
    c6 := !s.boards.passOut.isEmpty
    c7 := s.inputs.entryBoard && (currentSlot s).isNone && (arrivingSlot s).isNone && !transferring s }

/-- Some condition other than the fifth holds. -/
def HoldConditions.others (h : HoldConditions) : Bool := h.c1 || h.c2 || h.c3 || h.c4 || h.c6 || h.c7

/-- Some condition of R125 holds. -/
def HoldConditions.any (h : HoldConditions) : Bool := h.others || h.c5

/-- The lamp is lit (R179). -/
def lampLit (s : State) : Bool := !s.jam.alarms.isEmpty

/-- The horn sounds (R179). -/
def hornSounds (s : State) : Bool := activeStop s

/-- ALERTN is asserted (R192). -/
def alertAsserted (s : State) : Bool := !s.console.reports.isEmpty || s.jam.alarms.any fun e => !e.acked

/-- The clutch is engaged: the shaft turns (R96, R98, R101); in a hold at DROP or GATE it is not (log 68). -/
def clutchEngaged (s : State) : Bool :=
  match s.stroke.shaft with
  | .turning => true
  | .restoring => !s.stroke.restoreHeld
  | .atRest | .pitchHeld | .gateHeld | .stopped => false

/-- The value an actuator's command output carries: the value commanded, else the value it was last set to (R106). -/
def ActRecord.command (r : ActRecord) : Option Nat := r.setting <|> r.standsAt

/-- The output pins of the part (11.5). Pulses (VREQ, step) are events of a step, not levels. -/
structure Pins where
  clutch : Bool
  brake : Bool
  jaw : Bool
  descent : Bool
  clinch : Bool
  chainDrive : Bool
  groupDrives : List Bool
  drops : List Bool
  verifyClass : Option Nat
  verifyTag : Option Nat
  bearing : Option Nat
  headSpan : Option Nat
  clinchSpan : Option Nat
  clinchMode : Option Nat
  xDirection : Bool
  yDirection : Bool
  clamp : Bool
  segment : Bool
  indexHoldPulled : Bool
  alertN : Bool
  lamp : Bool
  horn : Bool
  deriving DecidableEq, Repr

/-- The outputs as the state requires them; ALERTN is active low. -/
def outputs (s : State) : Pins :=
  { clutch := clutchEngaged s
    brake := !clutchEngaged s
    jaw := s.stroke.jawOut
    descent := s.stroke.descentOut
    clinch := s.stroke.clinchOut
    chainDrive := s.stroke.chainDriveOut
    groupDrives := (List.range 16).map fun g => (List.range 4).any fun k => (dispAt s (4 * g + k)).outstanding.isSome
    drops := (List.range 64).map fun d => (dispAt s d).outstanding.isSome
    verifyClass := s.chain.measurement.map (·.entry.cls)
    verifyTag := s.chain.measurement.map (·.tag)
    bearing := s.stroke.bearing.command
    headSpan := s.stroke.headSpan.command
    clinchSpan := s.stroke.clinchSpan.command
    clinchMode := s.stroke.clinchMode.command
    xDirection := s.table.dirX
    yDirection := s.table.dirY
    clamp := s.boards.clampOut
    segment := segmentRunning s
    indexHoldPulled := s.boards.pulled
    alertN := !alertAsserted s
    lamp := lampLit s
    horn := hornSounds s }

end Sys2Proof.Machine
end

