-- ==== Sys2Proof/Machine/Planner.lean ====
section
/-! DEFINITION. The planner: owing (R57, R58), closing a board (R48), items handed back (R52 to R55), and the plan
pass (R43 to R51). -/

namespace Sys2Proof.Machine

/-! ### Items of a context -/

/-- The steps of the bank bound to a context (R3). -/
def boundSteps (s : State) (c : Context) : List StepRecord :=
  match c.bank with
  | some b => (s.store.bank b).steps
  | none => []

/-- The index in bank order of the own item with a key (R118). -/
def ownIndex (s : State) (c : Context) (k : ItemKey) : Option Nat :=
  if k.serial = c.serial ∧ k.owner = (cfg s).station then (boundSteps s c).findIdx? (·.id == k.step) else none

/-- The data of the own item of a step (R57). -/
def stepItem (s : State) (c : Context) (r : StepRecord) : ItemData :=
  { key := { serial := c.serial, owner := (cfg s).station, step := r.id }, image := r.image, holes := r.holes,
    part := r.part, span := r.span, mode := r.mode }

/-- The data of the own item at an index. -/
def ownItem (s : State) (c : Context) (i : Nat) : Option ItemData := ((boundSteps s c)[i]?).map (stepItem s c)

/-- The state of the own item at an index. -/
def Context.ownState (c : Context) (i : Nat) : Option OwnState := (c.own[i]?).map (·.state)

/-- The own item at an index changed. -/
def Context.modOwn (c : Context) (i : Nat) (f : OwnItem → OwnItem) : Context := { c with own := c.own.modify i f }

/-- The adopted entry with a key changed. -/
def Context.modAdopted (c : Context) (k : ItemKey) (f : Adopted → Adopted) : Context :=
  { c with adopted := c.adopted.map fun a => if a.item.key == k then f a else a }

/-- The retry list without a key (R56). -/
def Context.offRetry (c : Context) (k : ItemKey) : Context := { c with retry := c.retry.filter (· != k) }

/-- The part code of the item a clip or a measurement names, by its origin. -/
def partOf (s : State) (slot : Nat) (k : ItemKey) (o : Origin) : Option Nat :=
  match ctxAt s slot with
  | none => none
  | some c =>
    match o with
    | .own => ((ownIndex s c k).bind (ownItem s c)).map (·.part)
    | .adopted => (c.adoptedFor k).map (·.item.part)

/-! ### Owing (R57, R58) -/

/-- Raises an owed count (R57, R58). -/
def Context.countOwed (c : Context) : Context := { c with owed := capAt 65535 (c.owed + 1) }

/-- Adds the passport entry of an own item owed; a full list sets PASSPORT_FULL instead (R57). -/
def Context.joinOwnRun (c : Context) (d : ItemData) : Context :=
  if c.entryCount < Config.entriesMax then { c with ownRun := c.ownRun ++ [{ item := d, state := .opened }] }
  else { c with flags := { c.flags with passportFull := true } }

/-- Owes the own item at an index, which must be PENDING (R57, R121). -/
def oweOwn (s : State) (slot i : Nat) : State :=
  match ctxAt s slot with
  | none => s
  | some c =>
    match ownItem s c i with
    | none => s
    | some d =>
      if c.ownState i = some .pending then
        let c' := ((c.modOwn i (fun o => { o with state := .owed })).countOwed).joinOwnRun d
        let s1 := setSlot s slot (some c')
        let s2 := if c.entryCount < Config.entriesMax then s1 else report s1 (.lostItem c.serial d.key d.part)
        joinUrgent s2 (.owe d)
      else s

/-- An adopted entry moved from one state to another; an entry in any other state stays (R58, R121). -/
def Adopted.moved (before after : AdoptedState) (a : Adopted) : Adopted :=
  if a.state = before then { a with state := after } else a

/-- Owes an adopted item, which must be PENDING: it is dropped and owed again on behalf of its owner (R58, R121). -/
def dropAdopted (s : State) (slot : Nat) (k : ItemKey) : State :=
  match ctxAt s slot with
  | none => s
  | some c =>
    match c.adoptedFor k with
    | none => s
    | some a =>
      if a.state = .pending then
        let c' := ((c.modAdopted k (Adopted.moved .pending .dropped)).countOwed).setEntry k .opened
        joinUrgent (setSlot s slot (some c')) (.owe a.item)
      else s

/-- Owes a PENDING item of a context by its key and origin (R57, R58). -/
def oweItem (s : State) (slot : Nat) (k : ItemKey) (o : Origin) : State :=
  match o with
  | .adopted => dropAdopted s slot k
  | .own =>
    match (ctxAt s slot).bind (fun c => ownIndex s c k) with
    | some i => oweOwn s slot i
    | none => s

/-- The origin of a key on a retry list: ADOPTED when the adopted list holds it (R55; log 21). -/
def Context.originOf (c : Context) (k : ItemKey) : Origin := if (c.adoptedFor k).isSome then .adopted else .own

/-- Owes the keys of a retry list in order (R48). -/
def oweRetries (slot : Nat) : List ItemKey → State → State
  | [], s => s
  | k :: rest, s =>
    oweRetries slot rest (oweItem s slot k (((ctxAt s slot).map (·.originOf k)).getD .own))

/-- Owes the PENDING own items at the given indexes in order (R48). -/
def oweOwns (slot : Nat) : List Nat → State → State
  | [], s => s
  | i :: rest, s =>
    oweOwns slot rest (oweOwn s slot i)

/-- Drops the PENDING adopted items with the given keys in order (R48). -/
def oweAdopteds (slot : Nat) : List ItemKey → State → State
  | [], s => s
  | k :: rest, s =>
    oweAdopteds slot rest (dropAdopted s slot k)

/-- Owes every item a context has waiting: the retry list, the PENDING own steps from the cursor on, the PENDING
adopted items (R48). -/
def oweWaiting (s : State) (slot : Nat) : State :=
  match ctxAt s slot with
  | none => s
  | some c =>
    let s1 := oweRetries slot c.retry (modCtx s slot (fun c => { c with retry := [] }))
    let s2 := oweOwns slot ((List.range c.own.length).filter (c.cursor ≤ ·)) s1
    let s3 := modCtx s2 slot (fun c => { c with cursor := c.own.length })
    oweAdopteds slot (c.adopted.map (·.item.key)) s3

/-- The context in a slot becomes PLAN_CLOSED and owes what it has waiting (R48). -/
def planClose (s : State) (slot : Nat) : State :=
  match ctxAt s slot with
  | none => s
  | some c => if c.planClosed then s else oweWaiting (modCtx s slot (fun c => { c with planClosed := true })) slot

/-! ### Items handed back (R52 to R55) -/

/-- The retry count of an item and whether it is IN_CHAIN in its context (R53). -/
def inChainRetries (s : State) (slot : Nat) (k : ItemKey) (o : Origin) : Option Nat :=
  match ctxAt s slot with
  | none => none
  | some c =>
    match o with
    | .own =>
      match (ownIndex s c k).bind (fun i => c.own[i]?) with
      | some x => if x.state = .inChain then some x.retries else none
      | none => none
    | .adopted =>
      match c.adoptedFor k with
      | some a => if a.state = .inChain then some a.retries else none
      | none => none

/-- An item of a context that is IN_CHAIN becomes PENDING with a retry count (R53, R54). -/
def makePending (s : State) (slot : Nat) (k : ItemKey) (o : Origin) (retries : Nat) : State :=
  match ctxAt s slot with
  | none => s
  | some c =>
    match o with
    | .own =>
      match ownIndex s c k with
      | some i => setSlot s slot (some (c.modOwn i (fun x =>
          if x.state = .inChain then { state := .pending, retries := retries } else x)))
      | none => s
    | .adopted =>
      setSlot s slot (some (c.modAdopted k (fun a =>
        if a.state = .inChain then { a with state := .pending, retries := retries } else a)))

/-- The retry list of a context with a key put in at a place; a key already on it leaves it as it was (R55). -/
def Context.joinRetry (c : Context) (place : Nat) (k : ItemKey) : Context :=
  if c.retry.contains k then c else { c with retry := c.retry.take place ++ k :: c.retry.drop place }

/-- A PENDING item joins the retry list at a place, or is owed when its board is PLAN_CLOSED or the list is full
(R52, R54). -/
def queueRetry (s : State) (slot : Nat) (k : ItemKey) (o : Origin) (place : Nat) : State :=
  match ctxAt s slot with
  | none => s
  | some c =>
    if c.planClosed || decide (Config.retryMax ≤ c.retry.length) then oweItem s slot k o
    else setSlot s slot (some (c.joinRetry place k))

/-- The number of entries on the retry list of a slot's context. -/
def retryLength (s : State) (slot : Nat) : Nat := ((ctxAt s slot).map (·.retry.length)).getD 0

/-- An item handed back as returned: to the back of the retry list, or owed; the retry count stays (R53, R54). -/
def handReturned (s : State) (slot : Nat) (k : ItemKey) (o : Origin) : State :=
  match inChainRetries s slot k o with
  | none => s
  | some n => queueRetry (makePending s slot k o n) slot k o (retryLength s slot)

/-- An item handed back with a count: drop miss, verify reject, verify fault or lead-sense miss (R54). -/
def handCounted (s : State) (slot : Nat) (k : ItemKey) (o : Origin) : State :=
  match inChainRetries s slot k o with
  | none => s
  | some n =>
    if Config.retryCountMax ≤ n then oweItem (makePending s slot k o n) slot k o
    else queueRetry (makePending s slot k o (n + 1)) slot k o (retryLength s slot)

/-- Items handed back as reverted, in planning order: each to the front of its board's retry list behind the ones
reverted before it, or owed (R52). `front` counts, for each slot, those already placed. The items of several boards are taken
together in that order (log 67). -/
def handReverted (s : State) : List ClipItem → (front : List Nat) → State
  | [], _ => s
  | i :: rest, front =>
    match inChainRetries s i.board i.key i.origin with
    | none => handReverted s rest front
    | some n =>
      let s1 := queueRetry (makePending s i.board i.key i.origin n) i.board i.key i.origin (front.getD i.board 0)
      let placed := decide (retryLength s i.board < retryLength s1 i.board)
      handReverted s1 rest (if placed then front.modify i.board (· + 1) else front)

/-- No reverted item placed yet. -/
def noneReverted : List Nat := [0, 0, 0, 0, 0]

/-! ### The plan pass (R43 to R51) -/

/-- What a plan pass holds while it runs (R43). -/
structure Pass where
  frontier : Int
  assignments : Nat
  owed : Nat
  groups : List Nat
  deriving DecidableEq, Repr

/-- The highest position, counting from `n` on, of a live clip; `best` when there is none (R44). -/
def frontierFrom : List Clip → Nat → Int → Int
  | [], _, best => best
  | c :: rest, n, best => frontierFrom rest (n + 1) (if c.live.isSome then (n : Int) else best)

/-- The frontier at the start of a pass (R44). -/
def frontier (s : State) : Int := frontierFrom s.chain.clips 0 (-1)

/-- The slots of the contexts in line order: the CURRENT or ARRIVING context, then the EXPECTED ones from the nearest
upstream outward (R46). -/
def lineOrder (s : State) : List Nat :=
  (currentSlot s).toList ++ (arrivingSlot s).toList ++
  (List.range 16).reverse.flatMap fun p =>
    (List.range Config.slots).filter fun i =>
      match ctxAt s i with
      | some c => c.state == .expected && c.position == p
      | none => false

/-- The first index from `n` on of a PENDING own item; the length when there is none (R47). -/
def firstPending : List OwnItem → Nat → Nat
  | [], n => n
  | o :: rest, n => if o.state = .pending then n else firstPending rest (n + 1)

/-- The cursor moved forward over every step that is not PENDING (R47). -/
def Context.walk (c : Context) : Context := { c with cursor := firstPending (c.own.drop c.cursor) c.cursor }

/-- A context the planner looks at: bound to a READY bank and not PLAN_CLOSED (R46). -/
def openForPlan (s : State) (c : Context) : Bool :=
  !c.planClosed && (match c.bank with | some b => (s.store.bank b).state == .ready | none => false)

/-- An own item at or after the cursor is PENDING with its image not skipped (R46). -/
def ownWaiting (s : State) (c : Context) : Bool :=
  ((c.own.zip (boundSteps s c)).drop c.cursor).any fun x => x.1.state == .pending && !c.skips x.2.image

/-- The context has an unplanned item (R46). -/
def hasUnplanned (s : State) (c : Context) : Bool :=
  openForPlan s c && (!c.retry.isEmpty || ownWaiting s c || c.adopted.any (·.state == .pending))

/-- The planning board: the first context in line order with an unplanned item; the cursor of every context tested
has walked (R46, R47). -/
def planningBoard (s : State) : List Nat → State × Option Nat
  | [] => (s, none)
  | i :: rest =>
    match ctxAt s i with
    | none => planningBoard s rest
    | some c =>
      let s1 := if openForPlan s c then setSlot s i (some c.walk) else s
      if hasUnplanned s c.walk then (s1, some i) else planningBoard s1 rest

/-- Where the next item of a context comes from (R47). -/
inductive TakenFrom where
  | retry
  | cursor (i : Nat)
  | adoptedList
  deriving DecidableEq, Repr

/-- The next item of the planning board, which is PENDING: the front of the retry list, else the own step under the cursor,
else the first PENDING adopted item (R47, R121). -/
def nextItem (s : State) (c : Context) : Option (ItemData × Origin × TakenFrom) :=
  match c.retry with
  | k :: _ =>
    match c.originOf k with
    | .adopted => ((c.adoptedFor k).filter (·.state == .pending)).map fun a => (a.item, .adopted, .retry)
    | .own =>
      (((ownIndex s c k).filter fun i => c.ownState i == some .pending).bind (ownItem s c)).map fun d => (d, .own, .retry)
  | [] =>
    if c.ownState c.cursor = some .pending then (ownItem s c c.cursor).map fun d => (d, .own, .cursor c.cursor)
    else (c.adopted.find? (·.state == .pending)).map fun a => (a.item, .adopted, .adoptedList)

/-- The context without the item taken: off the retry list, or the cursor one step further (R47). -/
def Context.taken (c : Context) : TakenFrom → Context
  | .retry => { c with retry := c.retry.drop 1 }
  | .cursor i => { c with cursor := i + 1 }
  | .adoptedList => c

/-- Every context ahead of a slot in line order becomes PLAN_CLOSED (R48). -/
def closeAhead (slot : Nat) : List Nat → State → State
  | [], s => s
  | i :: rest, s => if i = slot then s else closeAhead slot rest (planClose s i)

/-- The planner takes an item of a context: at the first, the context becomes ENTERED and every context ahead of it
PLAN_CLOSED (R48). -/
def enterBoard (s : State) (slot : Nat) : State :=
  match ctxAt s slot with
  | none => s
  | some c =>
    if c.entered then s
    else closeAhead slot (lineOrder s) (modCtx s slot (fun c => { c with entered := true }))

/-- A dispenser is a candidate for a part (R50). -/
def candidate (s : State) (p : Pass) (part d : Nat) : Bool :=
  (dispAt s d).part == some part && available s d && decide (p.frontier < ((dispAt s d).position : Int)) &&
  !p.groups.contains (d / 4) && clipAt s (dispAt s d).position == .empty

/-- The candidate with the smallest chain position (R50). -/
def bestCandidate (s : State) (p : Pass) (part : Nat) : Option Nat :=
  (List.range 64).foldl (fun best d =>
    if candidate s p part d then
      match best with
      | some b => if (dispAt s d).position < (dispAt s b).position then some d else best
      | none => some d
    else best) none

/-- An available dispenser holds a part, wherever it stands and whatever its group (R51, R156). -/
def partAvailable (s : State) (part : Nat) : Bool :=
  (List.range 64).any fun d => available s d && (dispAt s d).part == some part

/-- A PENDING item of a context becomes IN_CHAIN (R50, R121). -/
def Context.intoChain (c : Context) (i : Option Nat) (k : ItemKey) : Origin → Context
  | .own =>
    match i with
    | some n => c.modOwn n (fun o => if o.state = .pending then { o with state := .inChain } else o)
    | none => c
  | .adopted => c.modAdopted k (Adopted.moved .pending .inChain)

/-- A live clip holds an item (R34). -/
def keyLive (s : State) (k : ItemKey) : Bool := (findLive (fun i => i.key == k) s.chain.clips 0).isSome

/-- The assignment of an item to the clip under a dispenser; it is taken when the clip is EMPTY and no live clip holds the
item (R34, R50). -/
def assign (s : State) (slot d : Nat) (x : ItemData) (o : Origin) (pose : Pose) : State :=
  let pos := (dispAt s d).position
  if clipAt s pos = .empty ∧ !keyLive s x.key then
    let s1 := setClip s pos (.planned { key := x.key, board := slot, disp := d, pose := pose, origin := o })
    match ctxAt s slot with
    | some c => setSlot s1 slot (some (c.intoChain (ownIndex s c x.key) x.key o))
    | none => s1
  else s

/-- One item of a pass (R49 to R51): the state and the pass after it, and the end cause when the pass ends with it. -/
def planItem (s : State) (p : Pass) (slot : Nat) (x : ItemData) (o : Origin) (src : TakenFrom) :
    State × Pass × Option EndCause :=
  let took := modCtx s slot (·.taken src)
  let owe := (oweItem took slot x.key o, { p with owed := capAt 65535 (p.owed + 1) }, none)
  match (ctxAt s slot).map (fun c => poseOf s c x) with
  | some (.pose pose) =>
    match bestCandidate s p x.part with
    | some d =>
      let p' := { p with frontier := ((dispAt s d).position : Int), assignments := p.assignments + 1,
                         groups := (d / 4) :: p.groups }
      (assign took slot d x o pose, p', if Config.budget ≤ p'.assignments then some .budget else none)
    | none => if partAvailable s x.part then (s, p, some .waiting) else owe
  | _ => owe

/-- The items of a pass one after another, at most `fuel` of them (R46). -/
def planLoop : (fuel : Nat) → State → Pass → State × Pass × EndCause
  | 0, s, p => (s, p, .exhausted)
  | fuel + 1, s, p =>
    match planningBoard s (lineOrder s) with
    | (s1, none) => (s1, p, .exhausted)
    | (s1, some slot) =>
      let s2 := enterBoard s1 slot
      match (ctxAt s2 slot).bind (nextItem s2) with
      | none => (s2, p, .exhausted)
      | some (x, o, src) =>
        match planItem s2 p slot x o src with
        | (s3, p', some cause) => (s3, p', cause)
        | (s3, p', none) => planLoop fuel s3 p'

/-- More items than five contexts can hold: own items, retry entries and adopted items. -/
def passFuel : Nat := 5 * (512 + Config.retryMax + Config.adoptedMax) + 1

/-- A plan pass with its summary (R43). -/
def planPass (s : State) : State :=
  match planLoop passFuel s { frontier := frontier s, assignments := 0, owed := 0, groups := [] } with
  | (s1, p, cause) =>
    s1.setPlanner { frontier := p.frontier, assignments := p.assignments, owed := p.owed, cause := cause }

end Sys2Proof.Machine
end

