-- ==== Sys2Proof/Machine/Chain.lean ====
section
/-! DEFINITION. The chain and its dispensers: cancellation (R41, R116), fault counting (R30, R31), drops (R27 to R29),
verification (R18, R36 to R39), the chain advance (R35) and the chain made unknown (R42). -/

namespace Sys2Proof.Machine

/-! ### Cancellation (R41, R116) -/

/-- A clip whose item is cancelled; `fired` when a drop into it is outstanding (R41). -/
def Clip.cancelled (fired : Bool) : Clip → Clip
  | .planned i => if fired then .surplus (some i.key) (some i.board) (some i.disp) (some i.origin) else .empty
  | .loaded i => .surplus (some i.key) (some i.board) (some i.disp) (some i.origin)
  | .verified i _ => .surplus (some i.key) (some i.board) (some i.disp) (some i.origin)
  | c => c

/-- The drop into a clip at a position is outstanding: the clip's dispenser was fired into it (R19). -/
def dropOpen (s : State) (pos d : Nat) : Bool := (dispAt s d).outstanding == some pos

/-- The clips with every live clip that passes cancelled; the first stands at position `n` (R41). -/
def cancelClips (s : State) (hit : ClipItem → Bool) : List Clip → (n : Nat) → List Clip
  | [], _ => []
  | c :: rest, n =>
    (match c.live with
     | some i => if hit i then c.cancelled (dropOpen s n i.disp) else c
     | none => c) :: cancelClips s hit rest (n + 1)

/-- A clip without its reference to the context of a slot (R33, R41). -/
def Clip.loseBoard (slot : Nat) : Clip → Clip
  | .rejected k b d o => .rejected k (if b = some slot then none else b) d o
  | .surplus k b d o => .surplus k (if b = some slot then none else b) d o
  | c => c

/-- The jaw record after a cancellation that names its item, before GATE was left: the item is waste and the revolution
does not descend (R116). After GATE was left it stays. -/
def cancelJaw (k : Stroke) : Stroke :=
  match k.jaw with
  | .item _ board _ _ _ =>
    match k.rev with
    | some r => if r.leftGate then k else { k with rev := some { r with descending := false }, jaw := .waste board }
    | none => { k with jaw := .waste board }
  | _ => k

/-- The jaw record without its reference to the context of a slot (R116). -/
def Jaw.loseBoard (slot : Nat) : Jaw → Jaw
  | .item k b p f o => .item k (if b = some slot then none else b) p f o
  | .waste b => .waste (if b = some slot then none else b)
  | .empty => .empty

/-- The jaw record holds an item with one of the keys. -/
def Jaw.holds (keys : List ItemKey) : Jaw → Bool
  | .item k _ _ _ _ => keys.contains k
  | _ => false

/-- The jaw record holds an item of the context of a slot. -/
def Jaw.ofBoard (slot : Nat) : Jaw → Bool
  | .item _ b _ _ _ => b == some slot
  | _ => false

/-- A cancellation that names item keys (R41, R116). -/
def cancelKeys (s : State) (keys : List ItemKey) : State :=
  let s1 := s.setChain { s.chain with clips := cancelClips s (fun i => keys.contains i.key) s.chain.clips 0 }
  s1.setStroke (if s.stroke.jaw.holds keys then cancelJaw s.stroke else s.stroke)

/-- A cancellation that names the board of a slot as its context is removed (R41, R116). -/
def cancelBoard (s : State) (slot : Nat) : State :=
  let clips := (cancelClips s (fun i => i.board == slot) s.chain.clips 0).map (·.loseBoard slot)
  let k := if s.stroke.jaw.ofBoard slot then cancelJaw s.stroke else s.stroke
  (s.setChain { s.chain with clips := clips }).setStroke { k with jaw := k.jaw.loseBoard slot }

/-! ### Counts of a context (R124) -/

/-- An ejection of a clip or jaw record that holds a board reference (R40, R112, R124). -/
def countEjected (s : State) (board : Option Nat) : State :=
  match board with
  | some slot => modCtx s slot (fun c => { c with ejected := capAt 65535 (c.ejected + 1) })
  | none => s

/-- A clinch suspect report (R111, R115, R124). -/
def countSuspect (s : State) (board : Option Nat) : State :=
  match board with
  | some slot => modCtx s slot (fun c => { c with clinchSuspect := capAt 65535 (c.clinchSuspect + 1) })
  | none => s

/-! ### Fault counting (R30, R31) -/

/-- The dispenser's count rises by one, up to 3; at 3 a READY, OUT or LOCKED dispenser becomes JAMMED (R30). A JAMMED dispenser
whose count a VERIFIED outcome has set to 0 counts up from there and raises nothing (log 48). -/
def Dispenser.fault (r : Dispenser) : Dispenser :=
  { r with
    faults := capAt 3 (r.faults + 1)
    state := if 3 ≤ r.faults + 1 then (match r.state with | .ready | .out | .locked => .jammed | st => st) else r.state }

/-- The fault makes the dispenser JAMMED (R30). -/
def Dispenser.jams (r : Dispenser) : Bool := r.state != .jammed && r.fault.state == .jammed

/-- A fault counted against a dispenser (R30). -/
def countDispenser (s : State) (d : Nat) : State :=
  let s1 := modDisp s d Dispenser.fault
  if (dispAt s d).jams then enterAlarm s1 .dispenserJam (.dispenser d) else s1

/-- The fault quarantines the group (R31). -/
def Group.quarantines (threshold : Nat) (g : Group) : Bool :=
  !g.quarantined && decide (threshold ≤ capAt 255 (g.faults + 1))

/-- The group's count rises by one, and at the threshold it becomes QUARANTINED (R31). -/
def Group.fault (threshold : Nat) (g : Group) : Group :=
  { faults := capAt 255 (g.faults + 1), quarantined := g.quarantined || g.quarantines threshold }

/-- A fault counted against the group of a dispenser (R31). -/
def countGroup (s : State) (d : Nat) : State :=
  let s1 := modGroup s (d / 4) (Group.fault (cfg s).quarantine)
  if (groupAt s (d / 4)).quarantines (cfg s).quarantine then enterAlarm s1 .groupQuarantine (.group (d / 4)) else s1

/-- A drop miss or verify reject counted against a dispenser and its group (R30, R31; the order of the alarms: log 24). -/
def countFault (s : State) (d : Nat) : State := countGroup (countDispenser s d) d

/-- A VERIFIED outcome on a clip the dispenser filled (R30). -/
def clearFaults (s : State) (d : Nat) : State := modDisp s d (fun r => { r with faults := 0 })

/-! ### Drops (R27 to R29) -/

/-- The clip's dispenser may fire: available, and holding the part of the clip's item (R27). -/
def mayFire (s : State) (i : ClipItem) : Bool :=
  available s i.disp &&
  (match partOf s i.board i.key i.origin with
   | some part => (dispAt s i.disp).part == some part
   | none => false)

/-- The PLANNED clips with their positions, nearest the head first; the first clip of the list stands at `n`. -/
def plannedClips : List Clip → (n : Nat) → List (Nat × ClipItem)
  | [], _ => []
  | .planned i :: rest, n => (n, i) :: plannedClips rest (n + 1)
  | _ :: rest, n => plannedClips rest (n + 1)

/-- Each PLANNED clip fired or made EMPTY; the items of those made EMPTY in planning order (R27). -/
def fireClips : List (Nat × ClipItem) → State → State × List ClipItem
  | [], s => (s, [])
  | (pos, i) :: rest, s =>
    if mayFire s i then fireClips rest (modDisp s i.disp (fun r => { r with outstanding := some pos }))
    else
      match fireClips rest (setClip s pos .empty) with
      | (s1, out) => (s1, i :: out)

/-- The DROP mark's work (R27, R52). -/
def dropWork (s : State) : State :=
  match fireClips (plannedClips s.chain.clips 0) s with
  | (s1, out) => handReverted s1 out noneReverted

/-- A drop put into a list in the order of chain positions. -/
def insertDrop (pos d : Nat) : List (Nat × Nat) → List (Nat × Nat)
  | [] => [(pos, d)]
  | (q, e) :: rest => if pos < q then (pos, d) :: (q, e) :: rest else (q, e) :: insertDrop pos d rest

/-- The outstanding drops as position and dispenser, in the order of chain positions; the first record is `d`. -/
def outstandingDrops : List Dispenser → (d : Nat) → List (Nat × Nat)
  | [], _ => []
  | r :: rest, d =>
    match r.outstanding with
    | some pos => insertDrop pos d (outstandingDrops rest (d + 1))
    | none => outstandingDrops rest (d + 1)

/-- A drop that ended without its confirm: the drop outputs are released and the missed position is kept (R29). -/
def endDrop (s : State) (pos d : Nat) : State :=
  modDisp s d (fun r => { r with outstanding := none, missed := some pos })

/-- A drop still outstanding at GATE is a miss (R29). -/
def missDrop (s : State) (pos d : Nat) : State :=
  let s1 := endDrop s pos d
  let s2 :=
    match clipAt s pos with
    | .planned i => handCounted (setClip s1 pos .empty) i.board i.key i.origin
    | .surplus _ _ _ _ => setClip s1 pos .empty
    | _ => s1
  enterAlarm (countFault s2 d) .dropMiss (.dispenser d)

/-- Every drop still outstanding at GATE is a miss (R29), in the order of chain positions whatever their boards (log 67). -/
def missDrops (s : State) : State :=
  (outstandingDrops s.disp.records 0).foldl (fun s x => missDrop s x.1 x.2) s

/-- A drop outstanding when the brake is applied at once ends without a count or an alarm; its item is handed back as
returned (R29). -/
def abandonDrop (s : State) (pos d : Nat) : State :=
  let s1 := endDrop s pos d
  match clipAt s pos with
  | .planned i => handReturned (setClip s1 pos .empty) i.board i.key i.origin
  | .surplus _ _ _ _ => setClip s1 pos .empty
  | _ => s1

/-- The drops and plans of a revolution ended by a brake applied at once (R29, R52), each in the order of chain positions whatever
their boards (log 67). -/
def abandonDrops (s : State) : State :=
  let s1 := (outstandingDrops s.disp.records 0).foldl (fun s x => abandonDrop s x.1 x.2) s
  let unfired := plannedClips s1.chain.clips 0
  handReverted (unfired.foldl (fun s x => setClip s x.1 .empty) s1) (unfired.map (·.2)) noneReverted

/-- The total drops and the quantity estimate after a component has dropped (R28). -/
def Dispenser.dropped (r : Dispenser) : Dispenser :=
  { r with totalDrops := capAt 4294967295 (r.totalDrops + 1), quantity := r.quantity - 1 }

/-- A drop confirm that ends an outstanding drop (R28, R38). -/
def confirmDrop (s : State) (pos d : Nat) : State :=
  let s1 := modDisp s d (fun r => { r.dropped with outstanding := none })
  match clipAt s pos with
  | .planned i =>
    if (cfg s).verifier then setClip s1 pos (.loaded i) else clearFaults (setClip s1 pos (.verified i false)) d
  | _ => s1

/-- A late confirm (R29). -/
def lateConfirm (s : State) (pos d : Nat) : State :=
  let s1 := modDisp s d (fun r => { r.dropped with missed := none })
  if clipAt s pos = .empty then setClip s1 pos (.surplus none none (some d) none) else s1

/-! ### Verification (R18, R36 to R39) -/

/-- An accepted outcome on the clip at a position (R39). -/
def acceptClip (s : State) (pos : Nat) (i : ClipItem) (flip : Bool) : State :=
  clearFaults (setClip s pos (.verified i flip)) i.disp

/-- The clip at a position becomes REJECTED and its item is handed back with a count (R39). -/
def rejectClip (s : State) (pos : Nat) (i : ClipItem) : State :=
  handCounted (setClip s pos (.rejected i.key (some i.board) i.disp i.origin)) i.board i.key i.origin

/-- A rejected outcome (R39). -/
def verifyReject (s : State) (pos : Nat) (i : ClipItem) : State :=
  enterAlarm (countFault (rejectClip s pos i) i.disp) .verifyReject (.dispenser i.disp)

/-- The clip a measurement stands for: LOADED with the record's key at the record's position (R37). -/
def measured (s : State) (m : Measurement) : Option ClipItem :=
  match clipAt s m.position with
  | .loaded i => if i.key = m.key then some i else none
  | _ => none

/-- The measurement record emptied. -/
def clearMeasurement (s : State) : State := s.setChain { s.chain with measurement := none }

/-- A missing outcome (R36, R39). -/
def verifyMissing (s : State) (m : Measurement) : State :=
  let s1 := clearMeasurement s
  match measured s m with
  | some i => enterAlarm (rejectClip s1 m.position i) .verifyFault (.dispenser i.disp)
  | none => s1

/-- The part table entry of a part code; an absent one is read as UNCHECKED (R18). -/
def partEntryOf (s : State) (part : Option Nat) : PartEntry :=
  match part.bind (fun p => s.store.parts.getD (p - 1) none) with
  | some e => e
  | none => { kind := .unchecked, cls := 0, lo := 0, hi := 0 }

/-- A measurement begins on the LOADED clip at the verify position (R18, R36, R196). -/
def beginMeasurement (s : State) (pos : Nat) (i : ClipItem) : State :=
  let e := partEntryOf s (partOf s i.board i.key i.origin)
  if e.kind = .unchecked then acceptClip s pos i false
  else
    s.setChain { s.chain with
      measurement := some { key := i.key, position := pos, disp := i.disp, entry := e, tag := s.chain.tagCount }
      tagCount := (s.chain.tagCount + 1) % 8 }

/-- The VERIFY mark's work (R36, R38). -/
def verifyWork (s : State) : State :=
  if (cfg s).verifier then
    let s1 := match s.chain.measurement with
      | some m => verifyMissing s m
      | none => s
    match clipAt s1 (cfg s).verifyPos with
    | .loaded i => beginMeasurement s1 (cfg s).verifyPos i
    | _ => s1
  else s

/-- Sense of a measurement result (R196). -/
inductive Sense where
  | none | forward | reverse
  deriving DecidableEq, Repr

/-- A result word (R196). -/
structure VerifyResult where
  tag : Nat
  cls : Nat
  sense : Sense
  value : Nat
  deriving DecidableEq, Repr

/-- The sense a code names; 3 is none (R196). -/
def senseOf (n : Nat) : Option Sense :=
  match n with
  | 0 => some .none
  | 1 => some .forward
  | 2 => some .reverse
  | _ => Option.none

/-- The word of the bits shifted in, most significant first; none when there are not 24 or the sense is 3 (R196). -/
def parseVerifyWord (bits : List Bool) : Option VerifyResult :=
  if bits.length = 24 then
    let w := natOfBits bits
    (senseOf (w / 65536 % 4)).map fun sense =>
      { tag := w / 2097152, cls := w / 262144 % 8, sense := sense, value := w % 65536 }
  else Option.none

/-- The judgement of a result: none for a reject, else the flip (R18). -/
def judge (e : PartEntry) (r : VerifyResult) : Option Bool :=
  match e.kind with
  | .unchecked => some false
  | .nonpolar => if e.lo ≤ r.value ∧ r.value ≤ e.hi then some false else Option.none
  | .polar =>
    if e.lo ≤ r.value ∧ r.value ≤ e.hi then
      (match r.sense with
       | .forward => some false
       | .reverse => some true
       | .none => Option.none)
    else Option.none

/-- A result for the measurement in flight (R37, R39). -/
def applyResult (s : State) (m : Measurement) (r : VerifyResult) : State :=
  let s1 := clearMeasurement s
  match measured s m with
  | Option.none => s1
  | some i =>
    match judge m.entry r with
    | some flip => acceptClip s1 m.position i flip
    | Option.none => verifyReject s1 m.position i

/-! ### The chain advance (R35) and the chain made unknown (R42) -/

/-- A measurement record moved down one position with its clip; past position 0 it is emptied (R36). -/
def Measurement.down (m : Measurement) : Option Measurement :=
  if m.position = 0 then none else some { m with position := m.position - 1 }

/-- The chain plan shifted one position toward the head (R35); before SETUP it holds no records. -/
def Chain.shift (c : Chain) : Chain :=
  { c with
    clips := match c.clips with
      | [] => []
      | _ :: rest => rest ++ [if c.purgeRequired then Clip.unknown else Clip.empty]
    measurement := c.measurement.bind Measurement.down }

/-- Every missed position made absent (R29, R42). -/
def clearMissed (u : DispUnit) : DispUnit := { u with records := u.records.map fun r => { r with missed := none } }

/-- The chain advance without its plan pass (R35). -/
def shiftChain (s : State) : State := (s.setChain s.chain.shift).setDisp (clearMissed s.disp)

/-- A plan pass runs at a chain advance: RUNNING, no purge required, and the chain step belongs to the revolution in
progress (R43). -/
def passRuns (s : State) : Bool := s.jam.run == .running && !s.chain.purgeRequired && s.stroke.rev.isSome

/-- The chain advance (R35, R43). -/
def chainAdvance (s : State) : State :=
  let s1 := shiftChain s
  if passRuns s1 then planPass s1 else s1

/-- The chain with every record UNKNOWN and the purge required (R42). -/
def Chain.madeUnknown (c : Chain) : Chain :=
  { c with clips := c.clips.map fun _ => Clip.unknown, purgeRequired := true, measurement := none }

/-- Every outstanding drop and missed position made absent (R42). -/
def clearDrops (u : DispUnit) : DispUnit :=
  { u with records := u.records.map fun r => { r with outstanding := none, missed := none } }

/-- The chain's contents made unknown, with the purge count 0 (R42, R173). -/
def makeUnknown (s : State) : State :=
  ((s.setChain s.chain.madeUnknown).setDisp (clearDrops s.disp)).setJam { s.jam with purgeCount := 0 }

/-- The items of live clips in the order of chain positions. -/
def liveItems (clips : List Clip) : List ClipItem := clips.filterMap Clip.live

/-- CHAIN_STALL: the chain is made unknown and every live item handed back as returned, in planning order (R42, R53),
whatever its board (log 67). -/
def stallChain (s : State) : State :=
  (liveItems s.chain.clips).foldl (fun s i => handReturned s i.board i.key i.origin) (makeUnknown s)

end Sys2Proof.Machine
end

