-- ==== Sys2Proof/Machine/Boards.lean ====
section
/-! DEFINITION. The board manager: contexts (R118, R119), the skip mask (R122), the stroke controller's reports (R124),
the clamp, the board transfer (R127, R128), passports (R130 to R133), finishing (R134, R135), and the claim (R156, R157). -/

namespace Sys2Proof.Machine

/-! ### Contexts -/

/-- A context removed: its clips and a jaw item lose their claim, and the slot is emptied (R119). -/
def removeCtx (s : State) (slot : Nat) : State := setSlot (cancelBoard s slot) slot none

/-- The context of a slot removed, if a slot is given. -/
def removeAt (s : State) : Option Nat → State
  | some slot => removeCtx s slot
  | none => s

/-- The bank that is READY with a program id (R15). -/
def lookupBank (s : State) (programId : Nat) : Option BankId :=
  if s.store.b0.state = .ready ∧ s.store.b0.programId = some programId then some .zero
  else if s.store.b1.state = .ready ∧ s.store.b1.programId = some programId then some .one
  else none

/-- The own items of a newly bound context: PENDING, or SKIPPED for an image in the mask (R118). -/
def freshItems (mask : BitVec 8) (steps : List StepRecord) : List OwnItem :=
  steps.map fun r => { state := if mask.getLsbD r.image then .skipped else .pending, retries := 0 }

/-- A context bound to a bank (R15, R16, R118); on a PLAN_CLOSED context its items are owed at the binding (R48). -/
def bindCtx (s : State) (slot : Nat) (b : BankId) : State :=
  match ctxAt s slot with
  | none => s
  | some c =>
    let c' := { c with bank := some b, noProgram := false, own := freshItems c.skipMask (s.store.bank b).steps,
                       cursor := 0, retry := [] }
    let s1 := setSlot s slot (some c')
    if c.planClosed then oweWaiting s1 slot else s1

/-- The lookup of R15 for a context without a bank: bound, or NO_PROGRAM. -/
def lookupCtx (s : State) (slot programId : Nat) : State :=
  match lookupBank s programId with
  | some b => bindCtx s slot b
  | none => modCtx s slot (fun c => { c with noProgram := true })

/-- A context created by an announce or by BOARD_LOAD (R118, R136, R152). -/
def createCtx (s : State) (slot serial programId position : Nat) (mask : BitVec 8) : State :=
  lookupCtx (setSlot s slot (some (Context.created serial (some programId) position mask))) slot programId

/-- A context that stands in line order ahead of one that is ENTERED becomes PLAN_CLOSED (R48): an EXPECTED one at a higher
position, or one that is ARRIVING or CURRENT, stands ahead of an EXPECTED one (R46). -/
def closeIfAhead (s : State) (slot : Nat) : State :=
  match ctxAt s slot with
  | none => s
  | some c =>
    if (slotOf s fun x =>
        x.state == .expected && x.entered && (c.state != .expected || decide (x.position < c.position))).isSome then
      planClose s slot
    else s

/-- Every context that has come to stand in line order ahead of one that is ENTERED becomes PLAN_CLOSED (R45, R48, R153), several
of them in line order (log 60: the spec gives no order). It follows each creation and each move of a context: the context that
moved may now stand ahead of an ENTERED one, and one that is ENTERED may have moved behind others. -/
def closeAllAhead (s : State) : State := (lineOrder s).foldl closeIfAhead s

/-- The slots whose context passes. -/
def slotsWhere (s : State) (p : Context → Bool) : List Nat :=
  (List.range Config.slots).filter fun i => match ctxAt s i with | some c => p c | none => false

/-- At BANK_CLOSE every EXPECTED NO_PROGRAM context that names the program is bound (R16), in the order of the slots
(log 47: the spec gives no order). -/
def bindAtClose (s : State) (b : BankId) (programId : Nat) : State :=
  (slotsWhere s fun c => c.state == .expected && c.noProgram && c.programId == some programId).foldl
    (fun s i => bindCtx s i b) s

/-! ### The image skip mask (R122) -/

/-- The keys of the items that an image joining the mask takes out: own items and adopted entries of the image that are
PENDING or IN_CHAIN (R122). -/
def skippedKeys (s : State) (c : Context) (new : BitVec 8) : List ItemKey :=
  ((c.own.zip (boundSteps s c)).filterMap fun x =>
    if new.getLsbD x.2.image && (x.1.state == .pending || x.1.state == .inChain) then some (stepItem s c x.2).key
    else none) ++
  (c.adopted.filterMap fun a =>
    if new.getLsbD a.item.image && (a.state == .pending || a.state == .inChain) then some a.item.key else none)

/-- Own items with those of new images SKIPPED (R122). -/
def skipOwn (new : BitVec 8) : List OwnItem → List StepRecord → List OwnItem
  | o :: os, r :: rs =>
    (if new.getLsbD r.image && (o.state == .pending || o.state == .inChain) then { o with state := .skipped } else o) ::
      skipOwn new os rs
  | os, _ => os

/-- The passport entries that stay when images join the mask: those of other images, and MADE_UP ones (R122). -/
def keepEntry (new : BitVec 8) (e : Entry) : Bool :=
  !new.getLsbD e.item.image || (match e.state with | .madeUp _ => true | _ => false)

/-- The context with images joined to its mask (R122). -/
def Context.skipImages (c : Context) (steps : List StepRecord) (keys : List ItemKey) (new : BitVec 8) : Context :=
  { c with
    skipMask := c.skipMask ||| new
    own := skipOwn new c.own steps
    adopted := c.adopted.map fun a =>
      if new.getLsbD a.item.image && (a.state == .pending || a.state == .inChain) then { a with state := .dropped } else a
    retry := c.retry.filter fun k => !keys.contains k
    upstream := c.upstream.filter (keepEntry new)
    ownRun := c.ownRun.filter (keepEntry new) }

/-- The images of a mask that are not yet in a context's join its mask (R122). -/
def joinMask (s : State) (slot : Nat) (mask : BitVec 8) : State :=
  match ctxAt s slot with
  | none => s
  | some c =>
    let new := mask &&& ~~~c.skipMask
    if new = 0 then s
    else
      let keys := skippedKeys s c new
      cancelKeys (setSlot s slot (some (c.skipImages (boundSteps s c) keys new))) keys

/-- An adopted entry dropped other than by owing: off the retry list, and its key cancelled (R122). -/
def withdrawAdopted (s : State) (slot : Nat) (k : ItemKey) : State :=
  cancelKeys (modCtx s slot fun c => (c.modAdopted k fun a =>
    if a.state = .pending ∨ a.state = .inChain then { a with state := .dropped } else a).offRetry k) [k]

/-! ### Insertion reports (R124) -/

/-- The passport entry of an inserted adopted item becomes MADE_UP by a station; with none held it is appended (R123,
R124). -/
def Context.madeUpBy (c : Context) (station : Nat) (k : ItemKey) : Context :=
  match c.entryState k with
  | some _ => c.setEntry k (.madeUp station)
  | none =>
    match c.adoptedFor k with
    | none => c
    | some a =>
      if c.entryCount < Config.entriesMax then
        { c with upstream := c.upstream ++ [{ item := a.item, state := .madeUp station }] }
      else { c with flags := { c.flags with passportFull := true } }

/-- An own item inserted (R124). -/
def Context.insertOwn (c : Context) (i : Nat) : Context :=
  if c.ownState i = some .inChain ∨ c.ownState i = some .skipped then
    { c.modOwn i (fun o => { o with state := .inserted }) with ownInserted := capAt 65535 (c.ownInserted + 1) }
  else c

/-- An adopted item inserted (R124). An entry already INSERTED is left as it is, counters and all (R121; log 54). -/
def Context.insertAdopted (c : Context) (station : Nat) (k : ItemKey) : Context :=
  if (c.adoptedFor k).map (·.state) = some .inserted then c
  else
    let c1 := c.modAdopted k fun a =>
      if a.state = .inChain ∨ a.state = .pending then { a with state := .inserted } else a
    Context.madeUpBy { c1 with madeUpInserted := capAt 65535 (c.madeUpInserted + 1) } station k

/-- The insertion report of the stroke controller (R110, R124). -/
def reportInserted (s : State) (board : Option Nat) (k : ItemKey) (o : Origin) : State :=
  match board with
  | none => s
  | some slot =>
    match ctxAt s slot with
    | none => s
    | some c =>
      match o with
      | .adopted => setSlot s slot (some (c.insertAdopted (cfg s).station k))
      | .own =>
        match ownIndex s c k with
        | some i => setSlot s slot (some (c.insertOwn i))
        | none => s

/-! ### The clamp (R127, R128; log 25) -/

/-- The clamp output changed; with the guard open the change waits until it closes. An open clamp is not confirmed
closed. -/
def setClamp (s : State) (closed : Bool) : State :=
  if s.inputs.guardOpen then s.setBoards { s.boards with clampWanted := closed }
  else
    (s.setBoards { s.boards with clampOut := closed, clampWanted := closed }).setInputs
      { s.inputs with clampClosed := s.inputs.clampClosed && closed }

/-! ### The passport at departure (R130) -/

/-- The state in which an entry is sent (R130). -/
def sentState (s : State) : EntryState → EntryState
  | .claimed n => if decide (n ≤ (cfg s).station) || !(rosterAt s n).present then .opened else .claimed n
  | st => st

/-- Two sets of flags joined. -/
def PassFlags.join (a b : PassFlags) : PassFlags :=
  { noPassport := a.noPassport || b.noPassport, partialPassport := a.partialPassport || b.partialPassport,
    unidentified := a.unidentified || b.unidentified, passportFull := a.passportFull || b.passportFull }

/-- The head of a departing board's passport (R130). -/
def passportHeadOf (s : State) (c : Context) : PassHead :=
  { serial := c.serial, programId := if c.flags.unidentified then 0 else c.programId.getD 0, mask := c.skipMask,
    count := c.entryCount, flags := c.history.join c.flags,
    skipped := if c.bank.isNone then c.skippedStations ||| (1#16 <<< (cfg s).station) else c.skippedStations }

/-- The entries of a passport as frames, from an index on (R130). -/
def entryFrames (s : State) : List Entry → (index : Nat) → List Frame
  | [], _ => []
  | e :: rest, n => .passportEntry n { e with state := sentState s e.state } :: entryFrames s rest (n + 1)

/-- The passport of a departing board: the head, then its entries in list order (R130). -/
def buildPassport (s : State) (c : Context) : List Frame :=
  .passportHead (passportHeadOf s c) :: entryFrames s c.entries 0

/-! ### The claim (R156, R157) -/

/-- The conditions of the claim test that do not depend on the frame or on the state of the context: conditions 2, 4, 6,
7, 8 and PLAN_CLOSED of condition 3 (R156, R132). -/
def claimAllowed (s : State) (c : Context) (d : ItemData) : Bool :=
  s.jam.run == .running && !c.planClosed && (c.adoptedFor d.key).isNone &&
  decide (c.adopted.length < Config.adoptedMax) && partAvailable s d.part &&
  (match poseOf s c d with | .pose _ => true | .noTarget _ => false) && urgentRoom s

/-- The item joins the adopted list as PENDING, its entry becomes CLAIMED by this station, and a CLAIM is queued (R157). -/
def claim (s : State) (slot : Nat) (d : ItemData) : State :=
  joinUrgent
    (modCtx s slot fun c =>
      Context.setEntry { c with adopted := c.adopted ++ [{ item := d, retries := 0, state := .pending }] } d.key
        (.claimed (cfg s).station))
    (.claim d.key d.image)

/-! ### The passport at arrival (R131 to R133) -/

/-- The buffer holds a head and all of its entries (R131). -/
def PassIn.complete (b : PassIn) : Bool := (b.entries.take b.head.count).all Option.isSome

/-- The entries held, in index order. -/
def PassIn.held (b : PassIn) : List Entry := b.entries.filterMap id

/-- A buffer that holds a head and none of its entries (R131). -/
def PassIn.ofHead (h : PassHead) : PassIn := { head := h, entries := List.replicate h.count none }

/-- The adopted list holds a key as PENDING, IN_CHAIN or INSERTED (R132). -/
def Context.heldAdopted (c : Context) (k : ItemKey) : Bool :=
  match c.adoptedFor k with
  | some a => a.state != .dropped
  | none => false

/-- The state a passport entry takes at pairing (R132). -/
def pairedState (s : State) (c : Context) (e : Entry) : EntryState :=
  match c.entryState e.item.key with
  | some (.madeUp m) => .madeUp m
  | _ =>
    match e.state with
    | .madeUp m => .madeUp m
    | .claimed n =>
      if c.heldAdopted e.item.key then .claimed (cfg s).station
      else if (cfg s).station < n ∧ (rosterAt s n).present then .claimed n else .opened
    | .opened => if c.heldAdopted e.item.key then .claimed (cfg s).station else .opened

/-- A held adopted entry that the passport shows MADE_UP elsewhere is dropped: PENDING or IN_CHAIN, and the entry not
already held MADE_UP (R132). -/
def dropsAdopted (c : Context) (e : Entry) : Bool :=
  (match c.entryState e.item.key with | some (.madeUp _) => false | _ => true) &&
  (match e.state with | .madeUp _ => true | _ => false) &&
  (match c.adoptedFor e.item.key with | some a => a.state == .pending || a.state == .inChain | none => false)

/-- The upstream entries held that are MADE_UP and whose keys a passport lacks (R132). -/
def keptUpstream (c : Context) (es : List Entry) : List Entry :=
  c.upstream.filter fun e =>
    (match e.state with | .madeUp _ => true | _ => false) && !(es.any fun x => x.item.key == e.item.key)

/-- The context with its upstream run rebuilt from the passport's entries; at most 32 entries stay (R132). -/
def Context.rebuilt (c : Context) (run : List Entry) : Context :=
  { c with
    upstream := run.take Config.entriesMax
    ownRun := c.ownRun.take (Config.entriesMax - run.length)
    flags := { c.flags with
      passportFull := c.flags.passportFull || decide (Config.entriesMax < run.length + c.ownRun.length) } }

/-- LOST_ITEM for each entry of the own run that the rebuilding removes and that is not MADE_UP (R132). -/
def reportLost (s : State) (serial : Nat) : List Entry → State
  | [] => s
  | e :: rest =>
    reportLost (match e.state with
      | .madeUp _ => s
      | _ => report s (.lostItem serial e.item.key e.item.part)) serial rest

/-- Late adoption tried for each entry of the passport that is OPEN, in index order (R132). -/
def lateAdopt (slot : Nat) : List Entry → State → State
  | [], s => s
  | e :: rest, s =>
    lateAdopt slot rest
      (match ctxAt s slot with
       | none => s
       | some c =>
         if c.entryState e.item.key = some .opened ∧ claimAllowed s c e.item then claim s slot e.item else s)

/-- The keys of the adopted items that the passport shows MADE_UP elsewhere dropped in turn (R132). -/
def dropMadeUp (slot : Nat) : List Entry → State → State
  | [], s => s
  | e :: rest, s => dropMadeUp slot rest (withdrawAdopted s slot e.item.key)

/-- R132 for a context: the head's mask, history and skipped stations, the rebuilt entries with their states, and late
adoption. The pairing and the buffer are settled by the caller. -/
def applyPassport (s : State) (slot : Nat) (h : PassHead) (es : List Entry) : State :=
  let s1 := joinMask s slot h.mask
  match ctxAt s1 slot with
  | none => s1
  | some c =>
    let run := (es.map fun e => { e with state := pairedState s1 c e }) ++ keptUpstream c es
    let c' := { c.rebuilt run with history := h.flags, skippedStations := h.skipped }
    let s2 := dropMadeUp slot (es.filter (dropsAdopted c)) (setSlot s1 slot (some c'))
    lateAdopt slot es (reportLost s2 c.serial (c.ownRun.drop (Config.entriesMax - run.length)))

/-- The slot of the context whose pairing is AWAITED: ARRIVING or CURRENT (R132). -/
def awaitedSlot (s : State) : Option Nat :=
  slotOf s fun c => c.pairing == .awaited && (c.state == .arriving || c.state == .current)

/-- ANNOUNCE for the CURRENT context of a slot with a nonzero serial, at this station (R128, R133). -/
def announceCtx (s : State) (slot : Nat) : State :=
  match ctxAt s slot with
  | some c =>
    if c.state = .current ∧ c.serial ≠ 0 then
      queueAnnounce s c.serial (c.programId.getD 0) (cfg s).station c.skipMask
    else s
  | none => s

/-- Every other held context with a serial removed (R133). -/
def removeOthers (s : State) (slot serial : Nat) : State :=
  ((List.range Config.slots).filter fun i =>
    i != slot && (match ctxAt s i with | some c => c.serial == serial | none => false)).foldl removeCtx s

/-- The program id a head carries; 0 is none (R194). -/
def PassHead.program (h : PassHead) : Option Nat := if h.programId = 0 then none else some h.programId

/-- A new context for a head whose serial differs from the expected one: the same state, NO_PROGRAM, unbound (R133). While it
is ARRIVING it keeps the position of the context it replaces (log 56). -/
def mismatchCtx (s : State) (st : CtxState) (position : Nat) (h : PassHead) : Context :=
  { Context.created h.serial h.program
      (if st = .current then (cfg s).station else position) 0 with
    state := st, noProgram := true, pairing := .awaited
    flags := { PassFlags.clear with unidentified := h.serial == 0 }
    fromHead := true }

/-- The context of a slot made the one the head names (R133): a context that R129 created learns its serial (log 18); any other
with a different serial, an UNIDENTIFIED one that an earlier head gave among them, is replaced, and the new one stands ahead of
every EXPECTED context (R48). A head with serial 0 removes no other context (log 55). -/
def identify (s : State) (slot : Nat) (h : PassHead) : State :=
  match ctxAt s slot with
  | none => s
  | some c =>
    if c.serial = h.serial then s
    else
      let s1 := if h.serial = 0 then s else removeOthers s slot h.serial
      if c.flags.unidentified ∧ c.fromHead = false then
        modCtx s1 slot fun c =>
          { c with serial := h.serial, programId := h.program, flags := { c.flags with unidentified := false } }
      else closeAllAhead (setSlot (removeCtx s1 slot) slot (some (mismatchCtx s1 c.state c.position h)))

/-- The passport-in buffer emptied. -/
def clearPassIn (s : State) : State := s.setBoards { s.boards with passIn := none }

/-- The pairing of a slot's context SETTLED, the buffer emptied and the passport wait stopped (R132, R133). -/
def settlePairing (s : State) (slot : Nat) : State :=
  let s1 := modCtx s slot fun c => { c with pairing := .settled }
  s1.setBoards { s1.boards with passIn := none, passWait := none }

/-- The buffered passport applied to the awaited context; a context that takes its identity from the head is announced
when it is CURRENT (R132, R133). -/
def pairWith (s : State) (slot : Nat) (b : PassIn) : State :=
  let s1 := applyPassport (identify s slot b.head) slot b.head b.held
  if (ctxAt s slot).map (·.serial) = some b.head.serial then s1 else announceCtx s1 slot

/-- Pairing when the buffer is complete while a context awaits it (R132, R133). A head with serial 0 leaves the wait
running (log 17). -/
def tryPair (s : State) : State :=
  match s.boards.passIn, awaitedSlot s with
  | some b, some slot =>
    if b.complete then
      let s1 := pairWith s slot b
      if b.head.serial = 0 then clearPassIn s1 else settlePairing s1 slot
    else s
  | _, _ => s

/-- UNKNOWN_BOARD for a context that keeps no identity (R133). -/
def reportUnknown (s : State) (slot : Nat) : State :=
  match ctxAt s slot with
  | some c => if c.flags.unidentified then report s (.unknownBoard (cfg s).station) else s
  | none => s

/-- The passport wait's expiry: the pairing settles with what the buffer holds (R133). -/
def expireWait (s : State) : State :=
  match awaitedSlot s with
  | none => s.setBoards { s.boards with passWait := none }
  | some slot =>
    match s.boards.passIn with
    | some b =>
      let s1 := modCtx (pairWith s slot b) slot fun c => { c with flags := { c.flags with partialPassport := true } }
      settlePairing (reportUnknown s1 slot) slot
    | none =>
      let s1 := modCtx s slot fun c => { c with flags := { c.flags with noPassport := true } }
      settlePairing (reportUnknown s1 slot) slot

/-- A head or entry for the serial of a context here whose pairing has settled (R131, R133); a DEPARTING context is not asked
(log 64). -/
def alreadyPaired (s : State) (serial : Nat) : Bool :=
  (slotOf s fun c =>
    c.serial == serial && c.pairing == .settled && (c.state == .arriving || c.state == .current)).isSome

/-- Passport frames are taken from station s - 1 alone, and not at a FIRST or SINGLE station (R131). -/
def passportFrom (s : State) (sender : Nat) : Bool := !headOfLine s && sender + 1 == (cfg s).station

/-- A PASSPORT_HEAD taken into the buffer (R131). -/
def takeHead (s : State) (sender : Nat) (h : PassHead) : State :=
  if passportFrom s sender && !alreadyPaired s h.serial then
    tryPair (s.setBoards { s.boards with passIn := some (PassIn.ofHead h) })
  else s

/-- A PASSPORT_ENTRY taken into the buffer (R131). -/
def takeEntry (s : State) (sender index : Nat) (e : Entry) : State :=
  match s.boards.passIn with
  | none => s
  | some b =>
    if passportFrom s sender && e.item.key.serial == b.head.serial && decide (index < b.head.count) &&
      (b.entries.getD index none).isNone then
      tryPair (s.setBoards { s.boards with passIn := some { b with entries := b.entries.set index (some e) } })
    else s

/-! ### Finishing a board (R134, R135) -/

/-- A live clip references a slot's context (R134). -/
def liveFor (s : State) (slot : Nat) : Bool := (lowestLive s slot).isSome

/-- The conditions of R134 for a context. -/
def finishReady (s : State) (slot : Nat) (c : Context) : Bool :=
  c.pairing == .settled && (c.own.all fun o => o.state != .pending && o.state != .inChain) &&
  (c.adopted.all fun a => a.state != .pending && a.state != .inChain) && !liveFor s slot

/-- The BOARD_DONE content of a context (R135). -/
def boardDone (c : Context) : ReportKind :=
  .boardDone c.serial c.programId c.ownInserted c.madeUpInserted c.owed c.ejected c.clinchSuspect
    (c.own.filter (·.state == .skipped)).length c.entered c.planClosed c.noProgram c.finished c.flags

/-- The CURRENT context becomes FINISHED when the conditions of R134 hold, and PLAN_CLOSED with it: nothing waits that could be
owed, and its cursor, walking over steps that are none of them PENDING, comes to rest at the committed count (R48). -/
def testFinished (s : State) : State :=
  match currentSlot s with
  | none => s
  | some slot =>
    match ctxAt s slot with
    | none => s
    | some c =>
      if !c.finished && finishReady s slot c then
        let c' := { c.walk with finished := true, planClosed := true }
        report (setSlot s slot (some c')) (boardDone c')
      else s

/-- The number of passport entries that are not MADE_UP (R135). -/
def Context.notMadeUp (c : Context) : Nat :=
  (c.entries.filter fun e => match e.state with | .madeUp _ => false | _ => true).length

/-- Some flag is set. -/
def PassFlags.anySet (f : PassFlags) : Bool := f.noPassport || f.partialPassport || f.unidentified || f.passportFull

/-- The outcome COMPLETE of BOARD_RESULT (R135). -/
def Context.complete (c : Context) : Bool :=
  c.notMadeUp == 0 && c.skippedStations == 0 && !c.history.anySet && !c.flags.anySet &&
  !(c.own.any fun o => o.state == .owed)

/-! ### The board transfer (R127, R128) -/

/-- A CURRENT context departs (R127): the clamp opens, and a FIRST or MIDDLE station builds its passport. -/
def depart (s : State) : State :=
  match currentSlot s with
  | none => s
  | some slot =>
    match ctxAt s slot with
    | none => s
    | some c =>
      let s1 := setClamp (setSlot s slot (some { c with state := .departing })) false
      if (cfg s).role = .first ∨ (cfg s).role = .middle then
        s1.setBoards { s1.boards with passOut := buildPassport s c }
      else s1

/-- The slot of the context that arrives at a line index: at s - 1, or the load slot's (R119, R127). -/
def nextArrival (s : State) : Option Nat :=
  if headOfLine s then
    match s.boards.load with
    | some l => slotOf s fun c => c.state == .expected && c.serial == l.serial
    | none => none
  else slotOf s fun c => c.state == .expected && c.position + 1 == (cfg s).station

/-- An EXPECTED context steps one position (R127). -/
def Context.stepped (c : Context) : Context :=
  if c.state = .expected then { c with position := c.position + 1 } else c

/-- Every EXPECTED context steps one position (R127). -/
def stepPositions (s : State) : State :=
  s.setBoards { s.boards with slots := s.boards.slots.map (fun o => o.map Context.stepped) }

/-- The next context becomes ARRIVING (R127). -/
def arrive (s : State) (slot : Nat) : State :=
  let s1 := modCtx s slot fun c =>
    { c with state := .arriving, pairing := if headOfLine s then .settled else .awaited }
  s1.setBoards { s1.boards with
    load := if headOfLine s then none else s1.boards.load
    passWait := if headOfLine s then none else some (ms (cfg s).passportWait) }

/-- A board is expected from upstream though no context is held: the last STATUS of station s - 1 shows a serial (R127). -/
def expectedUpstream (s : State) : Bool :=
  !headOfLine s &&
  (match (rosterAt s ((cfg s).station - 1)).last with
   | some c => c.serial != 0
   | none => false)

/-- The transfer of a line index begins (R127). -/
def beginTransfer (s : State) : State :=
  let s1 := depart (s.setBoards { s.boards with passIn := none, passWait := none })
  let s2 := match nextArrival s1 with
    | some slot => stepPositions (arrive s1 slot)
    | none => stepPositions (if headOfLine s1 then s1.setBoards { s1.boards with load := none } else s1)
  s2.setBoards { s2.boards with
    transfer := some
      { departs := (departingSlot s2).isSome
        expected := (arrivingSlot s2).isNone && expectedUpstream s
        exited := false
        arrived := false
        limit := some (ms (cfg s).transferLimit)
        jammed := false } }

/-- The conditions of R128 hold; a transfer whose limit expired completes once the station runs again (log 16). -/
def transferDone (s : State) (t : Transfer) : Bool :=
  (!t.departs || t.exited) &&
  (!((arrivingSlot s).isSome || t.expected) || (t.arrived && clamped s)) &&
  (!t.jammed || producing s)

/-- BOARD_RESULT for the departing context at an END or SINGLE station (R128, R135). -/
def reportResult (s : State) : State :=
  match (departingSlot s).bind (ctxAt s) with
  | some c =>
    if (cfg s).role = .last ∨ (cfg s).role = .single then report s (.boardResult c.serial c.notMadeUp c.complete) else s
  | none => s

/-- The ARRIVING context becomes CURRENT at this station, and is announced (R128). -/
def becomeCurrent (s : State) : State :=
  match arrivingSlot s with
  | none => s
  | some slot =>
    announceCtx (modCtx s slot fun c => { c with state := .current, position := (cfg s).station }) slot

/-- The run state after a transfer completed: READY when STOPPING toward the board's end (R168). -/
def stopAtTransferEnd (s : State) : State :=
  if stoppingAtBoardEnd s then s.setJam { s.jam with run := .ready, qualifier := none } else s

/-- The transfer completes (R128). -/
def completeTransfer (s : State) : State :=
  let s1 := becomeCurrent (removeAt (reportResult s) (departingSlot s))
  stopAtTransferEnd (s1.setBoards { s1.boards with transfer := none })

/-- The completion of R128 tested. -/
def tryComplete (s : State) : State :=
  match s.boards.transfer with
  | some t => if transferDone s t then completeTransfer s else s
  | none => s

/-- The EXPECTED context at the lowest position (R129). -/
def lowestExpected (s : State) : Option Nat :=
  ((List.range 16).findSome? fun p => slotOf s fun c => c.state == .expected && c.position == p)

/-- The context of an unexpected board (R129); it stands at the station it comes from (log 38). -/
def unexpectedCtx (position : Nat) : Context :=
  { Context.created 0 none position 0 with
    state := .arriving, noProgram := true, pairing := .awaited, flags := { PassFlags.clear with unidentified := true } }

/-- A board at the stop during a transfer with no ARRIVING context gets a context (R129). It stands ahead of every EXPECTED
one (R48), and a passport that the buffer already holds whole is paired with it (R132). -/
def unexpectedBoard (s : State) : State :=
  let s1 := if (emptySlot s).isSome then s else removeAt s (lowestExpected s)
  match emptySlot s1 with
  | none => s1
  | some slot =>
    let s2 := closeAllAhead (setSlot s1 slot (some (unexpectedCtx ((cfg s).station - 1))))
    tryPair (s2.setBoards { s2.boards with passWait := some (ms (cfg s).passportWait) })

end Sys2Proof.Machine
end

