-- ==== Sys2Proof/Machine/Table.lean ====
section
/-! DEFINITION. The table drive: moves along the ramp (R80, R81), the guard and the halt (R84 to R86), HOME (R89 to R91),
JOG (R93), the index check (R87); and the head's actuators as HOME and the pose unit see them (R71, R106, R107). -/

namespace Sys2Proof.Machine

/-! ### Positioning (R73, R74) -/

/-- The state with another positioning record. -/
def setPositioning (s : State) (r : Option Positioning) : State := s.setPose { s.pose with positioning := r }

/-- The live clip of an item, with its position. -/
def liveClip (s : State) (k : ItemKey) : Option (Nat × ClipItem) := findLive (fun i => i.key == k) s.chain.clips 0

/-- The fresh prediction of a resumed move toward a clip, taken from the counters and the record with its pose (R74, event 4). -/
def rePredict (s : State) (k : ItemKey) : State :=
  match s.pose.positioning, liveClip s k with
  | some r, some (pos, _) =>
    match r.pose with
    | some p =>
      if r.clip = some k then
        let t := predict s p (clipAt s pos).verifiedFlip
        setPositioning s (some { r with tp := t, r := t })
      else s
    | none => s
  | _, _ => s

/-- The fresh prediction of a resumed JOG (R74, R92). -/
def rePredictJog (s : State) (ax : Axis) (target : Nat) : State :=
  match s.pose.positioning with
  | some r => let t := predictJog s ax target; setPositioning s (some { r with tp := t, r := t })
  | none => s

/-! ### Motions (R80) -/

/-- The state with another table operation. -/
def setOp (s : State) (op : Operation) : State := s.setTable { s.table with op := op }

/-- An axis move from a counter to a target (R80). -/
def axisMotion (rs : List Nat) (cur target : Nat) : AxisMotion :=
  let n := distance cur target
  if n = 0 then .done false 0 0 else .profile (decide (cur < target)) n 1 (intervalAt rs (rampIndex rs n 1))

/-- A move of both axes from the counters to a target (R80). -/
def freshMotion (s : State) (tx ty : Nat) : Motion :=
  { tx := tx, ty := ty, state := .stepping, x := axisMotion (ratesOf s .x) s.table.x tx,
    y := axisMotion (ratesOf s .y) s.table.y ty, settle := none, ending := false }

/-- The axis has no interval running. -/
def AxisMotion.isDone : AxisMotion → Bool
  | .done _ _ _ => true
  | _ => false

/-- The axis runs a stop sequence (R84). -/
def AxisMotion.isStopping : AxisMotion → Bool
  | .stopping _ _ _ _ _ => true
  | _ => false

/-- The axis's motion in a move. -/
def Motion.axis (m : Motion) : Axis → AxisMotion
  | .x => m.x
  | .y => m.y

/-- The axis's motion in a move replaced. -/
def Motion.setAxis (m : Motion) (ax : Axis) (v : AxisMotion) : Motion :=
  match ax with
  | .x => { m with x := v }
  | .y => { m with y := v }

/-- The motion of a MOVE or JOG. -/
def Operation.motion : Operation → Option Motion
  | .move _ m => some m
  | .jog _ _ m => some m
  | .none => Option.none
  | .home _ => Option.none

/-- The motion of a MOVE or JOG replaced. -/
def Operation.withMotion (m : Motion) : Operation → Operation
  | .move k _ => .move k m
  | .jog ax c _ => .jog ax c m
  | op => op

/-- The direction output of an axis set as its motion starts (R80); that of an axis with no step to issue stays (log 51). -/
def AxisMotion.direct (v : AxisMotion) (ax : Axis) (t : Table) : Table :=
  match v with
  | .profile up _ _ _ => t.setDir ax up
  | _ => t

/-- Both direction outputs set toward a motion's target. -/
def Motion.direct (m : Motion) (t : Table) : Table := m.y.direct .y (m.x.direct .x t)

/-- An axis's table position in the last settled pose replaced. -/
def LastPose.setAxis (l : LastPose) (ax : Axis) (n : Nat) : LastPose :=
  match ax with
  | .x => { l with x := n }
  | .y => { l with y := n }

/-- The state with another last settled pose. -/
def setLast (s : State) (l : LastPose) : State := s.setPose { s.pose with last := l }

/-- The target of an axis in a motion. -/
def Motion.target (m : Motion) : Axis → Nat
  | .x => m.tx
  | .y => m.ty

/-- A JOG's end is reported and its positioning record removed (R93). -/
def endJog (s : State) (ax : Axis) (m : Motion) (o : JogOutcome) : State :=
  report (setPositioning (setOp s .none) none) (.jogDone ax (m.target ax) (s.table.counter ax) o)

/-- The settle time has run out: a MOVE completes (R81), a JOG completes (R93). -/
def completeMotion (s : State) : State :=
  match s.table.op with
  | .move _ m => setLast (setOp s .none) { s.pose.last with x := m.tx, y := m.ty }
  | .jog ax _ m =>
    let s1 := if s.table.homeValid then setLast s (s.pose.last.setAxis ax (m.target ax)) else s
    endJog s1 ax m .reached
  | .none => s
  | .home _ => s

/-- The operation ends without completing (R86, R93). -/
def endMotion (s : State) (o : JogOutcome) : State :=
  match s.table.op with
  | .jog ax _ m => endJog s ax m o
  | .move _ _ => setOp s .none
  | .none => s
  | .home _ => setOp s .none

/-- The counters stand at a motion's target. -/
def atTarget (s : State) (m : Motion) : Bool := s.table.x == m.tx && s.table.y == m.ty

/-- A HELD motion, or one that waited, runs as a fresh one from the counters to its target (R85). -/
def runFresh (s : State) : State :=
  match s.table.op with
  | .move k m =>
    let v := freshMotion s m.tx m.ty
    rePredict ((s.setTable (v.direct { s.table with op := .move k v }))) k
  | .jog ax c m =>
    let v := freshMotion s m.tx m.ty
    rePredictJog (s.setTable (v.direct { s.table with op := .jog ax c v })) ax (m.target ax)
  | .none => s
  | .home _ => s

/-- Both axes of a motion stand (R81, R84, R85, R86): a halting one ends; at its target it settles, or completes when the
settle time is 0; short of it, it is HELD while the guard is open and runs on afresh otherwise. -/
def axesStand (s : State) : State :=
  match s.table.op.motion with
  | none => s
  | some m =>
    if m.ending then endMotion s .stopped
    else if atTarget s m then
      if (cfg s).settle = 0 then completeMotion s
      else setOp s (s.table.op.withMotion { m with state := .settling, settle := some (ms (cfg s).settle) })
    else if s.inputs.guardOpen then setOp s (s.table.op.withMotion { m with state := .held })
    else runFresh s

/-- The consequences of both axes standing, if they do. -/
def testStand (s : State) : State :=
  match s.table.op.motion with
  | some m => if m.x.isDone && m.y.isDone then axesStand s else s
  | none => s

/-! ### Steps (R79, R80, R84) -/

/-- The motion of an axis after the step whose interval ran (R80, R84). -/
def AxisMotion.next (rs : List Nat) : AxisMotion → AxisMotion
  | .profile up n k _ => if n ≤ k then .done up n 0 else .profile up n (k + 1) (intervalAt rs (rampIndex rs n (k + 1)))
  | .stopping up n toGo j _ =>
    if j = 0 then .done up n (toGo - 1) else .stopping up n (toGo - 1) (j - 1) (intervalAt rs (j - 1))
  | .done up n toGo => .done up n toGo

/-- The direction of an axis's motion. -/
def AxisMotion.up : AxisMotion → Bool
  | .profile up _ _ _ => up
  | .stopping up _ _ _ _ => up
  | .done up _ _ => up

/-- The steps an axis still has to issue to its target, counting the one whose interval is running (R78, R84). -/
def AxisMotion.toGo : AxisMotion → Nat
  | .profile _ n k _ => n - k + 1
  | .stopping _ _ toGo _ _ => toGo
  | .done _ _ toGo => toGo

/-- A counter after a counted step (R79). -/
def stepped (up : Bool) (n : Nat) : Nat := if up then n + 1 else n - 1

/-- The levels of an axis's index and home inputs after a step: the index input is left, and a positive step leaves the
home switch (log 10). -/
def Inputs.afterStep (i : Inputs) (ax : Axis) (up : Bool) : Inputs :=
  match ax with
  | .x => { i with indexX := false, homeX := i.homeX && !up }
  | .y => { i with indexY := false, homeY := i.homeY && !up }

/-- The step of an axis of a MOVE or JOG (R79, R80). -/
def stepMotion (s : State) (ax : Axis) (m : Motion) : State :=
  let v := m.axis ax
  let s1 := (s.setTable ((s.table.setCounter ax (stepped v.up (s.table.counter ax))))).setInputs
    (s.inputs.afterStep ax v.up)
  testStand (setOp s1 (s.table.op.withMotion (m.setAxis ax (v.next (ratesOf s ax)))))

/-- The stop sequence of an axis, from the ramp index of the interval that runs, when its own profile does not already stop it in
time (R84). -/
def AxisMotion.brake (rs : List Nat) : AxisMotion → AxisMotion
  | .profile up n k left =>
    let j := rampIndex rs n k
    if n - k + 1 ≤ j + 1 then .profile up n k left else .stopping up n (n - k + 1) j left
  | v => v

/-- A motion in STEPPING stopped along its ramp (R84, R86; log 34). -/
def Motion.brake (s : State) (m : Motion) : Motion :=
  let x := m.x.brake (ratesOf s .x)
  let y := m.y.brake (ratesOf s .y)
  { m with x := x, y := y, state := if x.isStopping || y.isStopping then .decelerating else m.state }

/-- The guard opens during a motion (R84). -/
def guardTable (s : State) : State :=
  match s.table.op.motion with
  | some m => if m.state = .stepping then setOp s (s.table.op.withMotion (m.brake s)) else s
  | none => s

/-- The operation in progress ends in a halt (R86, R88, R91, R93); `slip` for TABLE_SLIP. -/
def haltTable (s : State) (slip : Bool) : State :=
  if slip then endMotion s .slipped
  else
    match s.table.op.motion with
    | some m =>
      match m.state with
      | .stepping => setOp s (s.table.op.withMotion { m.brake s with ending := true })
      | .decelerating => setOp s (s.table.op.withMotion { m with ending := true })
      | .waiting | .held | .settling => endMotion s .stopped
    | none => endMotion s .stopped

/-! ### Actuators (R71, R106, R107) -/

/-- The last settled pose with an actuator's value replaced (R71). -/
def LastPose.setValue (l : LastPose) (a : Actuator) (v : Nat) : LastPose :=
  match a with
  | .bearing => { l with bearing := bearingOf v }
  | .headSpan => { l with headSpan := v }
  | .clinchSpan => { l with clinchSpan := v }
  | .clinchMode => { l with mode := (clinchModeOf v).getD l.mode }

/-- The record of an actuator replaced. -/
def setActuator (s : State) (a : Actuator) (r : ActRecord) : State := s.setStroke (s.stroke.setAct a r)

/-- The run state is HALTING or HALTED. -/
def halted (s : State) : Bool := s.jam.run == .halting || s.jam.run == .halted

/-- The last settled pose takes a value an actuator reported; in a halt only while the record is valid (R107). -/
def takeValue (s : State) (a : Actuator) (v : Nat) : State :=
  if s.pose.last.valid || !halted s then setLast s (s.pose.last.setValue a v) else s

/-- A setting that ended with the actuator in position (R107). -/
def settleActuator (s : State) (a : Actuator) (v : Nat) : State :=
  takeValue (setActuator s a { setting := none, timer := none, standsAt := some v }) a v

/-! ### HOME (R89 to R91) -/

/-- The record of an axis in HOME. -/
def HomeRun.axis (h : HomeRun) : Axis → HomeAxis
  | .x => h.x
  | .y => h.y

/-- The record of an axis in HOME replaced. -/
def HomeRun.setAxis (h : HomeRun) (ax : Axis) (v : HomeAxis) : HomeRun :=
  match ax with
  | .x => { h with x := v }
  | .y => { h with y := v }

/-- An actuator has reported in position at its reference value. -/
def HomeRun.done (h : HomeRun) : Actuator → Bool
  | .bearing => h.bearingDone
  | .headSpan => h.headSpanDone
  | .clinchSpan => h.clinchSpanDone
  | .clinchMode => h.clinchModeDone

/-- An actuator's report counted (R89). -/
def HomeRun.setDone (h : HomeRun) (a : Actuator) (b : Bool) : HomeRun :=
  match a with
  | .bearing => { h with bearingDone := b }
  | .headSpan => { h with headSpanDone := b }
  | .clinchSpan => { h with clinchSpanDone := b }
  | .clinchMode => { h with clinchModeDone := b }

/-- A HOME as it is taken, before its motion begins (R89). -/
def HomeRun.waiting (limit : Nat) : HomeRun :=
  { begun := false, x := { phase := .approach, interval := none }, y := { phase := .approach, interval := none },
    limit := some limit, bearingDone := false, headSpanDone := false, clinchSpanDone := false, clinchModeDone := false }

/-- The interval of a HOME axis that goes on stepping: r_0, or none while the guard is open (R90). -/
def homeInterval (s : State) (ax : Axis) : Timer :=
  if s.inputs.guardOpen then none else some (intervalAt (ratesOf s ax) 0)

/-- An axis's home input level. -/
def Inputs.home (i : Inputs) : Axis → Bool
  | .x => i.homeX
  | .y => i.homeY

/-- An axis's index input level. -/
def Inputs.index (i : Inputs) : Axis → Bool
  | .x => i.indexX
  | .y => i.indexY

/-- The record of an axis in the HOME in progress replaced. -/
def setHomeAxis (s : State) (ax : Axis) (v : HomeAxis) : State :=
  match s.table.op with
  | .home h => setOp s (.home (h.setAxis ax v))
  | _ => s

/-- An axis at its home switch: the counter becomes 0 and the search begins, or ends at once with phase 0 (R90). -/
def homeZero (s : State) (ax : Axis) : State :=
  let s1 := s.setTable (s.table.setCounter ax 0)
  if s.inputs.index ax then
    setHomeAxis (s1.setTable (s1.table.setPhase ax 0)) ax { phase := .ended, interval := none }
  else setHomeAxis (s1.setTable (s1.table.setDir ax true)) ax { phase := .search, interval := homeInterval s ax }

/-- An axis begins its approach, or its search when the home input is already active (R90). -/
def homeApproach (s : State) (ax : Axis) : State :=
  if s.inputs.home ax then homeZero s ax
  else setHomeAxis (s.setTable (s.table.setDir ax false)) ax { phase := .approach, interval := homeInterval s ax }

/-- An actuator's report counted toward the HOME in progress (R89). -/
def markHome (s : State) (a : Actuator) : State :=
  match s.table.op with
  | .home h => setOp s (.home (h.setDone a true))
  | _ => s

/-- HOME commands an actuator to its reference value 0 (E, index 0, INWARD); one that already stands there reports at
that moment (R89). -/
def homeActuator (s : State) (a : Actuator) : State :=
  if (s.stroke.act a).standsAt = some 0 then markHome (settleActuator s a 0) a
  else setActuator s a { setting := some 0, timer := none, standsAt := none }

/-- The phases of HOME have ended on both axes and every actuator has reported (R91). -/
def HomeRun.finished (h : HomeRun) : Bool :=
  h.begun && h.x.phase == .ended && h.y.phase == .ended && actuators.all h.done

/-- The last settled pose at the end of HOME (R72, R91). -/
def homePose (t : Table) : LastPose :=
  { x := t.phaseX.getD 0, y := t.phaseY.getD 0, bearing := .east, headSpan := 0, clinchSpan := 0, mode := .inward,
    valid := true }

/-- HOME completes when it is finished (R91); in IDLE the run state becomes READY (R164). -/
def testHome (s : State) : State :=
  match s.table.op with
  | .home h =>
    if h.finished then
      let s1 := s.setTable { s.table with op := .none, homeValid := true }
      let s2 := setLast s1 (homePose s.table)
      let s3 := report s2 (.homeDone s.table.phaseX s.table.phaseY)
      if s.jam.run = .idle then s3.setJam { s.jam with run := .ready } else s3
    else s
  | _ => s

/-- The motion of HOME begins with the guard closed: both axes and the four actuators (R89, R90; log 28). -/
def beginHome (s : State) : State :=
  match s.table.op with
  | .home h =>
    let s1 := homeApproach (homeApproach (setOp s (.home { h with begun := true })) .x) .y
    testHome (actuators.foldl homeActuator s1)
  | _ => s

/-- An axis that the guard stopped goes on when it closes (R90). -/
def HomeAxis.resume (r0 : Nat) (v : HomeAxis) : HomeAxis :=
  match v.phase with
  | .approach | .search => { v with interval := some (v.interval.getD r0) }
  | .atTravel | .ended => v

/-- The guard closes during HOME (R89, R90). -/
def resumeHome (s : State) (h : HomeRun) : State :=
  if h.begun then
    setOp s (.home { h with x := h.x.resume (intervalAt (ratesOf s .x) 0), y := h.y.resume (intervalAt (ratesOf s .y) 0) })
  else beginHome s

/-- The step of an axis in HOME: not counted in the approach; in the search it stops at the travel (R90). -/
def stepHome (s : State) (ax : Axis) (h : HomeRun) : State :=
  let n := s.table.counter ax + 1
  match (h.axis ax).phase with
  | .approach =>
    setHomeAxis (s.setInputs (s.inputs.afterStep ax false)) ax { phase := .approach, interval := homeInterval s ax }
  | .search =>
    let s1 := (s.setTable (s.table.setCounter ax n)).setInputs (s.inputs.afterStep ax true)
    setHomeAxis s1 ax
      (if travel s ax ≤ n then { phase := .atTravel, interval := none }
       else { phase := .search, interval := homeInterval s ax })
  | .atTravel | .ended => s

/-! ### The guard closes (R84, R85) -/

/-- The guard closes: a HELD motion resumes, a waiting JOG or HOME begins, and a waiting MOVE is given up so that the
table is aimed afresh (R84, R85). -/
def resumeTable (s : State) : State :=
  match s.table.op with
  | .none => s
  | .home h => resumeHome s h
  | .move _ m =>
    match m.state with
    | .waiting => setOp s .none
    | .held => runFresh s
    | _ => s
  | .jog _ _ m =>
    match m.state with
    | .waiting | .held => testStand (runFresh s)
    | _ => s

/-! ### The index check (R87) -/

/-- The distance between a counter mod 1024 and a phase on the circle (R87). -/
def phaseDistance (counter phase : Nat) : Nat :=
  let d := distance (counter % 1024) phase
  min d (1024 - d)

/-- The check is made on an axis: its phase present, the home valid, and not the axis of a JOG without the check option
(R87, R93). -/
def indexChecked (s : State) (ax : Axis) : Bool :=
  s.table.homeValid && (s.table.phase ax).isSome &&
  (match s.table.op with
   | .jog a check _ => check || a != ax
   | _ => true)

/-- An index mark on an axis fails its check (R87). -/
def indexFails (s : State) (ax : Axis) : Bool :=
  indexChecked s ax && decide (2 < phaseDistance (s.table.counter ax) ((s.table.phase ax).getD 0))

/-- An index mark in the search phase of HOME ends the axis's search (R90; log 15). -/
def homeIndex (s : State) (ax : Axis) : State :=
  match s.table.op with
  | .home h =>
    match (h.axis ax).phase with
    | .search | .atTravel =>
      testHome (setHomeAxis (s.setTable (s.table.setPhase ax (s.table.counter ax % 1024))) ax
        { phase := .ended, interval := none })
    | .approach | .ended => s
  | _ => s

end Sys2Proof.Machine
end

