-- ==== Sys2Proof/Machine/Stroke.lean ====
section
/-! DEFINITION. The stroke controller and the halt: starting a revolution (R98 to R101), holds (R104, R108, R113), the
work at TRANSFER (R40, R102), the lead sense (R103), and what a STOP alarm does (R115, R169). -/

namespace Sys2Proof.Machine

/-! ### Shaft -/

/-- The state with another revolution record. -/
def setRev (s : State) (r : Option Revolution) : State := s.setStroke { s.stroke with rev := r }

/-- The mark timeout started afresh (R97). -/
def restartMarks (s : State) : State := s.setStroke { s.stroke with markTimer := supervise (cfg s).markTimeout }

/-- The mark is the one the revolution in progress expects next (R97). -/
def expects (s : State) (m : Mark) : Bool :=
  s.stroke.shaft == .turning &&
  (match s.stroke.rev with
   | some r => if m = .rest then r.last.num == 8 else m.num == r.last.num + 1
   | none => false)

/-- A restoring turn takes the mark: the first one delivered, then each next in order, and any REST (R101; log 32). -/
def restoreTakes (s : State) (m : Mark) : Bool :=
  s.stroke.shaft == .restoring && !s.stroke.restoreHeld &&
  (match s.stroke.restoreLast with
   | none => true
   | some l => m == .rest || m.num == l.num + 1)

/-- A mark taken in a revolution: it is the last mark taken, and the mark timeout starts again (R97). -/
def takeMark (s : State) (r : Revolution) (m : Mark) : State :=
  s.setStroke { s.stroke with rev := some { r with last := m }, markTimer := supervise (cfg s).markTimeout }

/-- A mark taken in a restoring turn begins no work (R101). -/
def restoreMark (s : State) (m : Mark) : State :=
  s.setStroke { s.stroke with restoreLast := some m, markTimer := supervise (cfg s).markTimeout }

/-- The hold mark is set as a hold of the revolution begins (R75, R100). -/
def setHold (s : State) : State := s.setPose { s.pose with holdMark := true }

/-- The shaft is stopped at GATE by the brake: a gate hold or a guard hold (R108, R109, R113). -/
def holdAtGate (s : State) : State :=
  (setHold s).setStroke { s.stroke with
    shaft := .gateHeld, markTimer := none
    gateTimer := if s.inputs.guardOpen then none else supervise (cfg s).gateLimit }

/-- The shaft leaves GATE: TURNING, the left-GATE flag set, the mark timeout afresh (R108, R114). -/
def leaveGate (s : State) : State :=
  s.setStroke { s.stroke with
    shaft := .turning, rev := s.stroke.rev.map fun r => { r with leftGate := true }
    markTimer := supervise (cfg s).markTimeout, gateTimer := none }

/-- The revolution in progress still descends. -/
def descending (s : State) : Bool := match s.stroke.rev with | some r => r.descending | none => false

/-- A shaft held at GATE may be released: the guard is closed, and the pose is settled for the item or the revolution
does not descend (R108, R114, R115, R116). -/
def mayLeaveGate (s : State) : Bool := !s.inputs.guardOpen && (!descending s || gateTest s)

/-! ### Starting (R98, R99, R101) -/

/-- The run state admits a revolution: RUNNING, or STOPPING toward the board's end (R98). -/
def runsShaft (s : State) : Bool := s.jam.run == .running || stoppingAtBoardEnd s

/-- The conditions of R98 for an AT_REST shaft. -/
def mayStart (s : State) : Bool :=
  s.stroke.shaft == .atRest && runsShaft s && !s.inputs.guardOpen && !transferring s &&
  ((currentSlot s).isNone || clamped s) && s.stroke.chainStep != .started &&
  (s.chain.purgeRequired || boardUnfinished s)

/-- What stands at position 0 for an INSERT: a VERIFIED clip of the CURRENT board (R99). -/
def insertClip (s : State) : Option (ClipItem × Bool) :=
  match clipAt s 0 with
  | .verified i flip => if currentSlot s = some i.board then some (i, flip) else none
  | _ => none

/-- The kind of the next revolution before the MADE_UP check; none when the start test fails (R99). -/
def chooseKind (s : State) : Option RevKind :=
  if s.chain.purgeRequired then some .purge
  else
    match insertClip s with
    | some (i, flip) => if startTest s i flip then some .insert else none
    | none => some .index

/-- The CURRENT context holds a passport entry for a key MADE_UP by another station (R99). -/
def madeUpElsewhere (s : State) (k : ItemKey) : Bool :=
  match (currentCtx s).bind (·.entryState k) with
  | some (.madeUp n) => n != (cfg s).station
  | _ => false

/-- The clutch engages on a revolution of a kind (R98, R99, R100). -/
def startRevolution (s : State) (kind : RevKind) : State :=
  let s1 := s.setPose { s.pose with holdMark := false }
  s1.setStroke { s.stroke with
    shaft := .turning
    rev := some { kind := kind, descending := kind == .insert, leftGate := false, last := .rest, lead := .notExpected,
                  clinch := .notExpected, elapsed := 0 }
    revCount := capAt 4294967295 (s.stroke.revCount + 1)
    markTimer := supervise (cfg s).markTimeout }

/-- An adopted entry of the CURRENT context whose item was cancelled by the MADE_UP check (R99, R122; log 22). -/
def dropCancelled (s : State) (slot : Nat) (k : ItemKey) (o : Origin) : State :=
  match o with
  | .adopted => modCtx s slot fun c =>
      (c.modAdopted k fun a => if a.state = .pending ∨ a.state = .inChain then { a with state := .dropped } else a).offRetry k
  | .own => s

/-- A revolution starts if R98 allows it and R99 gives it a kind. -/
def tryStart (s : State) : State :=
  if mayStart s then
    match chooseKind s with
    | none => s
    | some .insert =>
      match insertClip s with
      | some (i, _) =>
        if madeUpElsewhere s i.key then
          startRevolution (cancelKeys (dropCancelled s i.board i.key i.origin) [i.key]) .index
        else startRevolution s .insert
      | none => startRevolution s .insert
    | some k => startRevolution s k
  else s

/-- A restoring turn may begin (R101). -/
def mayRestore (s : State) : Bool :=
  s.stroke.shaft == .stopped && runsShaft s && !s.inputs.guardOpen && !transferring s && s.stroke.chainStep != .started

/-- A restoring turn begins (R101). -/
def startRestoring (s : State) : State :=
  s.setStroke { s.stroke with
    shaft := .restoring, restoreLast := none, restoreHeld := false, markTimer := supervise (cfg s).markTimeout }

/-! ### TRANSFER and lead sense (R40, R102, R103) -/

/-- The jaws take a component as waste and its ejection counts for the board its clip references (R40, R102). -/
def takeWaste (s : State) (r : Revolution) (board : Option Nat) : State :=
  countEjected
    (s.setStroke { s.stroke with
      jaw := .waste none, jawOut := true, rev := some { r with lead := .awaited, descending := false } }) board

/-- The clip record at position 0 dealt with in an INDEX revolution, or in an INSERT whose item was cancelled (R40,
R102; log 31). An UNKNOWN clip, which R40 and R102 give a PURGE alone, is taken as waste and keeps its record (log 58). -/
def transferIndex (s : State) (r : Revolution) : State :=
  match clipAt s 0 with
  | .empty => s.setStroke { s.stroke with jaw := .empty, rev := some { r with lead := .notExpected, descending := false } }
  | .planned i | .loaded i | .verified i _ =>
    handReturned (takeWaste (setClip s 0 .empty) r (some i.board)) i.board i.key i.origin
  | .rejected _ board _ _ => takeWaste (setClip s 0 .empty) r board
  | .surplus _ board _ _ => takeWaste (setClip s 0 .empty) r board
  | .unknown => takeWaste s r none

/-- The TRANSFER mark's work, by the kind of the revolution (R40, R102). An INSERT whose descent a halt has withdrawn before
TRANSFER does the work of an INDEX (R115; log 31). -/
def transferWork (s : State) (r : Revolution) : State :=
  match r.kind with
  | .purge => s.setStroke { s.stroke with jaw := .waste none, jawOut := true }
  | .index => transferIndex s r
  | .insert =>
    match insertClip s with
    | some (i, flip) =>
      if r.descending then
        (setClip s 0 .empty).setStroke { s.stroke with
          jaw := .item i.key (some i.board) i.pose flip i.origin, jawOut := true, rev := some { r with lead := .awaited } }
      else transferIndex s r
    | none => transferIndex s r

/-- The item in the jaws becomes waste that keeps its board reference, and the revolution does not descend (R103, R115). -/
def wasteJaw (s : State) : State :=
  s.setStroke { s.stroke with
    rev := s.stroke.rev.map fun r => { r with descending := false }
    jaw := match s.stroke.jaw with
      | .item _ board _ _ _ => .waste board
      | j => j }

/-- The lead-sense state of the revolution in progress replaced. -/
def setLead (s : State) (l : LeadState) : State := setRev s (s.stroke.rev.map fun r => { r with lead := l })

/-- A lead sense still awaited at ADVANCE is a miss (R103). HEAD_JAM is the caller's. -/
def missLead (s : State) : State :=
  let s1 := enterAlarm (setLead s .missed) .transferMiss .none
  let s2 := s1.setStroke { s1.stroke with missCount := s.stroke.missCount + 1 }
  match s.stroke.jaw with
  | .item k (some slot) _ _ o => handCounted (wasteJaw s2) slot k o
  | .item _ none _ _ _ => wasteJaw s2
  | _ => s2

/-- The chain step of the ADVANCE mark (R104). -/
def startChainStep (s : State) : State :=
  s.setStroke { s.stroke with chainStep := .started, chainTimer := supervise (cfg s).chainTimer, chainDriveOut := true }

/-! ### The halt of a revolution (R115, R169) -/

/-- STROKE_STALL, CHAIN_STALL and HEAD_JAM brake the shaft at once (R115). -/
def AlarmClass.atOnce : AlarmClass → Bool
  | .strokeStall | .chainStall | .headJam => true
  | _ => false

/-- The jaw record's item handed back as returned, the jaw record becoming waste (R115). -/
def returnJaw (s : State) : State :=
  match s.stroke.jaw with
  | .item k (some slot) _ _ o => handReturned (wasteJaw s) slot k o
  | .item _ none _ _ _ => wasteJaw s
  | _ => s

/-- The jaw record at a brake applied at once (R115). -/
def jawAtBrake (s : State) (r : Revolution) : State :=
  match s.stroke.jaw with
  | .item _ board _ _ _ =>
    if r.last.num < 6 then returnJaw s
    else
      let s1 := s.setStroke { s.stroke with jaw := .empty }
      if r.clinch = .confirmed then s1 else countSuspect s1 board
  | _ => s

/-- The jaw record and the descending flag of a revolution that completes to REST under a halt: a descent not yet begun is
withdrawn, before TRANSFER too, when the jaws hold no item yet (R110, R115, R169). -/
def jawAtHalt (s : State) (r : Revolution) (slip : Bool) : State :=
  if r.last.num < 6 && (!r.leftGate || slip) then
    match s.stroke.jaw with
    | .item _ _ _ _ _ => returnJaw s
    | .empty | .waste _ => setRev s (some { r with descending := false })
  else s

/-- The brake applied at once: the shaft STOPPED, the revolution record removed, the descent and clinch outputs idle
(R115; log 30). -/
def brakeShaft (s : State) : State :=
  s.setStroke { s.stroke with
    shaft := .stopped, rev := none, restoreLast := none, restoreHeld := false, markTimer := none, gateTimer := none,
    descentOut := false, clinchOut := false }

/-- The revolution or restoring turn in progress under a STOP alarm of a class (R101, R115). -/
def haltShaft (s : State) (c : AlarmClass) : State :=
  if s.stroke.shaft = .restoring then brakeShaft s
  else
    match s.stroke.rev with
    | none => s
    | some r =>
      if c.atOnce then
        let s1 := brakeShaft (jawAtBrake s r)
        if c = .chainStall then s1 else abandonDrops s1
      else jawAtHalt s r (c == .tableSlip)

/-- The run state under a STOP alarm (R169). -/
def haltRun (s : State) : State :=
  match s.jam.run with
  | .idle | .ready | .running | .stopping => s.setJam { s.jam with run := .halting, qualifier := none }
  | .unconfigured | .halting | .halted => s

/-- TABLE_SLIP and ACTUATOR_FAULT make the home and the last settled pose invalid, and an actuator's fault withdraws its
command (R72, R88, R107). -/
def invalidate (s : State) (c : AlarmClass) (src : AlarmSource) : State :=
  if c = .tableSlip ∨ c = .actuatorFault then
    let s1 := setLast (s.setTable { s.table with homeValid := false }) { s.pose.last with valid := false }
    match src with
    | .actuator a => setActuator s1 a { setting := none, timer := none, standsAt := none }
    | _ => s1
  else s

/-- A STOP alarm: the list, the run state, and each block's part of the halt (R86, R115, R169; the order: log 24). At CHAIN_STALL
the chain step record becomes NONE and the chain drive is released (R104; log 52). -/
def stopAlarm (s : State) (c : AlarmClass) (src : AlarmSource) : State :=
  let s1 := invalidate (haltRun (enterAlarm s c src)) c src
  let s2 := haltShaft (haltTable s1 (c == .tableSlip)) c
  if c = .chainStall then
    stallChain (s2.setStroke { s2.stroke with chainStep := .none, chainTimer := none, chainDriveOut := false })
  else s2

end Sys2Proof.Machine
end

