-- ==== Sys2Proof/Machine/Finish.lean ====
section
/-! DEFINITION. What follows at the end of a command, in a fixed order (log 5): the finished board (R134), where the table
and the actuators aim (R82, R106) with the positioning record (R73, R74), the release at GATE (R108), the completion of
STOPPING and HALTING (R167, R168, R170), the index hold line (R125) and STATUS (R151). -/

namespace Sys2Proof.Machine

/-! ### Aiming (R82, R106) -/

/-- The table drive aims the table (R82). -/
def aims (s : State) : Bool :=
  producing s && s.table.homeValid && (currentSlot s).isSome && clamped s && !transferring s

/-- The clip aimed at: while the head is free, the live clip of the CURRENT board with the lowest position (R82). -/
def aimedClip (s : State) : Option (Nat × ClipItem) :=
  if aims s && !headBusy s then (currentSlot s).bind (lowestLive s) else none

/-- The positioning record is removed when its clip leaves the live states or ceases to be aimed at (R74). A record whose
countdown ran out short is kept until then, when the pose has settled too (log 49). -/
def dropStale (s : State) : State :=
  match s.pose.positioning with
  | some r =>
    match r.clip with
    | some k => if (aimedClip s).map (·.2.key) = some k then s else setPositioning s none
    | none => s
  | none => s

/-- A move toward another clip's target is in progress: no positioning begins (R73). -/
def movingElsewhere (s : State) (k : ItemKey) : Bool :=
  match s.table.op with
  | .move k' _ => k' != k
  | _ => false

/-- A positioning begins for a clip when no record is held (R73); `atUp` when it begins at an UP mark (R74). -/
def beginPositioning (s : State) (atUp : Bool) (pos : Nat) (i : ClipItem) : State :=
  match s.pose.positioning with
  | some _ => s
  | none =>
    let t := predict s i.pose (clipAt s pos).verifiedFlip
    setPositioning s (some { clip := some i.key, pose := some i.pose, tx := i.pose.tx, ty := i.pose.ty, tp := t, r := t, atUp := atUp })

/-- A move that the guard keeps from starting (R84). -/
def waitingMotion (p : Pose) : Motion :=
  { tx := p.tx, ty := p.ty, state := .waiting, x := .done false 0 0, y := .done false 0 0, settle := none, ending := false }

/-- The table compared with the clip aimed at: a move starts, or waits for the guard (R82, R84). -/
def aimTable (atUp : Bool) (s : State) : State :=
  match aimedClip s with
  | none => s
  | some (pos, i) =>
    if tableBusy s || (s.table.x == i.pose.tx && s.table.y == i.pose.ty) then s
    else if s.inputs.guardOpen then setOp s (.move i.key (waitingMotion i.pose))
    else
      let m := freshMotion s i.pose.tx i.pose.ty
      let s1 := beginPositioning s atUp pos i
      s1.setTable (m.direct { s1.table with op := .move i.key m })

/-- The value wanted of an actuator for a clip: the bearing once the clip is VERIFIED, the others once it is live (R106). -/
def wantedValue (p : Pose) (verified : Option Bool) (a : Actuator) : Option Nat :=
  match a, verified with
  | .bearing, none => none
  | .bearing, some flip => some (poseValue p flip .bearing)
  | .headSpan, _ => some p.span
  | .clinchSpan, _ => some p.span
  | .clinchMode, _ => some p.mode.code

/-- The countdown after an actuator is commanded for the record's clip (R74, event 2). -/
def raiseCountdown (s : State) (k : ItemKey) (t : Nat) : State :=
  match s.pose.positioning with
  | some r =>
    if r.clip = some k then setPositioning s (some { r with r := max r.r (satAdd t (ms (cfg s).settle)) }) else s
  | none => s

/-- An actuator commanded to a value, with its timer (R106, R107). -/
def commandActuator (s : State) (a : Actuator) (v : Nat) : State :=
  setActuator s a { setting := some v, timer := some (ms (cfg s).actuatorTimer), standsAt := none }

/-- An actuator that is wanted at a value is commanded: it is IDLE, and the last settled pose differs or is invalid (R72,
R106). -/
def needsCommand (s : State) (a : Actuator) (v : Nat) : Bool :=
  !((s.stroke.act a).setting.isSome || (s.pose.last.valid && s.pose.last.value a == v))

/-- An actuator compared with the clip aimed at, and commanded when it is IDLE at another value (R106). -/
def aimActuator (atUp : Bool) (pos : Nat) (i : ClipItem) (s : State) (a : Actuator) : State :=
  let verified := (clipAt s pos).verifiedFlip
  match wantedValue i.pose verified a with
  | none => s
  | some v =>
    if needsCommand s a v then
      let held := s.pose.positioning.isSome
      let t := actuatorTime s i.pose (verified.getD false) a
      let s1 := if held then raiseCountdown s i.key t
                else if movingElsewhere s i.key then s
                else beginPositioning s atUp pos i
      commandActuator s1 a v
    else s

/-- The actuators that would be commanded for the clip aimed at (R106). -/
def wantedCommands (s : State) : List Actuator :=
  match aimedClip s with
  | none => []
  | some (pos, i) => actuators.filter fun a =>
      ((wantedValue i.pose (clipAt s pos).verifiedFlip a).map (needsCommand s a)).getD false

/-- The commands that the open guard keeps back are noted; while the head is busy none would be made, and those noted before
TRANSFER stay (R106, R114). -/
def keepBack (s : State) : State :=
  if headBusy s then s else s.setStroke { s.stroke with keptBack := wantedCommands s }

/-- The actuators compared with the clip aimed at: commanded, or their commands kept back by the open guard (R106). -/
def aimActuators (atUp : Bool) (s : State) : State :=
  if s.inputs.guardOpen then keepBack s
  else
    match aimedClip s with
    | none => s
    | some (pos, i) => actuators.foldl (aimActuator atUp pos i) s

/-- The pose is settled at the clip aimed at, or for a clip not yet VERIFIED the table at its target and every actuator in
position (R74, event 3). -/
def poseReached (s : State) (pos : Nat) (i : ClipItem) : Bool :=
  match (clipAt s pos).verifiedFlip with
  | some flip => settledAt s i.pose flip
  | none => tableSettled s && s.table.x == i.pose.tx && s.table.y == i.pose.ty && !s.stroke.anySetting

/-- The record's clip, and whether it is VERIFIED, while the pose is reached at it (R74, event 3). -/
def reachedClip (s : State) : Option (ItemKey × Bool) :=
  match s.pose.positioning, aimedClip s with
  | some r, some (pos, i) =>
    if r.clip = some i.key ∧ poseReached s pos i then some (i.key, (clipAt s pos).verifiedFlip.isSome) else none
  | _, _ => none

/-- The countdown becomes 0 at the moment the pose becomes reached: it is reached now and was not before the command (R74,
event 3). -/
def zeroCountdown (before s : State) : State :=
  match s.pose.positioning with
  | some r =>
    if (reachedClip s).isSome ∧ reachedClip s ≠ reachedClip before then setPositioning s (some { r with r := 0 }) else s
  | none => s

/-- The table and the actuators aim, and the positioning record follows (R73, R74, R82, R106). -/
def aim (atUp : Bool) (before s : State) : State :=
  zeroCountdown before (aimActuators atUp (aimTable atUp (dropStale s)))

/-! ### Release, completion, hold and STATUS -/

/-- A hold at GATE ends when it may (R108, R114 to R116). -/
def releaseGate (s : State) : State :=
  if s.stroke.shaft = .gateHeld ∧ mayLeaveGate s then leaveGate s else s

/-- Nothing that a stop waits for is in progress: no revolution, no table move, no transfer (R167). -/
def atStandstill (s : State) : Bool := !revInProgress s && !tableBusy s && !transferring s

/-- The state with another run state and no qualifier. -/
def setRun (s : State) (r : RunState) : State := s.setJam { s.jam with run := r, qualifier := none }

/-- STOPPING completes (R167, R168), and HALTING (R170). -/
def completeRun (s : State) : State :=
  match s.jam.run, s.jam.qualifier with
  | .stopping, some .atRest => if atStandstill s then setRun s .ready else s
  | .stopping, some .atBoardEnd => if atStandstill s && (currentSlot s).isNone then setRun s .ready else s
  | .halting, _ => if !revInProgress s && !tableBusy s then setRun s .halted else s
  | _, _ => s

/-- The part pulls or releases the index hold line by the conditions of R125. While it pulls, the line is not released
and no qualification runs (log 26). -/
def updatePull (s : State) : State :=
  let pull := (holdConditions s).any
  (s.setBoards { s.boards with pulled := pull, qualify := if pull then none else s.boards.qualify }).setInputs
    { s.inputs with lineReleased := s.inputs.lineReleased && !pull }

/-- Condition 5 alone keeps the line pulled (R125). -/
def fiveAlone (s : State) : Bool := (holdConditions s).c5 && !(holdConditions s).others

/-- DOWNSTREAM_ABSENT as condition 5 comes to keep the line pulled alone (R125). -/
def watchDownstream (s : State) : State :=
  let s1 := s.setBoards { s.boards with fiveAlone := fiveAlone s }
  if fiveAlone s && !s.boards.fiveAlone then enterAlarm s1 .downstreamAbsent .none else s1

/-- The index hold line (R125). -/
def updateHold (s : State) : State := watchDownstream (updatePull s)

/-- STATUS when the run state, the current serial or the holding flag differs from before (R151). -/
def statusOnChange (before s : State) : State :=
  if before.jam.run = s.jam.run ∧ currentSerial before = currentSerial s ∧ before.boards.pulled = s.boards.pulled then s
  else queueStatus s

/-- The end of a command: `before` is the state before it, `s` the state after its own work (log 5). -/
def finish (atUp : Bool) (before s : State) : State :=
  statusOnChange before (updateHold (dropStale (completeRun (releaseGate (aim atUp before (testFinished s))))))

end Sys2Proof.Machine
end

