-- ==== Sys2Proof/Machine/Request.lean ====
section
/-! DEFINITION. The console port's taking of a request: the frame checks, the UNCONFIGURED gate and the response
(R182 to R185); and the snapshots that the read requests return (R25, R94, R180, R188). -/

namespace Sys2Proof.Machine

/-! ### Requests and responses -/

/-- What an owning rule makes of a request: a refusal changes nothing, an answer gives the state it leaves (R183, R184). -/
inductive Verdict where
  | refuse (rc : ResultCode)
  | answer (rc : ResultCode) (body : Body) (s : State)

/-- DONE with an empty body. -/
def Verdict.done (s : State) : Verdict := .answer .done .empty s

/-- STARTED with an empty body. -/
def Verdict.started (s : State) : Verdict := .answer .started .empty s

/-- The response buffer replaced, with the next response number (R183). -/
def respond (s : State) (rc : ResultCode) (code : Byte) (body : Body) : State :=
  s.setConsole { s.console with
    response := { result := rc, code := code, number := (s.console.response.number + 1) % 256, body := body } }

/-- The verdict carried out on a request. -/
def Verdict.conclude (s : State) (code : Byte) : Verdict → State
  | .refuse rc => respond s rc code .empty
  | .answer rc body t => respond t rc code body

/-- A request with a fixed body length: malformed frames are answered REFUSED_RANGE (R183); before SETUP the requests
that are not `always` taken are answered REFUSED_STATE (R185; log 6). -/
def request (s : State) (code : Byte) (len : Nat) (always : Bool) (bytes : List Byte) (judge : List Byte → Verdict) :
    State :=
  match requestBody len bytes with
  | none => respond s .refusedRange code .empty
  | some body =>
    if !always && s.jam.run == .unconfigured then respond s .refusedState code .empty
    else (judge body).conclude s code

/-! ### Snapshots -/

/-- What READ_DISPENSER returns of a dispenser (R25). -/
def dispenserReply (s : State) (d : Nat) : DispenserReply :=
  let r := dispAt s d
  let g := groupAt s (d / 4)
  { position := r.position, state := r.state, part := r.part, quantity := r.quantity, faults := r.faults,
    totalDrops := r.totalDrops, tapeEnd := r.tapeEnd, dropOutstanding := r.outstanding.isSome, available := available s d,
    groupFaults := g.faults, groupQuarantined := g.quarantined }

/-- The name of the operation. -/
def Operation.name : Operation → OpName
  | .none => .none
  | .move _ _ => .move
  | .home _ => .home
  | .jog _ _ _ => .jog

/-- The move state of a MOVE (R94). -/
def Operation.moveState : Operation → Option MoveState
  | .move _ m => some m.state
  | _ => Option.none

/-- Some axis issues steps (R94). -/
def tableMoving (s : State) : Bool :=
  match s.table.op with
  | .none => false
  | .home h => h.x.interval.isSome || h.y.interval.isSome
  | .move _ m | .jog _ _ m => m.state == .stepping || m.state == .decelerating

/-- What READ_POSITION returns (R94). -/
def positionReply (s : State) : PositionReply :=
  { x := s.table.x, y := s.table.y, moving := tableMoving s, settled := tableSettled s, homeValid := s.table.homeValid,
    phaseX := s.table.phaseX, phaseY := s.table.phaseY, op := s.table.op.name, moveState := s.table.op.moveState }

/-- What READ_ALARMS returns (R180). -/
def alarmsReply (s : State) : AlarmsReply :=
  { run := s.jam.run, qualifier := s.jam.qualifier, listOverflow := s.jam.listOverflow,
    unrecordedHalt := s.jam.unrecordedHalt, purgeRequired := s.chain.purgeRequired, purgeCount := s.jam.purgeCount,
    guardHold := s.inputs.guardOpen, lamp := lampLit s, horn := hornSounds s, alarms := s.jam.alarms }

/-- A bank in READ_STATUS (R2). -/
def bankStatus (s : State) (b : BankId) : BankStatus :=
  let v := s.store.bank b
  { state := v.state, programId := v.programId, declared := v.declared, committed := v.steps.length, inUse := inUse s b,
    abortCause := v.abortCause }

/-- A clip counted into the count of its state (R32). -/
def ClipCounts.add (n : ClipCounts) : Clip → ClipCounts
  | .empty => { n with empty := n.empty + 1 }
  | .planned _ => { n with planned := n.planned + 1 }
  | .loaded _ => { n with loaded := n.loaded + 1 }
  | .verified _ _ => { n with verified := n.verified + 1 }
  | .rejected _ _ _ _ => { n with rejected := n.rejected + 1 }
  | .surplus _ _ _ _ => { n with surplus := n.surplus + 1 }
  | .unknown => { n with unknown := n.unknown + 1 }

/-- The number of clip records in each state (R32). -/
def clipCounts (clips : List Clip) : ClipCounts :=
  clips.foldl ClipCounts.add
    { empty := 0, planned := 0, loaded := 0, verified := 0, rejected := 0, surplus := 0, unknown := 0 }

/-- A context slot in READ_STATUS (R119). -/
def Context.status (c : Context) : SlotStatus :=
  { serial := c.serial, state := c.state, position := c.position, entered := c.entered, planClosed := c.planClosed,
    noProgram := c.noProgram, finished := c.finished, flags := c.flags, pairing := c.pairing }

/-- The retry counts of a context in READ_STATUS (R54, R55; log 46). -/
def Context.retryStatus (c : Context) : RetryStatus :=
  { listed := c.retry.length, own := c.own.map (·.retries), adopted := c.adopted.map fun a => (a.item.key, a.retries) }

/-- An actuator record in READ_STATUS (R96). -/
def ActRecord.status (r : ActRecord) : ActStatus := { setting := r.setting, timer := r.timer }

/-- The key of the item in the jaws (R96). -/
def Jaw.key : Jaw → Option ItemKey
  | .item k _ _ _ _ => some k
  | _ => none

/-- What READ_STATUS returns (R188). -/
def statusReply (s : State) : StatusReply :=
  { setupDone := setupDone s
    station := s.console.setup.map fun c => (c.station, c.role)
    reportCount := s.console.reports.length
    reportOverflow := s.console.overflow
    nextReport := s.console.nextReport
    alertAsserted := alertAsserted s
    run := s.jam.run
    qualifier := s.jam.qualifier
    guardHold := s.inputs.guardOpen
    bank0 := bankStatus s .zero
    bank1 := bankStatus s .one
    openBlock := s.store.block.map fun b => (b.bank, b.steps.length)
    clips := clipCounts s.chain.clips
    purgeRequired := s.chain.purgeRequired
    purgeCount := s.jam.purgeCount
    pass := s.planner
    lastPose := s.pose.last
    cleanPeriod := s.console.setup.map fun _ => period s
    positioning := s.pose.positioning.map fun r => (r.tx, r.ty, r.tp, r.r)
    op := s.table.op.name
    moveState := s.table.op.moveState
    homeValid := s.table.homeValid
    shaft := s.stroke.shaft
    revolution := s.stroke.rev.map fun r => (r.kind, r.last)
    jawItem := s.stroke.jaw.key
    bearing := s.stroke.bearing.status
    headSpan := s.stroke.headSpan.status
    clinchSpan := s.stroke.clinchSpan.status
    clinchMode := s.stroke.clinchMode.status
    missCount := s.stroke.missCount
    revCount := s.stroke.revCount
    slots := s.boards.slots.map fun o => o.map Context.status
    load := s.boards.load
    passIn := s.boards.passIn.map fun b => (b.head.serial, b.held.length)
    passOutLeft := s.boards.passOut.length
    pulled := s.boards.pulled
    conditions := holdConditions s
    lineReleased := s.inputs.lineReleased
    urgentCount := s.line.urgent.length
    urgentFront := s.line.urgent.head?.map Frame.kind
    normalCount := s.line.normal.length
    normalFront := s.line.normal.head?.map Frame.kind
    roster := s.line.roster.map fun e => (e.present, e.last)
    rxErrors := s.line.rxErrors
    announceLoss := s.line.announceLoss
    sending := s.line.sending.isSome
    retries := s.boards.slots.map fun o => o.map Context.retryStatus }

end Sys2Proof.Machine
end

