-- ==== Sys2Proof/Machine/Console.lean ====
section
/-! DEFINITION. Meanings: PIN_RESET (R1 and the pin-reset column of every block), READ_TRANSACTION and UNKNOWN_REQUEST
(R183), SETUP (R186, R187), READ_STATUS (R188), READ_REPORTS (R190). -/

namespace Sys2Proof.Machine

/-! ### Pin reset -/

/-- The dispenser unit after pin reset; the tape-end levels follow their inputs (R19, R26; log 8). -/
def DispUnit.resetKeeping (u : DispUnit) : DispUnit :=
  { DispUnit.initial with records := u.records.map fun r => { Dispenser.initial with tapeEnd := r.tapeEnd } }

/-- The input levels after pin reset: they follow the pins; the part pulls the line and opens the clamp (log 9, 25). -/
def Inputs.resetKeeping (i : Inputs) : Inputs := { i with clampClosed := false, lineReleased := false }

/-- PIN_RESET: every block takes its pin-reset values (R1, R19, R20, R32, R36, R43, R62, R78, R96, R118, R142, R163, R182). -/
def execPinReset (s : State) : Host.Outcome State Fault Refusal :=
  .next (((State.reset.setDisp s.disp.resetKeeping).setInputs s.inputs.resetKeeping).setPending s.pending)

/-! ### The port -/

/-- READ_TRANSACTION: the response buffer is shifted out and no state changes (R183). -/
def execReadTransaction (_bytes : List Byte) (s : State) : Host.Outcome State Fault Refusal := .next s

/-- UNKNOWN_REQUEST: a code that names no request (R183; log 37), whatever stands after it in the frame (log 70). -/
def execUnknownRequest (code : Byte) (_bytes : List Byte) (s : State) : Host.Outcome State Fault Refusal :=
  .next (respond s .unknownRequest code .empty)

/-! ### SETUP -/

/-- The highest chain position configured for any dispenser (R32). -/
def Setup.pmax (c : Setup) : Nat := c.positions.foldl max 0

/-- A dispenser's chain position from setup; at position 0 it becomes ABSENT (R19). -/
def Dispenser.place (r : Dispenser) (pos : Nat) : Dispenser :=
  { r with position := pos, state := if pos = 0 then .absent else r.state }

/-- The dispensers placed at the positions of setup, in dispenser order (R19). -/
def placeAll : List Dispenser → List Nat → List Dispenser
  | r :: rs, p :: ps => r.place p :: placeAll rs ps
  | rs, _ => rs

/-- This station's own roster entry: present, with no timer and no STATUS (R150). -/
def ownPresent (l : List RosterEntry) (station : Nat) : List RosterEntry :=
  l.modify (station - 1) fun _ => { present := true, silence := none, last := none }

/-- The blocks configured from an accepted setup record (R187). -/
def configure (s : State) (c : Setup) : State :=
  let s1 := s.setConsole { s.console with setup := some c }
  let s2 := s1.setJam { s.jam with run := .idle, purgeCount := 0 }
  let s3 := s2.setDisp { s.disp with records := placeAll s.disp.records c.positions }
  let s4 := s3.setChain { s.chain with clips := List.replicate (c.pmax + 1) .unknown, purgeRequired := true }
  let s5 := s4.setPose { s.pose with rates := some { x := rateTable c.rampX, y := rateTable c.rampY },
                                     last := { s.pose.last with valid := false } }
  let s6 := s5.setTable { s.table with homeValid := false }
  s6.setLine { s.line with urgent := [], normal := [], begunNormal := false, roster := ownPresent s.line.roster c.station, statusTimer := some 0 }

/-- The judgement of a SETUP body: the run state, then the ranges (R186). -/
def judgeSetup (s : State) (body : List Byte) : Verdict :=
  if s.jam.run = .unconfigured then
    match parseSetup body with
    | none => .refuse .refusedRange
    | some c => .done (finish false s (configure s c))
  else .refuse .refusedState

/-- SETUP (R186, R187). -/
def execSetup (bytes : List Byte) (s : State) : Host.Outcome State Fault Refusal :=
  .next (request s 0x01 131 true bytes (judgeSetup s))

/-! ### READ_STATUS and READ_REPORTS -/

/-- READ_STATUS (R188). -/
def execReadStatus (bytes : List Byte) (s : State) : Host.Outcome State Fault Refusal :=
  .next (request s 0x02 0 true bytes fun _ => .answer .done (.status (statusReply s)) s)

/-- The oldest reports leave the queue; left empty, it clears the overflow flag (R190). -/
def takeReports (s : State) (n : Nat) : State :=
  let left := s.console.reports.drop n
  s.setConsole { s.console with reports := left, overflow := s.console.overflow && !left.isEmpty }

/-- The judgement of READ_REPORTS (R190). -/
def judgeReadReports (s : State) (body : List Byte) : Verdict :=
  let n := at8 body 0
  if within 1 n 16 then
    .answer .done (.reports (s.console.reports.take n) (s.console.reports.length - n) s.console.overflow) (takeReports s n)
  else .refuse .refusedRange

/-- READ_REPORTS (R190). -/
def execReadReports (bytes : List Byte) (s : State) : Host.Outcome State Fault Refusal :=
  .next (request s 0x03 1 true bytes (judgeReadReports s))

end Sys2Proof.Machine
end

