-- ==== Sys2Proof/Machine/Dispensers.lean ====
section
/-! DEFINITION. Meanings of the dispenser requests (R21 to R25, R31), of TAPE_END (R26) and DROP_CONFIRM (R28, R29), and
of VERIFY_WORD (R37, R196). -/

namespace Sys2Proof.Machine

/-- READY when the tape-end level is INACTIVE and OUT when it is ACTIVE (2.1). -/
def Dispenser.byLevel (r : Dispenser) : DispState := if r.tapeEnd then .out else .ready

/-- UNLOADED when the part code is absent, otherwise by level (2.1). -/
def Dispenser.byReel (r : Dispenser) : DispState := if r.part.isNone then .unloaded else r.byLevel

/-- A request that names a dispenser in its first byte: above 63 it is out of range; an ABSENT dispenser refuses (2.1,
2.2). -/
def onDispenser (s : State) (body : List Byte) (f : Nat → Dispenser → Verdict) : Verdict :=
  let d := at8 body 0
  if 63 < d then .refuse .refusedRange
  else if (dispAt s d).state = .absent then .refuse .refusedState
  else f d (dispAt s d)

/-- A dispenser record replaced; the response carries the resulting state (2.2). -/
def changeDispenser (s : State) (d : Nat) (r : Dispenser) : Verdict :=
  .answer .done (.dispenserState r.state) (modDisp s d fun _ => r)

/-- REEL_LOAD on a dispenser (R21). -/
def loadReel (s : State) (body : List Byte) (d : Nat) (r : Dispenser) : Verdict :=
  if r.state = .ready ∧ s.jam.run = .running then .refuse .refusedState
  else
    changeDispenser s d
      { r with part := some (at8 body 1), quantity := at16 body 2, faults := 0,
               state := if r.state = .service then .service else r.byLevel }

/-- REEL_LOAD (R21). -/
def execReelLoad (bytes : List Byte) (s : State) : Host.Outcome State Fault Refusal :=
  .next (request s 0x20 4 false bytes fun body =>
    if at8 body 1 = 0 then .refuse .refusedRange else onDispenser s body (loadReel s body))

/-- SERVICE_BEGIN on a dispenser (R22). -/
def beginService (s : State) (d : Nat) (r : Dispenser) : Verdict :=
  match r.state with
  | .unloaded | .ready | .out | .jammed => changeDispenser s d { r with state := .service }
  | .absent | .service | .locked => .refuse .refusedState

/-- SERVICE_BEGIN (R22). -/
def execServiceBegin (bytes : List Byte) (s : State) : Host.Outcome State Fault Refusal :=
  .next (request s 0x21 1 false bytes fun body => onDispenser s body (beginService s))

/-- SERVICE_END on a dispenser (R23). -/
def endService (s : State) (d : Nat) (r : Dispenser) : Verdict :=
  match r.state with
  | .service | .jammed => changeDispenser s d { r with faults := 0, state := r.byReel }
  | .absent | .unloaded | .ready | .out | .locked => .refuse .refusedState

/-- SERVICE_END (R23). -/
def execServiceEnd (bytes : List Byte) (s : State) : Host.Outcome State Fault Refusal :=
  .next (request s 0x22 1 false bytes fun body => onDispenser s body (endService s))

/-- LOCK on a dispenser (R24). -/
def lockDispenser (s : State) (d : Nat) (r : Dispenser) : Verdict :=
  match r.state with
  | .unloaded | .ready | .out => changeDispenser s d { r with state := .locked }
  | .absent | .service | .locked | .jammed => .refuse .refusedState

/-- LOCK (R24). -/
def execLock (bytes : List Byte) (s : State) : Host.Outcome State Fault Refusal :=
  .next (request s 0x23 1 false bytes fun body => onDispenser s body (lockDispenser s))

/-- UNLOCK on a dispenser (R24). -/
def unlockDispenser (s : State) (d : Nat) (r : Dispenser) : Verdict :=
  if r.state = .locked then changeDispenser s d { r with state := r.byReel } else .refuse .refusedState

/-- UNLOCK (R24). -/
def execUnlock (bytes : List Byte) (s : State) : Host.Outcome State Fault Refusal :=
  .next (request s 0x24 1 false bytes fun body => onDispenser s body (unlockDispenser s))

/-- RELEASE_GROUP on a body (R31). -/
def releaseGroup (s : State) (body : List Byte) : Verdict :=
  let g := at8 body 0
  if 15 < g then .refuse .refusedRange
  else .done (modGroup s g fun _ => { faults := 0, quarantined := false })

/-- RELEASE_GROUP (R31). -/
def execReleaseGroup (bytes : List Byte) (s : State) : Host.Outcome State Fault Refusal :=
  .next (request s 0x25 1 false bytes (releaseGroup s))

/-- READ_DISPENSER (R25; log 7). -/
def execReadDispenser (bytes : List Byte) (s : State) : Host.Outcome State Fault Refusal :=
  .next (request s 0x26 1 true bytes fun body => onDispenser s body fun d _ =>
    .answer .done (.dispenser (dispenserReply s d)) s)

/-! ### Events -/

/-- A tape-end level taken (R26). -/
def noteTapeEnd (s : State) (d : Nat) (active : Bool) : State :=
  let r := dispAt s d
  if active && r.state == .ready then
    report (modDisp s d fun r => { r with tapeEnd := true, state := .out }) (.reelOut d r.part r.totalDrops)
  else modDisp s d fun r => { r with tapeEnd := active }

/-- TAPE_END (R26). -/
def execTapeEnd (d : Fin 64) (active : Bool) (s : State) : Host.Outcome State Fault Refusal :=
  .next (noteTapeEnd s d.val active)

/-- DROP_CONFIRM (R28, R29, R38). -/
def execDropConfirm (d : Fin 64) (s : State) : Host.Outcome State Fault Refusal :=
  match (dispAt s d.val).outstanding, (dispAt s d.val).missed with
  | some pos, _ => .next (finish false s (confirmDrop s pos d.val))
  | none, some pos => .next (finish false s (lateConfirm s pos d.val))
  | none, none => .next s

/-- A result word belongs to the measurement in flight: its tag and class are the record's (R196). -/
def Measurement.matches (m : Measurement) (r : VerifyResult) : Bool := r.tag == m.tag && r.cls == m.entry.cls

/-- VERIFY_WORD (R37 to R39, R196). -/
def execVerifyWord (bits : List Bool) (s : State) : Host.Outcome State Fault Refusal :=
  match s.chain.measurement, parseVerifyWord bits with
  | some m, some r =>
    if (cfg s).verifier && m.matches r then .next (finish false s (applyResult s m r)) else .next s
  | _, _ => .next s

end Sys2Proof.Machine
end

