-- ==== Sys2Proof/Machine/LineFrames.lean ====
section
/-! DEFINITION. Meanings of the line's commands: sending (R144 to R147), the roster and STATUS timers (R150, R151), frames
dropped (R148, R193), and the seven kinds of frame heard (R131, R139, R149, R152 to R158). -/

namespace Sys2Proof.Machine

/-! ### Sending (R144, R145) -/

/-- The frame to send next and its source: the urgent queue, then the passport-out buffer, then the normal queue (R145). -/
def nextFrame (s : State) : Option (Frame × Source) :=
  match s.line.urgent, s.boards.passOut, s.line.normal with
  | f :: _, _, _ => some (f, .urgent)
  | [], f :: _, _ => some (f, .passport)
  | [], [], f :: _ => some (f, .normal)
  | [], [], [] => none

/-- FRAME_BEGIN: the line is free and the next frame is begun (R142, R144, R145; log 35). One from the normal queue is from then
on not open to replacement (R147). -/
def execFrameBegin (s : State) : Host.Outcome State Fault Refusal :=
  match s.line.sending, nextFrame s with
  | none, some (f, src) =>
    if setupDone s then
      .next (s.setLine { s.line with
        sending := some { frame := f, source := some src, withdrawn := false }
        begunNormal := s.line.begunNormal || src == .normal })
    else .next s
  | _, _ => .next s

/-- The frame at the front of a source leaves it (R144). -/
def leaveSource (s : State) : Option Source → State
  | some .urgent => s.setLine { s.line with urgent := s.line.urgent.drop 1 }
  | some .passport => s.setBoards { s.boards with passOut := s.boards.passOut.drop 1 }
  | some .normal => s.setLine { s.line with normal := s.line.normal.drop 1, begunNormal := false }
  | none => s

/-- The frame in transmission has been sent: it leaves its source, and the status interval starts again (R144). -/
def sentFrame (s : State) (x : Sending) : State :=
  let s1 := leaveSource s x.source
  s1.setLine { s1.line with sending := none, statusTimer := s.line.statusTimer.map fun _ => 0 }

/-- FRAME_SENT (R130, R144). -/
def execFrameSent (s : State) : Host.Outcome State Fault Refusal :=
  match s.line.sending with
  | some x => .next (finish false s (sentFrame s x))
  | none => .next s

/-- The attempt ended without completing: the frame stays at the front of its source, but a withdrawn CLAIM leaves the
urgent queue (R144, R158, R162). -/
def failedFrame (s : State) (x : Sending) : State :=
  s.setLine { s.line with
    sending := none
    urgent := if x.withdrawn ∧ x.source = some .urgent then s.line.urgent.drop 1 else s.line.urgent }

/-- FRAME_ATTEMPT_FAILED (R144, R162). -/
def execFrameAttemptFailed (s : State) : Host.Outcome State Fault Refusal :=
  match s.line.sending with
  | some x => .next (failedFrame s x)
  | none => .next s

/-! ### Timers and dropped frames -/

/-- SILENCE_EXPIRY: the station becomes absent and its last STATUS with it (R150). -/
def execSilenceExpiry (station : Nat) (s : State) : Host.Outcome State Fault Refusal :=
  if (rosterAt s station).silence.isSome then
    .next (finish false s (modRoster s station fun _ => { present := false, silence := none, last := none }))
  else .next s

/-- A STATUS is in the normal queue, one whose transmission has begun included: it leaves the queue when it has been sent
(R147, R151; log 13). -/
def statusQueued (s : State) : Bool := s.line.normal.any Frame.isStatus

/-- STATUS_INTERVAL_EXPIRY (R151). -/
def execStatusIntervalExpiry (s : State) : Host.Outcome State Fault Refusal :=
  if s.line.statusTimer.isSome && !statusQueued s then .next (queueStatus s) else .next s

/-- A frame dropped: the receive error count rises by one (R148, R193). -/
def dropFrame (s : State) : State := s.setLine { s.line with rxErrors := capAt 65535 (s.line.rxErrors + 1) }

/-- FRAME_DROPPED (R148, R193). -/
def execFrameDropped (s : State) : Host.Outcome State Fault Refusal := .next (dropFrame s)

/-! ### Hearing (R148 to R150) -/

/-- The frame's sender is this station's own number (R149). -/
def ownNumber (s : State) (sender : Nat) : Bool := setupDone s && sender == (cfg s).station

/-- The last STATUS a frame carries. -/
def Frame.statusOf : Frame → Option StatusContent
  | .status c => some c
  | _ => none

/-- The roster after a valid frame: its sender present, the silence timer afresh, a STATUS in place of the last; this
station's own entry does not change (R149, R150; log 27). -/
def markSender (s : State) (sender : Nat) (f : Frame) : State :=
  if ownNumber s sender then s
  else
    modRoster s sender fun e =>
      { present := true, silence := if setupDone s then some (ms (cfg s).silence) else none,
        last := match f.statusOf with
          | some c => some c
          | none => e.last }

/-- DUPLICATE_STATION for a frame with this station's number, once while its entry is held (R149). -/
def checkDuplicate (s : State) (sender : Nat) : State :=
  if ownNumber s sender && !(s.jam.alarms.any fun e => e.cls == .duplicateStation) then
    stopAlarm s .duplicateStation .none
  else s

/-- A frame heard: dropped by R148, or its sender marked and its content handed on once the station has a number (R142,
R148 to R150). The halt of DUPLICATE_STATION stands before the frame's own effect (log 65). -/
def hear (s : State) (k : FrameKind) (f : HeardFrame) (act : State → Nat → Frame → State) : State :=
  match parseHeard k f with
  | none => dropFrame s
  | some (sender, c) =>
    let s1 := checkDuplicate (markSender s sender c) sender
    finish false s (if setupDone s then act s1 sender c else s1)

/-! ### WITHDRAW (R139) -/

/-- A WITHDRAW heard: the context and the passport-in buffer of the serial go (R139); the buffer goes at a station with no
context of the serial too (log 57). -/
def hearWithdraw (s : State) (serial : Nat) : State :=
  let s1 := removeAt s (slotOfSerial s serial)
  let held := match s.boards.passIn with
    | some b => b.head.serial == serial
    | none => false
  tryComplete (if held then clearPassIn s1 else s1)

/-- WITHDRAW_FRAME (R139, R161). -/
def execWithdrawFrame (f : HeardFrame) (s : State) : Host.Outcome State Fault Refusal :=
  .next (hear s .withdraw f fun s _ c =>
    match c with
    | .withdraw serial => hearWithdraw s serial
    | _ => s)

/-! ### CLAIM (R158) -/

/-- The frame is a CLAIM for a key. -/
def Frame.claims (k : ItemKey) : Frame → Bool
  | .claim k' _ => k' == k
  | _ => false

/-- This station's own CLAIM for a key leaves the urgent queue unsent; one in transmission leaves when its attempt ends
(R158, R162). -/
def withdrawClaim (s : State) (k : ItemKey) : State :=
  match s.line.sending with
  | some x =>
    if x.source = some .urgent then
      s.setLine { s.line with
        urgent := s.line.urgent.take 1 ++ (s.line.urgent.drop 1).filter (fun f => !f.claims k)
        sending := some { x with withdrawn := x.withdrawn || x.frame.claims k } }
    else s.setLine { s.line with urgent := s.line.urgent.filter fun f => !f.claims k }
  | none => s.setLine { s.line with urgent := s.line.urgent.filter fun f => !f.claims k }

/-- This station holds a claim for a key: its adopted entry is PENDING or IN_CHAIN (R157). -/
def Context.claims (c : Context) (k : ItemKey) : Bool :=
  match c.adoptedFor k with
  | some a => a.state == .pending || a.state == .inChain
  | none => false

/-- The passport entry's state after a CLAIM heard from a station: the lowest claimant (R158). -/
def lowestClaimant (station : Nat) : EntryState → EntryState
  | .opened => .claimed station
  | .claimed n => if station < n then .claimed station else .claimed n
  | .madeUp n => .madeUp n

/-- The entries held for a key changed by a CLAIM heard (R158). -/
def Context.recordClaim (c : Context) (k : ItemKey) (station : Nat) : Context :=
  let f : Entry → Entry := fun e =>
    if e.item.key == k then { e with state := lowestClaimant station e.state } else e
  { c with upstream := c.upstream.map f, ownRun := c.ownRun.map f }

/-- A CLAIM heard from a station: this station's own claim yields to a lower number, then the entry is recorded (R158). -/
def hearClaim (s : State) (sender : Nat) (k : ItemKey) : State :=
  match slotOfSerial s k.serial with
  | none => s
  | some slot =>
    let own := match ctxAt s slot with
      | some c => c.claims k
      | none => false
    let s1 := if own && decide (sender < (cfg s).station) then withdrawClaim (withdrawAdopted s slot k) k else s
    modCtx s1 slot fun c => c.recordClaim k sender

/-- CLAIM_FRAME (R158, R159). -/
def execClaimFrame (f : HeardFrame) (s : State) : Host.Outcome State Fault Refusal :=
  .next (hear s .claim f fun s sender c =>
    match c with
    | .claim k _ => hearClaim s sender k
    | _ => s)

/-! ### OWE (R155 to R157) -/

/-- The passport entries brought up to date by an OWE from a station (R155). -/
def Context.recordOwe (c : Context) (station sender : Nat) (d : ItemData) : Context :=
  match c.entryState d.key with
  | none =>
    if d.key.owner < station then
      if c.entryCount < Config.entriesMax then
        { c with upstream := c.upstream ++ [{ item := d, state := .opened }] }
      else { c with flags := { c.flags with passportFull := true } }
    else c
  | some (.claimed n) => if n = sender then c.setEntry d.key .opened else c
  | some _ => c

/-- The claim test for an OWE: conditions 1, 3 and 5 beside those of `claimAllowed` (R156). -/
def claimTest (s : State) (sender : Nat) (c : Context) (d : ItemData) : Bool :=
  decide (sender < (cfg s).station) && (c.state == .expected || c.state == .current) &&
  (match c.entryState d.key with
   | none | some .opened => true
   | some _ => false) && claimAllowed s c d

/-- An OWE heard (R155 to R157). -/
def hearOwe (s : State) (sender : Nat) (d : ItemData) : State :=
  match slotOfSerial s d.key.serial with
  | none => s
  | some slot =>
    let s1 := modCtx s slot fun c => c.recordOwe (cfg s).station sender d
    match ctxAt s1 slot with
    | some c => if claimTest s1 sender c d then claim s1 slot d else s1
    | none => s1

/-- OWE_FRAME (R155 to R157). -/
def execOweFrame (f : HeardFrame) (s : State) : Host.Outcome State Fault Refusal :=
  .next (hear s .owe f fun s sender c =>
    match c with
    | .owe d => hearOwe s sender d
    | _ => s)

/-! ### ANNOUNCE (R152, R153) -/

/-- The position lies in the window of the four positions upstream (R152). -/
def inWindow (s : State) (p : Nat) : Bool := decide ((cfg s).station ≤ p + 4) && decide (p < (cfg s).station)

/-- Any other EXPECTED context at a position is stale and is removed (R152). -/
def removeStale (s : State) (serial p : Nat) : State :=
  removeAt s (slotOf s fun c => c.state == .expected && c.position == p && c.serial != serial)

/-- A context created at a position from an announce, when a slot is free (R152, R153). -/
def announceCreate (s : State) (serial programId p : Nat) (mask : BitVec 8) : State :=
  let s1 := removeStale s serial p
  match emptySlot s1 with
  | some slot => closeAllAhead (createCtx s1 slot serial programId p mask)
  | none => s1

/-- A held EXPECTED context updated from an announce (R152, R153). -/
def announceUpdate (s : State) (slot serial programId p : Nat) (mask : BitVec 8) : State :=
  let s1 := joinMask (modCtx (removeStale s serial p) slot fun c => { c with position := p }) slot mask
  let s2 := match ctxAt s1 slot with
    | some c => if c.noProgram then lookupCtx s1 slot programId else s1
    | none => s1
  closeAllAhead s2

/-- An ANNOUNCE heard at a MIDDLE or END station (R152, R153). -/
def hearAnnounce (s : State) (serial programId p : Nat) (mask : BitVec 8) : State :=
  if headOfLine s then s
  else
    match slotOfSerial s serial with
    | none => if inWindow s p then announceCreate s serial programId p mask else s
    | some slot =>
      match ctxAt s slot with
      | none => s
      | some c =>
        if c.state ≠ .expected then s
        else if (cfg s).station ≤ p then removeCtx s slot
        else if !inWindow s p then s
        else if c.programId = some programId then announceUpdate s slot serial programId p mask
        else announceCreate (removeCtx s slot) serial programId p mask

/-- ANNOUNCE_FRAME (R152, R153). -/
def execAnnounceFrame (f : HeardFrame) (s : State) : Host.Outcome State Fault Refusal :=
  .next (hear s .announce f fun s _ c =>
    match c with
    | .announce serial programId p mask => hearAnnounce s serial programId p mask
    | _ => s)

/-! ### Passports and STATUS (R131, R150, R160) -/

/-- PASSPORT_HEAD (R131 to R133, R160). -/
def execPassportHead (f : HeardFrame) (s : State) : Host.Outcome State Fault Refusal :=
  .next (hear s .passportHead f fun s sender c =>
    match c with
    | .passportHead h => takeHead s sender h
    | _ => s)

/-- PASSPORT_ENTRY (R131 to R133, R160). -/
def execPassportEntry (f : HeardFrame) (s : State) : Host.Outcome State Fault Refusal :=
  .next (hear s .passportEntry f fun s sender c =>
    match c with
    | .passportEntry index e => takeEntry s sender index e
    | _ => s)

/-- STATUS_FRAME (R150); no other block reads its content (R151). -/
def execStatusFrame (f : HeardFrame) (s : State) : Host.Outcome State Fault Refusal :=
  .next (hear s .status f fun s _ _ => s)

end Sys2Proof.Machine
end

