-- ==== Sys2Proof/Machine/Motion.lean ====
section
/-! DEFINITION. Meanings of the table requests HOME, JOG, READ_POSITION (R89, R92, R94), of the axis events (R79 to R91),
of the actuator events (R107, R109), and of the guard (R84, R85, R113, R114). -/

namespace Sys2Proof.Machine

/-! ### Requests -/

/-- HOME taken (R89). -/
def takeHome (s : State) : State :=
  let s1 := setPositioning (setLast s { s.pose.last with valid := false }) none
  let s2 := s1.setTable { s.table with homeValid := false, op := .home (HomeRun.waiting (ms (cfg s).homeLimit)) }
  if s.inputs.guardOpen then s2 else beginHome s2

/-- HOME judged (R89). -/
def judgeHome (s : State) : Verdict :=
  if (s.jam.run = .idle ∨ s.jam.run = .ready) ∧ !tableBusy s then .started (finish false s (takeHome s))
  else .refuse .refusedState

/-- HOME (R89). -/
def execHome (bytes : List Byte) (s : State) : Host.Outcome State Fault Refusal :=
  .next (request s 0x30 0 false bytes fun _ => judgeHome s)

/-- A JOG's motion before it begins: the other axis stands (R93). -/
def jogMotion (s : State) (ax : Axis) (target : Nat) : Motion :=
  { tx := (match ax with | .x => target | .y => s.table.x), ty := (match ax with | .x => s.table.y | .y => target),
    state := .waiting, x := .done false 0 0, y := .done false 0 0, settle := none, ending := false }

/-- JOG taken (R92, R93). -/
def takeJog (s : State) (ax : Axis) (target : Nat) (check : Bool) : State :=
  let m := jogMotion s ax target
  let t := predictJog s ax target
  let s1 := setPositioning (setOp s (.jog ax check m))
    (some { clip := none, pose := none, tx := m.tx, ty := m.ty, tp := t, r := t, atUp := false })
  if s.inputs.guardOpen then s1 else resumeTable s1

/-- JOG judged: range before state (R92, R185). -/
def judgeJog (s : State) (body : List Byte) : Verdict :=
  match axisOf (at8 body 0), flagOf (at8 body 3) with
  | some ax, some check =>
    let target := at16 body 1
    if travel s ax < target then .refuse .refusedRange
    else if !(s.jam.run == .ready || s.jam.run == .halted) || tableBusy s ||
      (check && (!s.table.homeValid || (s.table.phase ax).isNone)) then .refuse .refusedState
    else .started (finish false s (takeJog s ax target check))
  | _, _ => .refuse .refusedRange

/-- JOG (R92). -/
def execJog (bytes : List Byte) (s : State) : Host.Outcome State Fault Refusal :=
  .next (request s 0x31 4 false bytes (judgeJog s))

/-- READ_POSITION (R94). -/
def execReadPosition (bytes : List Byte) (s : State) : Host.Outcome State Fault Refusal :=
  .next (request s 0x32 0 true bytes fun _ => .answer .done (.position (positionReply s)) s)

/-! ### Axes -/

/-- A motion whose axis has an interval running: it issues steps (R80, R84). -/
def Motion.steps (m : Motion) (ax : Axis) : Bool :=
  (m.state == .stepping || m.state == .decelerating) && !(m.axis ax).isDone

/-- AXIS_STEP (R79, R80, R84, R86, R90). -/
def execAxisStep (ax : Axis) (s : State) : Host.Outcome State Fault Refusal :=
  match s.table.op with
  | .none => .next s
  | .move _ m => if m.steps ax then .next (finish false s (stepMotion s ax m)) else .next s
  | .jog _ _ m => if m.steps ax then .next (finish false s (stepMotion s ax m)) else .next s
  | .home h => if (h.axis ax).interval.isSome then .next (finish false s (stepHome s ax h)) else .next s

/-- SETTLE_EXPIRY (R81, R93). -/
def execSettleExpiry (s : State) : Host.Outcome State Fault Refusal :=
  match s.table.op.motion with
  | some m => if m.state = .settling ∧ m.settle.isSome then .next (finish false s (completeMotion s)) else .next s
  | none => .next s

/-- The level of an axis's index input becomes active. -/
def Inputs.setIndex (i : Inputs) : Axis → Inputs
  | .x => { i with indexX := true }
  | .y => { i with indexY := true }

/-- The level of an axis's home input becomes active. -/
def Inputs.setHome (i : Inputs) : Axis → Inputs
  | .x => { i with homeX := true }
  | .y => { i with homeY := true }

/-- INDEX_MARK (R87, R88, R90). -/
def execIndexMark (ax : Axis) (s : State) : Host.Outcome State Fault Refusal :=
  let s1 := s.setInputs (s.inputs.setIndex ax)
  if indexFails s ax then .next (finish false s (stopAlarm s1 .tableSlip (.axis ax)))
  else .next (finish false s (homeIndex s1 ax))

/-- The home input of an axis in the approach phase of HOME (R90). -/
def reachHome (s : State) (ax : Axis) : State :=
  match s.table.op with
  | .home h => if h.begun ∧ (h.axis ax).phase = .approach then testHome (homeZero s ax) else s
  | _ => s

/-- HOME_INPUT (R90, R91). -/
def execHomeInput (ax : Axis) (s : State) : Host.Outcome State Fault Refusal :=
  .next (finish false s (reachHome (s.setInputs (s.inputs.setHome ax)) ax))

/-- The first axis or actuator that HOME has not finished, in the order of R91. -/
def homeLaggard (h : HomeRun) : AlarmSource :=
  if h.x.phase ≠ .ended then .axis .x
  else if h.y.phase ≠ .ended then .axis .y
  else if !h.bearingDone then .actuator .bearing
  else if !h.headSpanDone then .actuator .headSpan
  else if !h.clinchSpanDone then .actuator .clinchSpan
  else .actuator .clinchMode

/-- HOME_LIMIT_EXPIRY: the limit runs with the guard closed (R89, R91). -/
def execHomeLimitExpiry (s : State) : Host.Outcome State Fault Refusal :=
  match s.table.op with
  | .home h =>
    if h.limit.isSome ∧ !s.inputs.guardOpen then .next (finish false s (stopAlarm s .homeFault (homeLaggard h)))
    else .next s
  | .none => .next s
  | .move _ _ => .next s
  | .jog _ _ _ => .next s

/-! ### Actuators -/

/-- An in-position report: the setting ends, and in HOME a report at the reference value counts (R89, R107). -/
def reportPosition (s : State) (a : Actuator) (v : Nat) : State :=
  let s1 := settleActuator s a v
  match s1.table.op with
  | .home h => if h.begun ∧ v = 0 then testHome (markHome s1 a) else s1
  | _ => s1

/-- ACTUATOR_IN_POSITION (R89, R107). -/
def execActuatorInPosition (a : Actuator) (s : State) : Host.Outcome State Fault Refusal :=
  match (s.stroke.act a).setting with
  | some v => .next (finish false s (reportPosition s a v))
  | none => .next s

/-- ACTUATOR_TIMER_EXPIRY (R107). -/
def execActuatorTimerExpiry (a : Actuator) (s : State) : Host.Outcome State Fault Refusal :=
  if (s.stroke.act a).timer.isSome then .next (finish false s (stopAlarm s .actuatorFault (.actuator a))) else .next s

/-- The axis that lags behind the item's target: X when its counter differs or it is still stepping, otherwise Y (R109). -/
def laggingAxis (s : State) (p : Pose) : Axis :=
  let stepping := match s.table.op.motion with
    | some m => !m.x.isDone
    | none => false
  if s.table.x != p.tx || stepping then .x else .y

/-- The first actuator that is SETTING or differs from the item's value, in the order of R109. -/
def laggingActuator (s : State) (p : Pose) (flip : Bool) : Option Actuator :=
  actuators.find? fun a => (s.stroke.act a).setting.isSome || s.pose.last.value a != poseValue p flip a

/-- What a gate hold lacks when its limit expires (R109); that the table is settled is read as the table part of the gate test
of R108 (log 61). -/
def gateLack (s : State) : Option (AlarmClass × AlarmSource) :=
  match s.stroke.jaw with
  | .item _ _ p flip _ =>
    if tableAt s p then (laggingActuator s p flip).map fun a => (.actuatorFault, .actuator a)
    else some (.tableLate, .axis (laggingAxis s p))
  | _ => none

/-- GATE_HOLD_LIMIT_EXPIRY (R109). -/
def execGateHoldLimitExpiry (s : State) : Host.Outcome State Fault Refusal :=
  if s.stroke.gateTimer.isSome then
    let s1 := s.setStroke { s.stroke with gateTimer := none }
    match gateLack s with
    | some (c, src) => .next (finish false s (stopAlarm s1 c src))
    | none => .next (finish false s s1)
  else .next s

/-! ### The guard -/

/-- The guard opens: motion begins to stop and the gate-hold limit stops (R84, R109, R113). -/
def openGuard (s : State) : State :=
  let s1 := guardTable (s.setInputs { s.inputs with guardOpen := true })
  s1.setStroke { s1.stroke with gateTimer := none }

/-- GUARD_OPEN (R84, R90, R113, R127, R163). -/
def execGuardOpen (s : State) : Host.Outcome State Fault Refusal :=
  if s.inputs.guardOpen then .next s else .next (finish false s (openGuard s))

/-- A gate hold whose test still fails has its limit start afresh, and a restoring turn stopped at GATE goes on (R109,
R113, R114). -/
def resumeShaft (s : State) : State :=
  if s.stroke.shaft = .gateHeld then
    s.setStroke { s.stroke with gateTimer := if descending s then supervise (cfg s).gateLimit else none }
  else if s.stroke.restoreHeld then
    s.setStroke { s.stroke with restoreHeld := false, markTimer := supervise (cfg s).markTimeout }
  else s

/-- An actuator commanded to the value of a pose, if it is still wanted (R106). -/
def commandWanted (p : Pose) (flip : Bool) (s : State) (a : Actuator) : State :=
  if needsCommand s a (poseValue p flip a) then commandActuator s a (poseValue p flip a) else s

/-- The revolution in progress descends and has not left GATE. -/
def awaitsGate (s : State) : Bool := match s.stroke.rev with | some r => r.descending && !r.leftGate | none => false

/-- The actuator commands kept back by the guard before TRANSFER are made for the item in the jaws, whose gate test waits for
them (R106, R114; log 62). With the head free the end of the command compares every actuator afresh. -/
def commandKept (s : State) : State :=
  let s1 := s.setStroke { s.stroke with keptBack := [] }
  match s.stroke.jaw with
  | .item _ _ p flip _ => if aims s && awaitsGate s then s.stroke.keptBack.foldl (commandWanted p flip) s1 else s1
  | .empty | .waste _ => s1

/-- The guard closes: a clamp change and actuator commands kept back are made, held and waiting motion goes on (R85, R89, R114,
R127). -/
def closeGuard (s : State) : State :=
  let s1 := setClamp (s.setInputs { s.inputs with guardOpen := false }) s.boards.clampWanted
  resumeShaft (commandKept (resumeTable s1))

/-- GUARD_CLOSE (R84, R85, R89, R114, R127). -/
def execGuardClose (s : State) : Host.Outcome State Fault Refusal :=
  if s.inputs.guardOpen then .next (finish false s (closeGuard s)) else .next s

end Sys2Proof.Machine
end

