-- ==== Sys2Proof/Machine/Programs.lean ====
section
/-! DEFINITION. Meanings of the program store's requests: BANK_OPEN, BLOCK_BEGIN, STEP, BLOCK_COMMIT, BANK_CLOSE,
BANK_CLEAR_ABORT, BANK_ERASE (R6 to R14) and PART_ENTRY (R17). -/

namespace Sys2Proof.Machine

/-- A LOADING bank aborts: its open block is discarded and the cause recorded (R11). -/
def abortBank (s : State) (b : BankId) (c : AbortCause) : State :=
  s.setStore { (s.store.setBank b { s.store.bank b with state := .aborted, abortCause := some c }) with block := none }

/-- The answer BLOCK_ABORTED (R11, R184). -/
def aborted (s : State) (b : BankId) (c : AbortCause) : Verdict :=
  .answer .blockAborted (.aborted b c) (abortBank s b c)

/-- A bank-loading request names its bank in its first byte; a number above 1 is out of range (1.4). -/
def onBank (body : List Byte) (f : BankId → Verdict) : Verdict :=
  match bankOfNat (at8 body 0) with
  | some b => f b
  | none => .refuse .refusedRange

/-- A request other than STEP and BLOCK_COMMIT while a block is open aborts that block's bank (R7). -/
def unlessOpen (s : State) (f : Verdict) : Verdict :=
  match s.store.block with
  | some ob => aborted s ob.bank .sequence
  | none => f

/-- A bank of the store replaced. -/
def putBank (s : State) (b : BankId) (v : Bank) : State := s.setStore (s.store.setBank b v)

/-! ### BANK_OPEN (R6) -/

/-- The other bank is READY or LOADING with a program id (R6). -/
def heldElsewhere (s : State) (b : BankId) (programId : Nat) : Bool :=
  let o := s.store.bank b.other
  (o.state == .ready || o.state == .loading) && o.programId == some programId

/-- BANK_OPEN judged with no block open (R6). -/
def openBank (s : State) (body : List Byte) (b : BankId) : Verdict :=
  let programId := at16 body 1
  let declared := at16 body 3
  match parseImages body with
  | none => .refuse .refusedRange
  | some images =>
    if programId = 0 ∨ !within 1 declared 512 ∨ !(images.any Option.isSome) then .refuse .refusedRange
    else if inUse s b then .refuse .refusedInUse
    else if (s.store.bank b).state = .loading ∨ (s.store.bank b).state = .aborted ∨ heldElsewhere s b programId then
      .refuse .refusedState
    else
      .done (putBank s b { state := .loading, programId := some programId, declared := declared, images := images,
                           steps := [], abortCause := none })

/-- BANK_OPEN (R6, R7). -/
def execBankOpen (bytes : List Byte) (s : State) : Host.Outcome State Fault Refusal :=
  .next (request s 0x10 53 true bytes fun body => onBank body fun b => unlessOpen s (openBank s body b))

/-! ### BLOCK_BEGIN (R8) -/

/-- BLOCK_BEGIN judged with no block open (R8). -/
def beginBlock (s : State) (body : List Byte) (b : BankId) : Verdict :=
  let n := at8 body 1
  let v := s.store.bank b
  if v.state ≠ .loading then .refuse .refusedState
  else if !within 1 n 32 then aborted s b .blockSize
  else if v.declared - v.steps.length < n then aborted s b .blockExcess
  else .done (s.setStore { s.store with block := some { bank := b, size := n, steps := [] } })

/-- BLOCK_BEGIN (R7, R8). -/
def execBlockBegin (bytes : List Byte) (s : State) : Host.Outcome State Fault Refusal :=
  .next (request s 0x11 2 true bytes fun body => onBank body fun b => unlessOpen s (beginBlock s body b))

/-! ### STEP (R4, R5, R7, R9) -/

/-- The first defect of a step record, in the order of R4. -/
def stepDefect (v : Bank) (received : List StepRecord) (r : RawStep) : Option AbortCause :=
  let dx := r.holes.bX - r.holes.aX
  let dy := r.holes.bY - r.holes.aY
  if 4095 < r.id ∨ (clinchModeOf r.mode).isNone then some .field
  else if 7 < r.image ∨ (v.images.getD r.image none).isNone then some .image
  else if r.part = 0 then some .partZero
  else if !r.holes.inRange ∨ !axial dx dy then some .geometry
  else if (detentOf (dx.natAbs + dy.natAbs)).isNone then some .span
  else if (v.steps ++ received).any (·.id == r.id) then some .duplicateId
  else none

/-- The record a bank stores for a step that passes its checks, with its span index (R5, R9). -/
def RawStep.stored (r : RawStep) : StepRecord :=
  { id := r.id, image := r.image, holes := r.holes, part := r.part, mode := (clinchModeOf r.mode).getD .inward,
    span := (detentOf ((r.holes.bX - r.holes.aX).natAbs + (r.holes.bY - r.holes.aY).natAbs)).getD 0 }

/-- STEP judged against the open block (R7, R9). -/
def takeStep (s : State) (ob : OpenBlock) (body : List Byte) (b : BankId) : Verdict :=
  if b ≠ ob.bank then aborted s ob.bank .wrongBank
  else if ob.size ≤ ob.steps.length then aborted s ob.bank .stepExcess
  else
    match stepDefect (s.store.bank b) ob.steps (parseStep body) with
    | some cause => aborted s b cause
    | none => .done (s.setStore { s.store with block := some { ob with steps := ob.steps ++ [(parseStep body).stored] } })

/-- STEP (R4, R7, R9). -/
def execStepRecord (bytes : List Byte) (s : State) : Host.Outcome State Fault Refusal :=
  .next (request s 0x12 14 true bytes fun body => onBank body fun b =>
    match s.store.block with
    | none => .refuse .refusedState
    | some ob => takeStep s ob body b)

/-! ### BLOCK_COMMIT (R7, R10) -/

/-- BLOCK_COMMIT judged against the open block (R7, R10). -/
def commitBlock (s : State) (ob : OpenBlock) (b : BankId) : Verdict :=
  if b ≠ ob.bank ∨ ob.steps.length < ob.size then aborted s ob.bank .sequence
  else
    let v := s.store.bank b
    .done (s.setStore { (s.store.setBank b { v with steps := v.steps ++ ob.steps }) with block := none })

/-- BLOCK_COMMIT (R7, R10). -/
def execBlockCommit (bytes : List Byte) (s : State) : Host.Outcome State Fault Refusal :=
  .next (request s 0x13 1 true bytes fun body => onBank body fun b =>
    match s.store.block with
    | none => .refuse .refusedState
    | some ob => commitBlock s ob b)

/-! ### BANK_CLOSE, BANK_CLEAR_ABORT, BANK_ERASE (R12 to R14, R16) -/

/-- BANK_CLOSE judged with no block open (R12, R16). -/
def closeBank (s : State) (b : BankId) : Verdict :=
  let v := s.store.bank b
  if v.state ≠ .loading then .refuse .refusedState
  else if v.steps.length < v.declared then aborted s b .shortClose
  else
    let s1 := putBank s b { v with state := .ready }
    .done (match v.programId with
      | some p => bindAtClose s1 b p
      | none => s1)

/-- BANK_CLOSE (R7, R12). -/
def execBankClose (bytes : List Byte) (s : State) : Host.Outcome State Fault Refusal :=
  .next (request s 0x14 1 true bytes fun body => onBank body fun b => unlessOpen s (closeBank s b))

/-- BANK_CLEAR_ABORT judged with no block open (R13). -/
def clearBank (s : State) (b : BankId) : Verdict :=
  if (s.store.bank b).state = .aborted then .done (putBank s b Bank.emptied) else .refuse .refusedState

/-- BANK_CLEAR_ABORT (R7, R13). -/
def execBankClearAbort (bytes : List Byte) (s : State) : Host.Outcome State Fault Refusal :=
  .next (request s 0x15 1 true bytes fun body => onBank body fun b => unlessOpen s (clearBank s b))

/-- BANK_ERASE judged with no block open (R14). -/
def eraseBank (s : State) (b : BankId) : Verdict :=
  match (s.store.bank b).state with
  | .ready => if inUse s b then .refuse .refusedInUse else .done (putBank s b Bank.emptied)
  | .aborted => .done (putBank s b Bank.emptied)
  | .empty | .loading => .refuse .refusedState

/-- BANK_ERASE (R7, R14). -/
def execBankErase (bytes : List Byte) (s : State) : Host.Outcome State Fault Refusal :=
  .next (request s 0x16 1 true bytes fun body => onBank body fun b => unlessOpen s (eraseBank s b))

/-! ### PART_ENTRY (R17) -/

/-- The part table entry a body carries: absent, present, or out of range (none) (R17). -/
def parsePartEntry (body : List Byte) : Option (Option PartEntry) :=
  match flagOf (at8 body 1) with
  | none => none
  | some false => some none
  | some true =>
    match partKindOf (at8 body 2) with
    | none => none
    | some kind =>
      if at8 body 3 ≤ 7 ∧ at16 body 4 ≤ at16 body 6 then
        some (some { kind := kind, cls := at8 body 3, lo := at16 body 4, hi := at16 body 6 })
      else none

/-- PART_ENTRY judged (R17). -/
def writePart (s : State) (body : List Byte) : Verdict :=
  let code := at8 body 0
  match parsePartEntry body with
  | none => .refuse .refusedRange
  | some e =>
    if code = 0 then .refuse .refusedRange
    else .done (s.setStore { s.store with parts := s.store.parts.set (code - 1) e })

/-- PART_ENTRY (R17). -/
def execPartEntry (bytes : List Byte) (s : State) : Host.Outcome State Fault Refusal :=
  .next (request s 0x17 8 true bytes (writePart s))

end Sys2Proof.Machine
end

