-- ==== Sys2Proof/Machine/RunControl.lean ====
section
/-! DEFINITION. Meanings of START, STOP and RUN_RESET (R165, R166, R172) and of the alarm list's requests (R177, R178,
R180). -/

namespace Sys2Proof.Machine

/-! ### START -/

/-- A transfer that a halt left in progress goes on when the station runs again; after BOARD_JAM its limit starts afresh
(R127, R165). -/
def resumeTransfer (s : State) : State :=
  s.setBoards { s.boards with transfer := s.boards.transfer.map fun t => { t with jammed := false } }

/-- START taken (R165). -/
def takeStart (s : State) : State := tryComplete (resumeTransfer (setRun s .running))

/-- START judged (R165). -/
def judgeStart (s : State) : Verdict :=
  if s.jam.run = .ready ∧ s.table.homeValid ∧ !tableBusy s then .started (finish false s (takeStart s))
  else .refuse .refusedState

/-- START (R165). -/
def execStart (bytes : List Byte) (s : State) : Host.Outcome State Fault Refusal :=
  .next (request s 0x50 0 false bytes fun _ => judgeStart s)

/-! ### STOP -/

/-- The stop qualifier a byte names (R195). -/
def qualifierOf (n : Nat) : Option StopQualifier :=
  match n with
  | 0 => some .atRest
  | 1 => some .atBoardEnd
  | _ => none

/-- The state STOPPING with a qualifier. -/
def setStopping (s : State) (q : StopQualifier) : State :=
  s.setJam { s.jam with run := .stopping, qualifier := some q }

/-- The CURRENT context becomes PLAN_CLOSED and owes what it has waiting (R168). -/
def closeCurrent (s : State) : State :=
  match currentSlot s with
  | some slot => planClose s slot
  | none => s

/-- STOP judged by the run state and the qualifier (R166). -/
def judgeStop (s : State) (q : StopQualifier) : Verdict :=
  match s.jam.run, s.jam.qualifier, q with
  | .running, _, .atRest => .started (finish false s (setStopping s .atRest))
  | .running, _, .atBoardEnd => .started (finish false s (closeCurrent (setStopping s .atBoardEnd)))
  | .stopping, some .atBoardEnd, .atRest => .started (finish false s (setStopping s .atRest))
  | .stopping, some .atBoardEnd, .atBoardEnd => .started s
  | .stopping, some .atRest, .atRest => .started s
  | _, _, _ => .refuse .refusedState

/-- STOP (R166 to R168). -/
def execStop (bytes : List Byte) (s : State) : Host.Outcome State Fault Refusal :=
  .next (request s 0x51 1 false bytes fun body =>
    match qualifierOf (at8 body 0) with
    | some q => judgeStop s q
    | none => .refuse .refusedRange)

/-! ### RUN_RESET -/

/-- The board manager after run reset: every context removed, the load slot and both passport buffers emptied, a transfer
ended with its clamp open (R118, R127, R130, R131, R136). -/
def resetBoards (b : Boards) : Boards :=
  { b with
    slots := List.replicate 5 none, passIn := none, passOut := [], load := none, transfer := none, passWait := none
    clampOut := b.clampOut && b.transfer.isNone, clampWanted := b.clampWanted && b.transfer.isNone }

/-- The stroke controller after run reset (R96). -/
def resetStroke (k : Stroke) : Stroke :=
  { k with
    rev := none, missCount := 0
    jaw := match k.jaw with
      | .empty => .empty
      | _ => .waste none }

/-- The jam supervisor after run reset (R163, R172). -/
def resetJam (j : Jam) (homeValid : Bool) : Jam :=
  { j with
    run := if homeValid then .ready else .idle
    qualifier := none, alarms := [], listOverflow := false, unrecordedHalt := false, purgeCount := 0 }

/-- A passport frame in transmission has lost its source (R130, R142; log 13). -/
def resetLine (l : Line) : Line :=
  { l with sending := l.sending.map fun x => { x with source := if x.source = some .passport then none else x.source } }

/-- RUN_RESET taken (R42, R43, R172). -/
def takeReset (s : State) : State :=
  let s1 := ((s.setChain s.chain.madeUnknown).setDisp (clearDrops s.disp)).setPlanner PassSummary.initial
  let s2 := (s1.setBoards (resetBoards s.boards)).setStroke (resetStroke s.stroke)
  let s3 := s2.setInputs { s.inputs with clampClosed := s.inputs.clampClosed && s.boards.transfer.isNone }
  (s3.setJam (resetJam s.jam s.table.homeValid)).setLine (resetLine s.line)

/-- RUN_RESET judged (R172). -/
def judgeRunReset (s : State) : Verdict :=
  if s.jam.run = .idle ∨ s.jam.run = .ready ∨ s.jam.run = .halted then .started (finish false s (takeReset s))
  else .refuse .refusedState

/-- RUN_RESET (R172). -/
def execRunReset (bytes : List Byte) (s : State) : Host.Outcome State Fault Refusal :=
  .next (request s 0x52 0 false bytes fun _ => judgeRunReset s)

/-! ### The alarm list -/

/-- The entry with a number. -/
def alarmAt (s : State) (n : Nat) : Option AlarmEntry := s.jam.alarms.find? (·.number == n)

/-- An entry acknowledged (R177). -/
def ackAlarm (s : State) (n : Nat) : State :=
  s.setJam { s.jam with alarms := s.jam.alarms.map fun e => if e.number = n then { e with acked := true } else e }

/-- ALARM_ACK judged (R177). -/
def judgeAck (s : State) (body : List Byte) : Verdict :=
  let n := at16 body 0
  if n = 0 then .refuse .refusedRange
  else if (alarmAt s n).isSome then .done (ackAlarm s n)
  else .refuse .refusedState

/-- ALARM_ACK (R177). -/
def execAlarmAck (bytes : List Byte) (s : State) : Host.Outcome State Fault Refusal :=
  .next (request s 0x53 2 true bytes (judgeAck s))

/-- HALTED is left when no STOP entry remains and the unrecorded-halt flag is clear (R171). -/
def leaveHalted (s : State) : State :=
  if s.jam.run = .halted ∧ !holdsStop s.jam.alarms ∧ !s.jam.unrecordedHalt then
    setRun s (if s.table.homeValid then .ready else .idle)
  else s

/-- An entry removed, and the run state after it when it was of severity STOP (R171, R178). -/
def dropAlarm (s : State) (e : AlarmEntry) : State :=
  let s1 := s.setJam { s.jam with alarms := s.jam.alarms.filter (·.number != e.number) }
  if e.cls.stop then leaveHalted s1 else s1

/-- ALARM_CLEAR judged (R178). -/
def judgeClear (s : State) (body : List Byte) : Verdict :=
  let n := at16 body 0
  if n = 0 then .refuse .refusedRange
  else
    match alarmAt s n with
    | none => .refuse .refusedState
    | some e =>
      if e.cls.stop ∧ s.jam.run ≠ .halted then .refuse .refusedState
      else .done (finish false s (dropAlarm s e))

/-- ALARM_CLEAR (R171, R178). -/
def execAlarmClear (bytes : List Byte) (s : State) : Host.Outcome State Fault Refusal :=
  .next (request s 0x54 2 true bytes (judgeClear s))

/-- READ_ALARMS (R180). -/
def execReadAlarms (bytes : List Byte) (s : State) : Host.Outcome State Fault Refusal :=
  .next (request s 0x55 0 true bytes fun _ => .answer .done (.alarms (alarmsReply s)) s)

end Sys2Proof.Machine
end

