-- ==== Sys2Proof/Machine/Shaft.lean ====
section
/-! DEFINITION. Meanings of the shaft's commands: the starts (R98 to R101), the nine marks (R97, R102 to R112), the
confirms (R103, R104, R111) and the expiries of the mark timeout and the chain timer (R97, R104). -/

namespace Sys2Proof.Machine

/-- REVOLUTION_START (R98, R99). -/
def execRevolutionStart (s : State) : Host.Outcome State Fault Refusal :=
  if mayStart s then .next (finish false s (tryStart s)) else .next s

/-- RESTORING_TURN_START (R101). -/
def execRestoringTurnStart (s : State) : Host.Outcome State Fault Refusal :=
  if mayRestore s then .next (finish false s (startRestoring s)) else .next s

/-! ### Marks -/

/-- The jaws open over the reject chute: a waste record with a board reference counts its ejection (R101, R112). -/
def openJaws (s : State) : State :=
  let s1 := match s.stroke.jaw with
    | .waste board => countEjected s board
    | _ => s
  s1.setStroke { s1.stroke with jaw := .empty, jawOut := false, descentOut := false, clinchOut := false }

/-- A mark in a restoring turn: it begins no work, but GATE stops the turn while the guard is open and UP empties the jaws
(R101, R113). -/
def restoreStep (s : State) (m : Mark) : State :=
  let s1 := restoreMark s m
  match m with
  | .up => openJaws s1
  | .gate =>
    if s.inputs.guardOpen then s1.setStroke { s1.stroke with restoreHeld := true, markTimer := none } else s1
  | .rest | .transfer | .advance | .drop | .verify | .down | .clinch => s1

/-- A mark other than REST: in a restoring turn as R101 says; in a revolution, when it is the expected one, with its work
on the revolution record; otherwise it is ignored (R97). -/
def withMark (s : State) (m : Mark) (work : State → Revolution → State) : State :=
  if restoreTakes s m then finish false s (restoreStep s m)
  else
    match s.stroke.rev with
    | some r => if expects s m then finish (m == .up) s (work (takeMark s r m) { r with last := m }) else s
    | none => s

/-- TRANSFER_MARK (R40, R102). -/
def execTransferMark (s : State) : Host.Outcome State Fault Refusal := .next (withMark s .transfer transferWork)

/-- The ADVANCE mark's work: the lead sense decided, HEAD_JAM at the third miss, else the chain step (R103, R104). -/
def advanceWork (s : State) (r : Revolution) : State :=
  if r.lead = .awaited then
    let s1 := missLead s
    if 3 ≤ s1.stroke.missCount then stopAlarm (s1.setStroke { s1.stroke with missCount := 0 }) .headJam .none
    else startChainStep s1
  else startChainStep s

/-- ADVANCE_MARK (R103, R104). -/
def execAdvanceMark (s : State) : Host.Outcome State Fault Refusal := .next (withMark s .advance advanceWork)

/-- The DROP mark's work: a pitch hold while the chain step is STARTED, else the drops (R27, R104, R105). -/
def dropMarkWork (s : State) (_r : Revolution) : State :=
  if s.stroke.chainStep = .started then
    (setHold s).setStroke { s.stroke with shaft := .pitchHeld, markTimer := none }
  else dropWork s

/-- DROP_MARK (R27, R104, R105). -/
def execDropMark (s : State) : Host.Outcome State Fault Refusal := .next (withMark s .drop dropMarkWork)

/-- VERIFY_MARK (R36, R105). -/
def execVerifyMark (s : State) : Host.Outcome State Fault Refusal := .next (withMark s .verify fun s _ => verifyWork s)

/-- The GATE mark's work: the misses, then the guard and the gate test (R29, R108, R113). -/
def gateWork (s : State) (r : Revolution) : State :=
  let s1 := missDrops s
  if s.inputs.guardOpen || (r.descending && !gateTest s1) then holdAtGate s1 else leaveGate s1

/-- GATE_MARK (R29, R108, R113). -/
def execGateMark (s : State) : Host.Outcome State Fault Refusal := .next (withMark s .gate gateWork)

/-- The DOWN mark's work in a descending revolution (R110). -/
def downWork (s : State) (r : Revolution) : State :=
  if r.descending then
    let s1 := s.setStroke { s.stroke with
      descentOut := true, jawOut := false, rev := some { r with clinch := .awaited } }
    match s.stroke.jaw with
    | .item k board _ _ o => reportInserted s1 board k o
    | _ => s1
  else s

/-- DOWN_MARK (R110, R124). -/
def execDownMark (s : State) : Host.Outcome State Fault Refusal := .next (withMark s .down downWork)

/-- The CLINCH mark's work (R111). -/
def clinchWork (s : State) (r : Revolution) : State :=
  if r.descending then s.setStroke { s.stroke with clinchOut := true } else s

/-- CLINCH_MARK (R111). -/
def execClinchMark (s : State) : Host.Outcome State Fault Refusal := .next (withMark s .clinch clinchWork)

/-- The board reference of the item in the jaws. -/
def Jaw.itemBoard : Jaw → Option Nat
  | .item _ b _ _ _ => b
  | _ => none

/-- The UP mark's work: the jaws open; a clinch still awaited is a CLINCH_FAULT (R111, R112). -/
def upWork (s : State) (r : Revolution) : State :=
  let s1 := openJaws s
  if r.clinch = .awaited then
    stopAlarm (countSuspect (setRev s1 (some { r with clinch := .missed })) s.stroke.jaw.itemBoard) .clinchFault .none
  else s1

/-- UP_MARK (R111, R112). -/
def execUpMark (s : State) : Host.Outcome State Fault Refusal := .next (withMark s .up upWork)

/-! ### REST -/

/-- The clean period after a revolution: measured when it was not held (R75; log 14). -/
def measurePeriod (s : State) (r : Revolution) : State :=
  if s.pose.holdMark then s
  else s.setPose { s.pose with clean := some (max 1 (capAt Config.maxMicros r.elapsed)) }

/-- The countdown of a positioning begun at this revolution's UP mark (R74, event 1); it is replaced while the move is HELD too
(log 50). -/
def creditUp (s : State) : State :=
  match s.pose.positioning with
  | some r => if r.atUp then setPositioning s (some { r with r := r.tp - upToRest s, atUp := false }) else s
  | none => s

/-- The purge ends: every clip EMPTY, the flag clear, the count 0 (R174). -/
def endPurge (s : State) : State :=
  (s.setChain { s.chain with clips := s.chain.clips.map fun _ => Clip.empty, purgeRequired := false }).setJam
    { s.jam with purgeCount := 0 }

/-- A PURGE revolution counted at its REST mark, and the end of the purge at Pmax + 1 (R173, R174). -/
def countPurge (s : State) (r : Revolution) : State :=
  if r.kind = .purge then
    if s.chain.clips.length ≤ s.jam.purgeCount + 1 then endPurge s
    else s.setJam { s.jam with purgeCount := s.jam.purgeCount + 1 }
  else s

/-- The shaft stands at REST with no revolution record (R98, R112). -/
def standAtRest (s : State) : State :=
  s.setStroke { s.stroke with shaft := .atRest, rev := none, restoreLast := none, markTimer := none }

/-- A revolution ends at REST (R74, R75, R112, R173, R174). -/
def endRevolution (s : State) (r : Revolution) : State :=
  countPurge (creditUp (measurePeriod (standAtRest s) r)) r

/-- REST_MARK: a restoring turn or a revolution ends, and the next revolution may start at the same mark (R97, R98, R101,
R112; log 4). -/
def execRestMark (s : State) : Host.Outcome State Fault Refusal :=
  if restoreTakes s .rest then .next (finish false s (tryStart (standAtRest s)))
  else
    match s.stroke.rev with
    | some r => if expects s .rest then .next (finish false s (tryStart (endRevolution s r))) else .next s
    | none => .next s

/-! ### Confirms and expiries -/

/-- LEAD_SENSE_CONFIRM (R103). -/
def execLeadSenseConfirm (s : State) : Host.Outcome State Fault Refusal :=
  match s.stroke.rev with
  | some r =>
    if r.lead = .awaited then
      .next (s.setStroke { s.stroke with rev := some { r with lead := .sensed }, missCount := 0 })
    else .next s
  | none => .next s

/-- CLINCH_CONFIRM (R111). -/
def execClinchConfirm (s : State) : Host.Outcome State Fault Refusal :=
  match s.stroke.rev with
  | some r => if r.clinch = .awaited then .next (setRev s (some { r with clinch := .confirmed })) else .next s
  | none => .next s

/-- A pitch hold released: the DROP mark's work, then the shaft turns (R104, R105). -/
def releasePitch (s : State) : State :=
  if s.stroke.shaft = .pitchHeld then
    let s1 := dropWork s
    restartMarks (s1.setStroke { s1.stroke with shaft := .turning })
  else s

/-- The chain step confirmed: the chain advance with its plan pass, then a pitch hold ends (R35, R104). -/
def confirmPitch (s : State) : State :=
  releasePitch (chainAdvance
    (s.setStroke { s.stroke with chainStep := .confirmed, chainTimer := none, chainDriveOut := false }))

/-- PITCH_CONFIRM (R35, R104). -/
def execPitchConfirm (s : State) : Host.Outcome State Fault Refusal :=
  if s.stroke.chainStep = .started ∧ s.stroke.shaft ≠ .restoring then .next (finish false s (confirmPitch s))
  else .next s

/-- MARK_TIMEOUT_EXPIRY (R97, R115). -/
def execMarkTimeoutExpiry (s : State) : Host.Outcome State Fault Refusal :=
  if s.stroke.markTimer.isSome then
    .next (finish false s (stopAlarm (s.setStroke { s.stroke with markTimer := none }) .strokeStall .none))
  else .next s

/-- CHAIN_TIMER_EXPIRY (R42, R104, R115). -/
def execChainTimerExpiry (s : State) : Host.Outcome State Fault Refusal :=
  if s.stroke.chainTimer.isSome then .next (finish false s (stopAlarm s .chainStall .none)) else .next s

end Sys2Proof.Machine
end

