-- ==== Sys2Proof/Machine/Station.lean ====
section
/-! DEFINITION. Meanings of the board requests (R136 to R138, R140), of the index hold line and the line index (R126,
R127), and of the board sensors, the clamp and the transfer and passport timers (R127 to R129, R133, R138). -/

namespace Sys2Proof.Machine

/-! ### Requests -/

/-- BOARD_LOAD taken: the load slot, the context at position 0 and its ANNOUNCE (R136). -/
def takeBoard (s : State) (slot serial programId : Nat) (mask : BitVec 8) : State :=
  let s1 := s.setBoards { s.boards with load := some { serial := serial, programId := programId, mask := mask } }
  queueAnnounce (createCtx s1 slot serial programId 0 mask) serial programId 0 mask

/-- BOARD_LOAD judged (R136). -/
def judgeBoardLoad (s : State) (body : List Byte) : Verdict :=
  let serial := at32 body 0
  let programId := at16 body 4
  if serial = 0 ∨ programId = 0 then .refuse .refusedRange
  else if !headOfLine s || (slotOfSerial s serial).isSome then .refuse .refusedState
  else
    match s.boards.load, emptySlot s with
    | none, some slot => .done (takeBoard s slot serial programId (BitVec.ofNat 8 (at8 body 6)))
    | _, _ => .refuse .refusedFull

/-- BOARD_LOAD (R136). -/
def execBoardLoad (bytes : List Byte) (s : State) : Host.Outcome State Fault Refusal :=
  .next (request s 0x40 7 false bytes (judgeBoardLoad s))

/-- The slot of the CURRENT context when it holds a serial; serial 0 is that of an UNIDENTIFIED one (R137; log 19). -/
def currentWith (s : State) (serial : Nat) : Option Nat := slotOf s fun c => c.state == .current && c.serial == serial

/-- IMAGE_SKIP judged (R137). -/
def judgeImageSkip (s : State) (body : List Byte) : Verdict :=
  let image := at8 body 4
  if 7 < image then .refuse .refusedRange
  else
    match currentWith s (at32 body 0) with
    | some slot => .done (finish false s (joinMask s slot (1#8 <<< image)))
    | none => .refuse .refusedState

/-- IMAGE_SKIP (R137). -/
def execImageSkip (bytes : List Byte) (s : State) : Host.Outcome State Fault Refusal :=
  .next (request s 0x42 5 false bytes (judgeImageSkip s))

/-- The load slot's context while it is EXPECTED, when it holds a serial (R138). -/
def loadedWith (s : State) (serial : Nat) : Option Nat :=
  match s.boards.load with
  | some l =>
    if headOfLine s ∧ l.serial = serial then slotOf s fun c => c.state == .expected && c.serial == serial else none
  | none => none

/-- BOARD_WITHDRAW judged (R138). -/
def judgeWithdraw (s : State) (body : List Byte) : Verdict :=
  let serial := at32 body 0
  if serial = 0 then .refuse .refusedRange
  else
    match (if transferring s then none else currentWith s serial), loadedWith s serial with
    | some slot, _ =>
      if urgentRoom s then
        let s1 := removeCtx (joinUrgent s (.withdraw serial)) slot
        .done (finish false s (s1.setBoards { s1.boards with withdrawOpen := true }))
      else .refuse .refusedFull
    | none, some slot =>
      if urgentRoom s then
        let s1 := removeCtx (joinUrgent s (.withdraw serial)) slot
        .done (finish false s (s1.setBoards { s1.boards with load := none }))
      else .refuse .refusedFull
    | none, none => .refuse .refusedState

/-- BOARD_WITHDRAW (R138). -/
def execBoardWithdraw (bytes : List Byte) (s : State) : Host.Outcome State Fault Refusal :=
  .next (request s 0x41 4 false bytes (judgeWithdraw s))

/-- The clamp of a withdrawn board may open (R138). -/
def mayOpenClamp (s : State) : Bool :=
  s.boards.withdrawOpen && !revInProgress s && !tableBusy s && !s.inputs.guardOpen

/-- WITHDRAW_CLAMP_OPEN (R138). -/
def execWithdrawClampOpen (s : State) : Host.Outcome State Fault Refusal :=
  if mayOpenClamp s then
    let s1 := setClamp s false
    .next (finish false s (s1.setBoards { s1.boards with withdrawOpen := false }))
  else .next s

/-- The slot that READ_BOARD reads: by serial, or the UNIDENTIFIED context for serial 0 (R140), of two the one in the lower slot
(log 63). -/
def boardToRead (s : State) (serial : Nat) : Option Nat :=
  if serial = 0 then slotOf s (·.flags.unidentified) else slotOfSerial s serial

/-- READ_BOARD judged (R140). -/
def judgeReadBoard (s : State) (body : List Byte) : Verdict :=
  match (boardToRead s (at32 body 0)).bind (ctxAt s) with
  | some c => .answer .done (.board c) s
  | none => .refuse .refusedState

/-- READ_BOARD (R140). -/
def execReadBoard (bytes : List Byte) (s : State) : Host.Outcome State Fault Refusal :=
  .next (request s 0x43 4 true bytes (judgeReadBoard s))

/-! ### The index hold line -/

/-- The level of the index hold line taken: the 2 ms qualification starts at a release and stops at a pull (R126). -/
def noteLine (s : State) (released : Bool) : State :=
  let up := released && !s.boards.pulled
  (s.setInputs { s.inputs with lineReleased := up }).setBoards
    { s.boards with
      qualify := if up then (if s.inputs.lineReleased then s.boards.qualify else some Config.qualifyMicros) else none }

/-- INDEX_HOLD_LEVEL_CHANGE (R126; log 26). -/
def execIndexHoldLevelChange (released : Bool) (s : State) : Host.Outcome State Fault Refusal :=
  .next (noteLine s released)

/-- A line index: a transfer begins, and the line is pulled again at once, with the STATUS of that change (R126, R127, R151). -/
def takeIndex (s : State) : State :=
  statusOnChange s (updateHold (beginTransfer (s.setBoards { s.boards with qualify := none })))

/-- LINE_INDEX (R126, R127). A transfer with nothing to move completes at once, and the line is then released anew: the next
qualification starts at the next release reported (log 26). -/
def execLineIndex (s : State) : Host.Outcome State Fault Refusal :=
  if s.boards.qualify.isSome then
    let s1 := takeIndex s
    .next (finish false s1 (tryComplete s1))
  else .next s

/-! ### Sensors and the clamp -/

/-- A board at the stop during a transfer: an unexpected one gets a context, and the clamp closes (R128, R129). -/
def boardAtStop (s : State) (t : Transfer) : State :=
  let s1 := if (arrivingSlot s).isSome then s else unexpectedBoard s
  let s2 := setClamp s1 true
  tryComplete (s2.setBoards { s2.boards with transfer := some { t with arrived := true } })

/-- ENTRY_SENSOR (R125, R128, R129). -/
def execEntrySensor (s : State) : Host.Outcome State Fault Refusal :=
  let s1 := s.setInputs { s.inputs with entryBoard := true }
  match s.boards.transfer with
  | some t => .next (finish false s (boardAtStop s1 t))
  | none => .next (finish false s s1)

/-- ENTRY_SENSOR_EMPTY (R125, condition 7). -/
def execEntrySensorEmpty (s : State) : Host.Outcome State Fault Refusal :=
  .next (finish false s (s.setInputs { s.inputs with entryBoard := false }))

/-- EXIT_SENSOR: the board has left (R128). -/
def execExitSensor (s : State) : Host.Outcome State Fault Refusal :=
  match s.boards.transfer with
  | some t =>
    .next (finish false s (tryComplete (s.setBoards { s.boards with transfer := some { t with exited := true } })))
  | none => .next s

/-- CLAMP_CLOSED: the clamp-closed input becomes active while the clamp output is closed (R128; log 25). -/
def execClampClosed (s : State) : Host.Outcome State Fault Refusal :=
  if s.boards.clampOut then
    .next (finish false s (tryComplete (s.setInputs { s.inputs with clampClosed := true })))
  else .next s

/-! ### Timers -/

/-- The transfer limit runs: a transfer in progress, the guard closed, no halt since, its limit not yet expired (R127). -/
def limitRuns (s : State) : Bool :=
  match s.boards.transfer with
  | some t => t.limit.isSome && !t.jammed && segmentRunning s
  | none => false

/-- The transfer limit's expiry: BOARD_JAM, and the limit stands at its full value for the next run (R127, R128). -/
def jamTransfer (s : State) (t : Transfer) : State :=
  stopAlarm (s.setBoards { s.boards with
    transfer := some { t with jammed := true, limit := some (ms (cfg s).transferLimit) } }) .boardJam .none

/-- TRANSFER_LIMIT_EXPIRY (R127, R128). -/
def execTransferLimitExpiry (s : State) : Host.Outcome State Fault Refusal :=
  match s.boards.transfer with
  | some t => if limitRuns s then .next (finish false s (jamTransfer s t)) else .next s
  | none => .next s

/-- PASSPORT_WAIT_EXPIRY (R133). -/
def execPassportWaitExpiry (s : State) : Host.Outcome State Fault Refusal :=
  if s.boards.passWait.isSome then .next (finish false s (expireWait s)) else .next s

end Sys2Proof.Machine
end

