-- ==== Sys2Proof/Machine/Dispatch.lean ====
section
/-! DEFINITION. One arm for each command of the table: its meaning. -/

namespace Sys2Proof.Machine

/-- A command's effect on everything but the queue. -/
def exec (i : Instr) (s : State) : Host.Outcome State Fault Refusal :=
  match i with
  | .pinReset => Sys2Proof.Machine.execPinReset s
  | .readTransaction bytes => Sys2Proof.Machine.execReadTransaction bytes s
  | .unknownRequest code bytes => Sys2Proof.Machine.execUnknownRequest code bytes s
  | .setup bytes => Sys2Proof.Machine.execSetup bytes s
  | .readStatus bytes => Sys2Proof.Machine.execReadStatus bytes s
  | .readReports bytes => Sys2Proof.Machine.execReadReports bytes s
  | .bankOpen bytes => Sys2Proof.Machine.execBankOpen bytes s
  | .blockBegin bytes => Sys2Proof.Machine.execBlockBegin bytes s
  | .stepRecord bytes => Sys2Proof.Machine.execStepRecord bytes s
  | .blockCommit bytes => Sys2Proof.Machine.execBlockCommit bytes s
  | .bankClose bytes => Sys2Proof.Machine.execBankClose bytes s
  | .bankClearAbort bytes => Sys2Proof.Machine.execBankClearAbort bytes s
  | .bankErase bytes => Sys2Proof.Machine.execBankErase bytes s
  | .partEntry bytes => Sys2Proof.Machine.execPartEntry bytes s
  | .reelLoad bytes => Sys2Proof.Machine.execReelLoad bytes s
  | .serviceBegin bytes => Sys2Proof.Machine.execServiceBegin bytes s
  | .serviceEnd bytes => Sys2Proof.Machine.execServiceEnd bytes s
  | .lock bytes => Sys2Proof.Machine.execLock bytes s
  | .unlock bytes => Sys2Proof.Machine.execUnlock bytes s
  | .releaseGroup bytes => Sys2Proof.Machine.execReleaseGroup bytes s
  | .readDispenser bytes => Sys2Proof.Machine.execReadDispenser bytes s
  | .home bytes => Sys2Proof.Machine.execHome bytes s
  | .jog bytes => Sys2Proof.Machine.execJog bytes s
  | .readPosition bytes => Sys2Proof.Machine.execReadPosition bytes s
  | .boardLoad bytes => Sys2Proof.Machine.execBoardLoad bytes s
  | .imageSkip bytes => Sys2Proof.Machine.execImageSkip bytes s
  | .boardWithdraw bytes => Sys2Proof.Machine.execBoardWithdraw bytes s
  | .withdrawClampOpen => Sys2Proof.Machine.execWithdrawClampOpen s
  | .readBoard bytes => Sys2Proof.Machine.execReadBoard bytes s
  | .start bytes => Sys2Proof.Machine.execStart bytes s
  | .stop bytes => Sys2Proof.Machine.execStop bytes s
  | .runReset bytes => Sys2Proof.Machine.execRunReset bytes s
  | .alarmAck bytes => Sys2Proof.Machine.execAlarmAck bytes s
  | .alarmClear bytes => Sys2Proof.Machine.execAlarmClear bytes s
  | .readAlarms bytes => Sys2Proof.Machine.execReadAlarms bytes s
  | .revolutionStart => Sys2Proof.Machine.execRevolutionStart s
  | .restoringTurnStart => Sys2Proof.Machine.execRestoringTurnStart s
  | .restMark => Sys2Proof.Machine.execRestMark s
  | .transferMark => Sys2Proof.Machine.execTransferMark s
  | .advanceMark => Sys2Proof.Machine.execAdvanceMark s
  | .leadSenseConfirm => Sys2Proof.Machine.execLeadSenseConfirm s
  | .pitchConfirm => Sys2Proof.Machine.execPitchConfirm s
  | .dropMark => Sys2Proof.Machine.execDropMark s
  | .verifyMark => Sys2Proof.Machine.execVerifyMark s
  | .verifyWord bits => Sys2Proof.Machine.execVerifyWord bits s
  | .gateMark => Sys2Proof.Machine.execGateMark s
  | .downMark => Sys2Proof.Machine.execDownMark s
  | .clinchMark => Sys2Proof.Machine.execClinchMark s
  | .clinchConfirm => Sys2Proof.Machine.execClinchConfirm s
  | .upMark => Sys2Proof.Machine.execUpMark s
  | .markTimeoutExpiry => Sys2Proof.Machine.execMarkTimeoutExpiry s
  | .chainTimerExpiry => Sys2Proof.Machine.execChainTimerExpiry s
  | .actuatorInPosition a => Sys2Proof.Machine.execActuatorInPosition a s
  | .actuatorTimerExpiry a => Sys2Proof.Machine.execActuatorTimerExpiry a s
  | .gateHoldLimitExpiry => Sys2Proof.Machine.execGateHoldLimitExpiry s
  | .axisStep ax => Sys2Proof.Machine.execAxisStep ax s
  | .settleExpiry => Sys2Proof.Machine.execSettleExpiry s
  | .indexMark ax => Sys2Proof.Machine.execIndexMark ax s
  | .homeInput ax => Sys2Proof.Machine.execHomeInput ax s
  | .homeLimitExpiry => Sys2Proof.Machine.execHomeLimitExpiry s
  | .guardOpen => Sys2Proof.Machine.execGuardOpen s
  | .guardClose => Sys2Proof.Machine.execGuardClose s
  | .tapeEnd d active => Sys2Proof.Machine.execTapeEnd d active s
  | .dropConfirm d => Sys2Proof.Machine.execDropConfirm d s
  | .indexHoldLevelChange released => Sys2Proof.Machine.execIndexHoldLevelChange released s
  | .lineIndex => Sys2Proof.Machine.execLineIndex s
  | .entrySensor => Sys2Proof.Machine.execEntrySensor s
  | .exitSensor => Sys2Proof.Machine.execExitSensor s
  | .clampClosed => Sys2Proof.Machine.execClampClosed s
  | .transferLimitExpiry => Sys2Proof.Machine.execTransferLimitExpiry s
  | .passportWaitExpiry => Sys2Proof.Machine.execPassportWaitExpiry s
  | .silenceExpiry station => Sys2Proof.Machine.execSilenceExpiry station s
  | .statusIntervalExpiry => Sys2Proof.Machine.execStatusIntervalExpiry s
  | .frameBegin => Sys2Proof.Machine.execFrameBegin s
  | .frameSent => Sys2Proof.Machine.execFrameSent s
  | .frameAttemptFailed => Sys2Proof.Machine.execFrameAttemptFailed s
  | .frameDropped => Sys2Proof.Machine.execFrameDropped s
  | .withdrawFrame f => Sys2Proof.Machine.execWithdrawFrame f s
  | .claimFrame f => Sys2Proof.Machine.execClaimFrame f s
  | .oweFrame f => Sys2Proof.Machine.execOweFrame f s
  | .announceFrame f => Sys2Proof.Machine.execAnnounceFrame f s
  | .passportHead f => Sys2Proof.Machine.execPassportHead f s
  | .passportEntry f => Sys2Proof.Machine.execPassportEntry f s
  | .statusFrame f => Sys2Proof.Machine.execStatusFrame f s
  | .entrySensorEmpty => Sys2Proof.Machine.execEntrySensorEmpty s

end Sys2Proof.Machine
end

