-- ==== Sys2Proof/Machine/Time.lean ====
section
/-! DEFINITION. Time (log 1): what one microsecond does to the timers that run, and the part's own commands that are due,
in a fixed order of preference (log 3). -/

namespace Sys2Proof.Machine

/-! ### One microsecond -/

/-- A timer with one microsecond less left. -/
def Timer.down (t : Timer) : Timer := t.map (· - 1)

/-- An axis's running interval with one microsecond less left (R80). -/
def AxisMotion.tick : AxisMotion → AxisMotion
  | .done up n toGo => .done up n toGo
  | .profile up n k left => .profile up n k (left - 1)
  | .stopping up n toGo j left => .stopping up n toGo j (left - 1)

/-- A motion's intervals and settle time (R80, R81); the settle time runs with the guard open too. -/
def Motion.tick (m : Motion) : Motion := { m with x := m.x.tick, y := m.y.tick, settle := Timer.down m.settle }

/-- The intervals and the limit of HOME; the limit stands still while the guard is open (R89, R90). -/
def HomeRun.tick (guardOpen : Bool) (h : HomeRun) : HomeRun :=
  { h with
    x := { h.x with interval := Timer.down h.x.interval }
    y := { h.y with interval := Timer.down h.y.interval }
    limit := if guardOpen then h.limit else Timer.down h.limit }

/-- The table operation's timers. -/
def Operation.tick (guardOpen : Bool) : Operation → Operation
  | .none => .none
  | .move k m => .move k m.tick
  | .home h => .home (h.tick guardOpen)
  | .jog ax c m => .jog ax c m.tick

/-- A MOVE or JOG is HELD (R74, event 4). -/
def motionHeld (s : State) : Bool :=
  match s.table.op.motion with
  | some m => m.state == .held
  | none => false

/-- The positioning countdown; it stands still while the move is HELD (R74). -/
def tickPose (s : State) : PoseUnit :=
  { s.pose with
    positioning := s.pose.positioning.map fun r => if motionHeld s then r else { r with r := r.r - 1 } }

/-- An actuator record's timer (R107). -/
def ActRecord.tick (r : ActRecord) : ActRecord := { r with timer := Timer.down r.timer }

/-- The stroke controller's timers and the revolution's measured time (R75, R97, R104, R107, R109). -/
def Stroke.tick (k : Stroke) : Stroke :=
  { k with
    rev := k.rev.map fun r => { r with elapsed := capAt Config.maxMicros (r.elapsed + 1) }
    chainTimer := Timer.down k.chainTimer, markTimer := Timer.down k.markTimer, gateTimer := Timer.down k.gateTimer
    bearing := k.bearing.tick, headSpan := k.headSpan.tick, clinchSpan := k.clinchSpan.tick
    clinchMode := k.clinchMode.tick }

/-- The board manager's timers; the transfer limit stands still with the guard open and in a halt (R126, R127, R133). -/
def tickBoards (s : State) : Boards :=
  { s.boards with
    transfer := s.boards.transfer.map fun t => if limitRuns s then { t with limit := Timer.down t.limit } else t
    qualify := Timer.down s.boards.qualify, passWait := Timer.down s.boards.passWait }

/-- The silence timers and the status interval timer, which counts up (R150, R151). -/
def Line.tick (l : Line) : Line :=
  { l with
    roster := l.roster.map fun e => { e with silence := Timer.down e.silence }
    statusTimer := l.statusTimer.map (· + 1) }

/-- One microsecond passes. -/
def tick (s : State) : State :=
  (((( s.setTable { s.table with op := s.table.op.tick s.inputs.guardOpen }).setPose (tickPose s)).setStroke
    s.stroke.tick).setBoards (tickBoards s)).setLine s.line.tick

/-! ### What is due -/

/-- A command when a condition holds. -/
def dueWhen (b : Bool) (c : Instr) : List Instr := if b then [c] else []

/-- A timer has run out. -/
def Timer.out (t : Timer) : Bool := t == some 0

/-- An axis of a motion has its interval run out. -/
def AxisMotion.out : AxisMotion → Bool
  | .done _ _ _ => false
  | .profile _ _ _ left => left == 0
  | .stopping _ _ _ _ left => left == 0

/-- A step of an axis is due (R80, R90). -/
def stepDue (s : State) (ax : Axis) : Bool :=
  match s.table.op with
  | .none => false
  | .move _ m | .jog _ _ m => m.steps ax && (m.axis ax).out
  | .home h => Timer.out (h.axis ax).interval

/-- The settle time of a motion has run out (R81). -/
def settleDue (s : State) : Bool :=
  match s.table.op.motion with
  | some m => m.state == .settling && Timer.out m.settle
  | none => false

/-- The home limit has run out with the guard closed (R91). -/
def homeDue (s : State) : Bool :=
  match s.table.op with
  | .home h => Timer.out h.limit && !s.inputs.guardOpen
  | _ => false

/-- The transfer limit has run out while it runs (R128). -/
def transferDue (s : State) : Bool :=
  limitRuns s && (match s.boards.transfer with | some t => Timer.out t.limit | none => false)

/-- The status interval has run out with no STATUS queued (R151). -/
def statusDue (s : State) : Bool :=
  (match s.line.statusTimer with
   | some t => decide (Config.statusMicros ≤ t)
   | none => false) && !statusQueued s

/-- The part's own commands that are due, in order of preference (log 3, 4). -/
def due (s : State) : List Instr :=
  dueWhen (stepDue s .x) (.axisStep .x) ++ dueWhen (stepDue s .y) (.axisStep .y) ++ dueWhen (settleDue s) .settleExpiry ++
  dueWhen (mayOpenClamp s) .withdrawClampOpen ++ dueWhen (mayRestore s) .restoringTurnStart ++
  dueWhen (mayStart s && (chooseKind s).isSome) .revolutionStart ++
  dueWhen (Timer.out s.stroke.markTimer) .markTimeoutExpiry ++ dueWhen (Timer.out s.stroke.chainTimer) .chainTimerExpiry ++
  actuators.flatMap (fun a => dueWhen (Timer.out (s.stroke.act a).timer) (.actuatorTimerExpiry a)) ++
  dueWhen (Timer.out s.stroke.gateTimer) .gateHoldLimitExpiry ++ dueWhen (homeDue s) .homeLimitExpiry ++
  dueWhen (Timer.out s.boards.qualify) .lineIndex ++ dueWhen (transferDue s) .transferLimitExpiry ++
  dueWhen (Timer.out s.boards.passWait) .passportWaitExpiry ++
  (List.range 15).flatMap (fun n => dueWhen (Timer.out (rosterAt s (n + 1)).silence) (.silenceExpiry (n + 1))) ++
  dueWhen (statusDue s) .statusIntervalExpiry

/-- What the part does with no command waiting: the first of its own commands that is due joins the queue, or a
microsecond passes (log 1). -/
def idle (s : State) : State :=
  match due s with
  | c :: _ => s.setPending [c]
  | [] => tick s

end Sys2Proof.Machine
end

