-- ==== Sys2Proof/Safety.lean ====
section
/-! DEFINITION. The terms in which statements speak of a run: the hold line's rule (R125, R126), the part's capacities and
the laws that the chapters say the part keeps (R2, R34, R79, R121) as invariants; what a command's end leaves alone (log 5); the
requests with their codes and lengths (R195); and the frames a station can form (R143, R194). -/

namespace Sys2Proof
namespace Machine

/-! ### Invariants -/

/-- The index hold line: the part pulls it exactly while a condition of R125 holds, and while the part pulls it the line
is not seen released and no qualification runs (R125, R126; log 26). -/
def HoldInv (s : State) : Prop :=
  s.boards.pulled = (holdConditions s).any ∧
  (s.boards.pulled = true → s.inputs.lineReleased = false ∧ s.boards.qualify = none)

/-- The lists of a context within their capacities (R55, R120). -/
def Context.fits (c : Context) : Bool :=
  decide (c.adopted.length ≤ 16) && decide (c.retry.length ≤ 8) && decide (c.entryCount ≤ 32)

/-- The committed count of a bank is at most its declared count, and that at most 512 (R1, R6). -/
def Bank.fits (v : Bank) : Bool := decide (v.steps.length ≤ v.declared) && decide (v.declared ≤ 512)

/-- The open block belongs to a LOADING bank that lacks at least its size of 1..32 steps, and has received no more (R1, R8,
R9). -/
def OpenBlock.fits (st : Store) (ob : OpenBlock) : Bool :=
  (st.bank ob.bank).state == .loading && within 1 ob.size 32 && decide (ob.steps.length ≤ ob.size) &&
  decide ((st.bank ob.bank).steps.length + ob.size ≤ (st.bank ob.bank).declared)

/-- The frames of the normal queue that are open to replacement (R147). -/
def Line.openNormal (l : Line) : List Frame := if l.begunNormal then l.normal.drop 1 else l.normal

/-- The sizes of the part's storage: the record counts (R1, R19, R20, R32, R118, R142), the capacities of the urgent queue, the
alarm list and the report queue (R146, R176, R189), the ranges of the counts that wrap (R183, R189, R196), and a station is
UNCONFIGURED exactly until it holds a setup record (R164, R182). -/
structure Sized (s : State) : Prop where
  /-- 255 part table entries (R1). -/
  parts : s.store.parts.length = 255
  /-- 64 dispenser records (R19). -/
  dispensers : s.disp.records.length = 64
  /-- 16 group records (R20). -/
  groups : s.disp.groups.length = 16
  /-- Pmax + 1 clip records once set up, none before (R32). -/
  clips : s.chain.clips.length = (match s.console.setup with | some c => c.pmax + 1 | none => 0)
  /-- Five context slots (R118). -/
  slots : s.boards.slots.length = 5
  /-- 15 roster entries (R142). -/
  roster : s.line.roster.length = 15
  /-- The urgent queue holds up to 8 frames (R146). -/
  urgent : s.line.urgent.length ≤ 8
  /-- The alarm list holds up to 16 entries (R176). -/
  alarms : s.jam.alarms.length ≤ 16
  /-- The report queue holds up to 16 reports (R189). -/
  reports : s.console.reports.length ≤ 16
  /-- The report number is 0..65535 (R189). -/
  reportNumber : s.console.nextReport < 65536
  /-- The response number is 0..255 (R183). -/
  responseNumber : s.console.response.number < 256
  /-- The request tag is 0..7 (R196). -/
  tag : s.chain.tagCount < 8
  /-- UNCONFIGURED exactly until setup is done (R164, R182). -/
  configured : s.jam.run = .unconfigured ↔ s.console.setup = none

/-- The storage the spec gives the part keeps its shape: its sizes, and the capacities of the lists of a context, of the banks
with the open block, and of the normal queue (R1, R55, R120, R147). -/
structure Shape (s : State) : Prop extends Sized s where
  /-- A context holds up to 16 adopted items, 8 retries and 32 passport entries (R55, R120). -/
  contexts : ∀ i c, ctxAt s i = some c → c.fits = true
  /-- No bank has more steps than it declares (R1). -/
  banks : ∀ b, (s.store.bank b).fits = true
  /-- The open block fits its bank (R1). -/
  block : ∀ ob, s.store.block = some ob → ob.fits s.store = true
  /-- The normal queue holds ANNOUNCE and STATUS frames (R147). -/
  normalKinds : s.line.normal.all (fun f => f.isAnnounce || f.isStatus) = true
  /-- At most 7 of them are ANNOUNCE frames (R147). -/
  announces : (s.line.normal.filter Frame.isAnnounce).length ≤ 7
  /-- At most one is a STATUS, beside one whose transmission has begun (R147; log 13). -/
  statuses : (s.line.openNormal.filter Frame.isStatus).length ≤ 1

/-- An axis whose counter is `cur` issues no step past a limit in its motion (R79). -/
def AxisMotion.fits (cur limit : Nat) : AxisMotion → Bool
  | .done _ _ _ => true
  | .profile up n k _ => !up || decide (cur + (n - k + 1) ≤ limit)
  | .stopping up _ _ j _ => !up || decide (cur + (j + 1) ≤ limit)

/-- A motion runs toward a target within the travel, and neither axis past its travel (R79). -/
def Motion.fits (s : State) (m : Motion) : Bool :=
  decide (m.tx ≤ travel s .x) && decide (m.ty ≤ travel s .y) && m.x.fits s.table.x (travel s .x) &&
  m.y.fits s.table.y (travel s .y)

/-- An axis in the search phase of HOME has a step left before its travel (R79, R90). -/
def HomeAxis.fits (cur limit : Nat) (v : HomeAxis) : Bool := v.phase != .search || decide (cur + 1 ≤ limit)

/-- The table operation issues no step past a travel limit (R79). -/
def Operation.fits (s : State) : Operation → Bool
  | .none => true
  | .move _ m => m.fits s
  | .jog _ _ m => m.fits s
  | .home h => h.x.fits s.table.x (travel s .x) && h.y.fits s.table.y (travel s .y)

/-- Nothing in a context is INSERTED or MADE_UP. -/
def Context.untouched (c : Context) : Bool :=
  (c.own.all fun o => o.state != .inserted) && (c.adopted.all fun a => a.state != .inserted) &&
  (c.entries.all fun e => match e.state with | .madeUp _ => false | .opened | .claimed _ => true)

/-- The laws that chapters 01, 02, 05 and 07 say the part keeps, with what carries them from step to step. -/
structure Lawful (s : State) : Prop where
  /-- A bank that a context references is READY (R2). -/
  bound : ∀ i c b, ctxAt s i = some c → c.bank = some b → (s.store.bank b).state = .ready
  /-- An item key is referenced by at most one live clip (R34). -/
  liveOnce : ∀ p q i j, (clipAt s p).live = some i → (clipAt s q).live = some j → i.key = j.key → p = q
  /-- Each counter stays within its axis's travel (R79). -/
  counters : ∀ ax, s.table.counter ax ≤ travel s ax
  /-- The operation in progress issues no step past the travel (R79). -/
  operation : s.table.op.fits s = true
  /-- The targets of live clips lie within the travel (R67, R79). -/
  poses : ∀ p i, (clipAt s p).live = some i → i.pose.tx ≤ travel s .x ∧ i.pose.ty ≤ travel s .y
  /-- A configured station has a travel of at least 1 on each axis (R186). -/
  travels : ∀ c, s.console.setup = some c → 1 ≤ c.travelX ∧ 1 ≤ c.travelY
  /-- Before SETUP no table operation is in progress (R185). -/
  idle : s.console.setup = none → s.table.op = .none
  /-- Nothing is INSERTED or MADE_UP in an EXPECTED context: its board has not come to the station (R119, R124, R132). -/
  untouched : ∀ i c, ctxAt s i = some c → c.state = .expected → c.untouched = true
  /-- A board that the item in the jaws refers to is held here and no longer EXPECTED (R102, R116). -/
  jaws : ∀ k b p f o, s.stroke.jaw = .item k (some b) p f o → ∃ c, ctxAt s b = some c ∧ c.state ≠ .expected

/-- What is final in a context stays as it is in a later one of the same board: an item INSERTED stays INSERTED, and a passport
entry MADE_UP keeps its station or is gone with the list that held it (R121, R132). The own items are those of a bound
context: one that waits for its bank has none (R118). -/
structure Context.Keeps (c c' : Context) : Prop where
  own : c.noProgram = false → ∀ i, c.ownState i = some .inserted → c'.ownState i = some .inserted
  adopted : ∀ k a, c.adoptedFor k = some a → a.state = .inserted → (c'.adoptedFor k).map (·.state) = some .inserted
  entry : ∀ k n, c.entryState k = some (.madeUp n) → c'.entryState k = some (.madeUp n) ∨ c'.entryState k = none

/-- A state in which every rule about the part's storage, its laws and its hold line stands. -/
def Safe (s : State) : Prop := HoldInv s ∧ Shape s ∧ Lawful s

/-! ### What the end of a command leaves alone (log 5) -/

/-- A context without the two flags that the finishing test sets, its cursor at the next PENDING step (R48, R134). -/
def Context.unjudged (c : Context) : Context := { c.walk with finished := false, planClosed := false }

/-- The HOME or JOG in progress; none while the operation is NONE or MOVE (R78). -/
def Operation.requested : Operation → Option Operation
  | .home h => some (.home h)
  | .jog ax c m => some (.jog ax c m)
  | .none => Option.none
  | .move _ _ => Option.none

/-- The part of the state that the consequences at the end of a command never change (log 5): all of it but the flags of
the finished board, the aimed move and actuator commands with the positioning record, a hold at GATE released, a stop
completed, the index hold line with its NOTE, and the queued STATUS. -/
structure Work where
  store : Store
  disp : DispUnit
  chain : Chain
  planner : PassSummary
  rates : Option Rates
  last : LastPose
  clean : Option Nat
  holdMark : Bool
  x : Nat
  y : Nat
  phaseX : Option Nat
  phaseY : Option Nat
  homeValid : Bool
  requested : Option Operation
  rev : Option Revolution
  restoreLast : Option Mark
  restoreHeld : Bool
  chainStep : ChainStep
  chainTimer : Timer
  jaw : Jaw
  missCount : Nat
  revCount : Nat
  outs : Bool × Bool × Bool × Bool
  contexts : List (Option Context)
  passIn : Option PassIn
  passOut : List Frame
  load : Option LoadSlot
  transfer : Option Transfer
  passWait : Timer
  clamp : Bool × Bool × Bool
  urgent : List Frame
  roster : List RosterEntry
  counts : Nat × Nat
  statusTimer : Option Nat
  sending : Option Sending
  begunNormal : Bool
  stops : List AlarmEntry
  unrecordedHalt : Bool
  purgeCount : Nat
  setup : Option Setup
  response : Response
  levels : Inputs
  pending : List Instr
  deriving DecidableEq, Repr

/-- What the end of a command leaves alone, of a state. -/
def State.work (s : State) : Work :=
  { store := s.store, disp := s.disp, chain := s.chain, planner := s.planner, rates := s.pose.rates, last := s.pose.last,
    clean := s.pose.clean, holdMark := s.pose.holdMark, x := s.table.x, y := s.table.y, phaseX := s.table.phaseX,
    phaseY := s.table.phaseY, homeValid := s.table.homeValid, requested := s.table.op.requested,
    rev := s.stroke.rev.map fun r => { r with leftGate := false }
    restoreLast := s.stroke.restoreLast, restoreHeld := s.stroke.restoreHeld, chainStep := s.stroke.chainStep,
    chainTimer := s.stroke.chainTimer, jaw := s.stroke.jaw, missCount := s.stroke.missCount, revCount := s.stroke.revCount,
    outs := (s.stroke.jawOut, s.stroke.descentOut, s.stroke.clinchOut, s.stroke.chainDriveOut),
    contexts := s.boards.slots.map fun o => o.map Context.unjudged
    passIn := s.boards.passIn, passOut := s.boards.passOut, load := s.boards.load, transfer := s.boards.transfer,
    passWait := s.boards.passWait, clamp := (s.boards.clampOut, s.boards.clampWanted, s.boards.withdrawOpen),
    urgent := s.line.urgent, roster := s.line.roster, counts := (s.line.rxErrors, s.line.announceLoss),
    statusTimer := s.line.statusTimer, sending := s.line.sending,
    begunNormal := s.line.begunNormal, stops := s.jam.alarms.filter (·.cls.stop),
    unrecordedHalt := s.jam.unrecordedHalt, purgeCount := s.jam.purgeCount, setup := s.console.setup,
    response := s.console.response, levels := { s.inputs with lineReleased := false }, pending := s.pending }

/-- The run state settled: the end of a command moves a station out of STOPPING and HALTING alone (R167, R168, R170). -/
def RunState.settled : RunState → Bool
  | .stopping | .halting => false
  | .unconfigured | .idle | .ready | .running | .halted => true

/-! ### Requests (R195) -/

end Machine

/-- A console request with its code, its fixed body length and the bytes after its code; none for the null code, a code
that names no request, and the events of the other pins (R183, R195). -/
def Instr.request : Instr → Option (Byte × Nat × List Byte)
  | .setup b => some (0x01, 131, b)
  | .readStatus b => some (0x02, 0, b)
  | .readReports b => some (0x03, 1, b)
  | .bankOpen b => some (0x10, 53, b)
  | .blockBegin b => some (0x11, 2, b)
  | .stepRecord b => some (0x12, 14, b)
  | .blockCommit b => some (0x13, 1, b)
  | .bankClose b => some (0x14, 1, b)
  | .bankClearAbort b => some (0x15, 1, b)
  | .bankErase b => some (0x16, 1, b)
  | .partEntry b => some (0x17, 8, b)
  | .reelLoad b => some (0x20, 4, b)
  | .serviceBegin b => some (0x21, 1, b)
  | .serviceEnd b => some (0x22, 1, b)
  | .lock b => some (0x23, 1, b)
  | .unlock b => some (0x24, 1, b)
  | .releaseGroup b => some (0x25, 1, b)
  | .readDispenser b => some (0x26, 1, b)
  | .home b => some (0x30, 0, b)
  | .jog b => some (0x31, 4, b)
  | .readPosition b => some (0x32, 0, b)
  | .boardLoad b => some (0x40, 7, b)
  | .boardWithdraw b => some (0x41, 4, b)
  | .imageSkip b => some (0x42, 5, b)
  | .readBoard b => some (0x43, 4, b)
  | .start b => some (0x50, 0, b)
  | .stop b => some (0x51, 1, b)
  | .runReset b => some (0x52, 0, b)
  | .alarmAck b => some (0x53, 2, b)
  | .alarmClear b => some (0x54, 2, b)
  | .readAlarms b => some (0x55, 0, b)
  | _ => none

/-- The requests that a station without a setup record refuses (R185). -/
def Instr.needsSetup : Instr → Bool
  | .reelLoad _ | .serviceBegin _ | .serviceEnd _ | .lock _ | .unlock _ | .releaseGroup _ | .home _ | .jog _
  | .boardLoad _ | .boardWithdraw _ | .imageSkip _ | .start _ | .stop _ | .runReset _ => true
  | _ => false

/-- The requests of the program store (R1). -/
def Instr.ofStore : Instr → Bool
  | .bankOpen _ | .blockBegin _ | .stepRecord _ | .blockCommit _ | .bankClose _ | .bankClearAbort _ | .bankErase _
  | .partEntry _ => true
  | _ => false

namespace Machine

/-- The result codes that refuse a request (R184). -/
def ResultCode.refuses : ResultCode → Bool
  | .refusedState | .refusedRange | .refusedInUse | .refusedFull | .unknownRequest => true
  | .done | .started | .blockAborted => false

/-- The bytes of a request after its code, with bytes beyond the body that the part ignores (R183). -/
def framed (body extra : List Byte) : List Byte := requestBytes body ++ extra

/-! ### Alarms (R169, R175) -/

/-- The state `t` follows `s` by a STOP alarm of a class and source: the station halts, its qualifier is gone, and the new entry
stands last among the STOP entries of the list, ACTIVE, counted once, with the revolution count (R169, R175). -/
def HaltedBy (s t : State) (c : AlarmClass) (src : AlarmSource) : Prop :=
  (t.jam.run = .halting ∨ t.jam.run = .halted) ∧ t.jam.qualifier = none ∧
  ∃ n, t.work.stops = s.work.stops ++
    [{ number := n, cls := c, source := src, firstRev := s.stroke.revCount, count := 1, acked := false }]

/-- A dispenser fired into the clip at a position: the drop is outstanding (R27). -/
def Dispenser.fired (pos : Nat) (r : Dispenser) : Dispenser := { r with outstanding := some pos }

/-! ### Frames a station can form (R143, R148, R194) -/

/-- Item data in the ranges of a frame. -/
def ItemData.wf (d : ItemData) : Bool :=
  within 1 d.key.owner 15 && decide (d.key.step ≤ 4095) && decide (d.image ≤ 7) && d.holes.inRange &&
  within 1 d.part 255 && decide (d.span ≤ 42)

/-- A serial in range; `lowest` is 1 where serial 0 is none. -/
def serialWf (lowest serial : Nat) : Bool := decide (lowest ≤ serial) && decide (serial < 4294967296)

/-- A passport entry state in the ranges of a frame. -/
def EntryState.wf : EntryState → Bool
  | .opened => true
  | .claimed n | .madeUp n => within 1 n 15

/-- A frame's content in the ranges that its payload carries. -/
def Frame.wf : Frame → Bool
  | .withdraw n => serialWf 1 n
  | .claim k image => serialWf 1 k.serial && within 1 k.owner 15 && decide (k.step ≤ 4095) && decide (image ≤ 7)
  | .owe d => serialWf 1 d.key.serial && d.wf
  | .announce n p position _ => serialWf 1 n && within 1 p 65535 && decide (position ≤ 15)
  | .passportHead h =>
    serialWf 0 h.serial && decide (h.programId ≤ 65535) && decide (h.count ≤ 32) && !h.skipped.getLsbD 0
  | .passportEntry index e => serialWf 0 e.item.key.serial && decide (index ≤ 31) && e.item.wf && e.state.wf
  | .status c => serialWf 0 c.serial

end Machine
end Sys2Proof
end

