-- ==== Sys2Proof/Certificates/Slice0/Obligations.lean ====
section
/-! DEFINITION. The statements for the provers. The rules R<n> are those of spec/; a statement that rests on a choice of the
model names the log entry in notes/assumptions/. -/

open Sys2Proof Sys2Proof.Machine

/-! ### The port: steps, reset, requests -/

/-- O1. A step with a command at the front of the queue is that command's meaning on the state with the rest of the queue. -/
def Obligations.StepRunsTheFrontCommand : Prop :=
  ∀ (s : State) (c : Instr) (rest : List Instr), s.pending = c :: rest → step s = exec c (s.setPending rest)

/-- O2. The model's choice (log 1): with no command waiting, the first of the part's own commands that is due joins the queue;
with none due a microsecond passes: every running timer has one microsecond less left, the status interval and the
revolution's time count one up, and nothing else changes. The intervals and the settle time of a motion run down, and HOME's
limit with the guard closed; the positioning countdown unless the move is HELD; the transfer limit while it runs. -/
def Obligations.EmptyQueueLetsTimePass : Prop :=
  ∀ s : State, s.pending = [] →
    (∀ c rest, due s = c :: rest → step s = .next (s.setPending [c])) ∧
    (due s = [] → ∃ t, step s = .next t ∧ t.store = s.store ∧ t.disp = s.disp ∧ t.chain = s.chain ∧
      t.planner = s.planner ∧ t.jam = s.jam ∧ t.console = s.console ∧ t.inputs = s.inputs ∧ t.pending = [] ∧
      t.pose.positioning = s.pose.positioning.map (fun r => if motionHeld s then r else { r with r := r.r - 1 }) ∧
      t.pose = { s.pose with positioning := t.pose.positioning } ∧
      t.table = { s.table with op := s.table.op.tick s.inputs.guardOpen } ∧
      t.stroke = { s.stroke with
        rev := s.stroke.rev.map fun r => { r with elapsed := capAt 16777215 (r.elapsed + 1) }
        markTimer := s.stroke.markTimer.map (· - 1), chainTimer := s.stroke.chainTimer.map (· - 1)
        gateTimer := s.stroke.gateTimer.map (· - 1), bearing := t.stroke.bearing, headSpan := t.stroke.headSpan
        clinchSpan := t.stroke.clinchSpan, clinchMode := t.stroke.clinchMode } ∧
      (∀ a, t.stroke.act a = { s.stroke.act a with timer := (s.stroke.act a).timer.map (· - 1) }) ∧
      t.boards.transfer = s.boards.transfer.map
        (fun x => if limitRuns s then { x with limit := x.limit.map (· - 1) } else x) ∧
      t.boards = { s.boards with
        transfer := t.boards.transfer
        qualify := s.boards.qualify.map (· - 1), passWait := s.boards.passWait.map (· - 1) } ∧
      t.line = { s.line with
        roster := s.line.roster.map fun e => { e with silence := e.silence.map (· - 1) }
        statusTimer := s.line.statusTimer.map (· + 1) })

/-- O3. PIN_RESET: every block takes its pin-reset values from any state; the tape-end levels and the input levels follow
their inputs (R19, R26; log 8, 9, 25), and the queue of the model stays. -/
def Obligations.PinResetPutsEveryBlockAtItsResetValues : Prop :=
  ∀ s : State, ∃ t, exec .pinReset s = .next t ∧
    t.store = Store.initial ∧ t.disp.groups = DispUnit.initial.groups ∧
    t.disp.records = s.disp.records.map (fun r => { Dispenser.initial with tapeEnd := r.tapeEnd }) ∧
    t.chain = Chain.initial ∧ t.planner = PassSummary.initial ∧ t.pose = PoseUnit.initial ∧ t.table = Table.initial ∧
    t.stroke = Stroke.initial ∧ t.boards = Boards.initial ∧ t.line = Line.initial ∧ t.jam = Jam.initial ∧
    t.console = Console.initial ∧ t.inputs = { s.inputs with clampClosed := false, lineReleased := false } ∧
    t.pending = s.pending

/-- O4. The state after reset meets the invariants: the rule of the hold line, the shape of the storage, and the laws of the
chapters. -/
def Obligations.ResetIsSafe : Prop := Safe State.reset

/-- O5. Every step keeps the rule of the index hold line: the part pulls it exactly while a condition of R125 holds, and while
the part pulls it no qualification of a line index runs (R126). -/
def Obligations.EveryStepKeepsTheHoldLineRule : Prop :=
  ∀ s t : State, HoldInv s → step s = .next t → HoldInv t

/-- O6. Every step keeps the shape of the part's storage: the record counts, the capacities of the queues and lists, the ranges
of the counts that wrap, and that UNCONFIGURED and the absence of a setup record go together. With it every step keeps the laws
of the chapters: a bank that a context references is READY (R2), an item key is live in one clip at most (R34), the counters
stay within the travel (R79), nothing is INSERTED or MADE_UP in an EXPECTED context (R119, R124, R132), and a board that the item
in the jaws refers to is held and no longer EXPECTED (R102, R116). And in a context that goes on with its board, with nothing
INSERTED or MADE_UP in it while EXPECTED, what is INSERTED or MADE_UP is final (R121). -/
def Obligations.EveryStepKeepsTheShapeOfTheStorage : Prop :=
  (∀ s t : State, Shape s → step s = .next t → Shape t) ∧
  (∀ s t : State, Shape s → Lawful s → step s = .next t → Lawful t) ∧
  (∀ (s t : State) (slot : Nat) (c c' : Context), step s = .next t → ctxAt s slot = some c → ctxAt t slot = some c' →
    (c.state = .expected → c.untouched = true) →
    c.serial ≠ 0 → c'.serial = c.serial → c'.programId = c.programId → c.Keeps c')

/-- O7. No command ends the run: every command has an effect in every state. -/
def Obligations.EveryCommandAnswersANextState : Prop :=
  ∀ (c : Instr) (s : State), ∃ t, exec c s = .next t

/-- O8. The port's own checks (R183, R185): a frame that ends early or whose length byte differs from the request's body length
is answered REFUSED_RANGE; a request that needs a configured station is answered REFUSED_STATE before SETUP. -/
def Obligations.ThePortRefusesMalformedAndUnconfiguredRequests : Prop :=
  ∀ (c : Instr) (code : Byte) (len : Nat) (bytes : List Byte) (s : State), c.request = some (code, len, bytes) →
    (bytes = [] → exec c s = .next (respond s .refusedRange code .empty)) ∧
    (∀ n rest, bytes = n :: rest → (n.toNat ≠ len ∨ rest.length < n.toNat) →
      exec c s = .next (respond s .refusedRange code .empty)) ∧
    (∀ body extra, bytes = framed body extra → body.length = len → c.needsSetup = true → s.jam.run = .unconfigured →
      exec c s = .next (respond s .refusedState code .empty))

/-- O9. Every request is answered: the response buffer holds its code and the next response number (R183). -/
def Obligations.EveryRequestIsAnsweredUnderItsCode : Prop :=
  ∀ (c : Instr) (code : Byte) (len : Nat) (bytes : List Byte) (s : State), c.request = some (code, len, bytes) →
    ∃ t, exec c s = .next t ∧ t.console.response.code = code ∧
      t.console.response.number = (s.console.response.number + 1) % 256

/-- O10. A refused request changes no state but the response buffer (R184). -/
def Obligations.ARefusalChangesTheResponseAlone : Prop :=
  ∀ (c : Instr) (code : Byte) (len : Nat) (bytes : List Byte) (s t : State), c.request = some (code, len, bytes) →
    exec c s = .next t → t.console.response.result.refuses = true →
    t = s.setConsole { s.console with response := t.console.response }

/-- O11. A transaction without a complete first byte, or with the null code first, is a read and changes no state; a code that
names no request is answered UNKNOWN_REQUEST, and no other state changes (R183). That it is so for a frame that ends early too is
the model's choice (log 70). -/
def Obligations.ReadsAndUnknownCodes : Prop :=
  ∀ (s : State) (bytes : List Byte) (code : Byte),
    exec (.readTransaction bytes) s = .next s ∧
    exec (.unknownRequest code bytes) s = .next (s.setConsole { s.console with
      response := { result := .unknownRequest, code := code, number := (s.console.response.number + 1) % 256,
                    body := .empty } })

/-- O12. Whole-machine ownership: no command touches the queue; but for PIN_RESET, only the program store's requests change the
store, only SETUP changes the setup record, and only a request changes the response buffer (R1, R183, R187). -/
def Obligations.OnlyTheOwnersChangeStoreSetupAndResponse : Prop :=
  ∀ (c : Instr) (s t : State), exec c s = .next t →
    t.pending = s.pending ∧
    (c ≠ .pinReset →
      (c.ofStore = false → t.store = s.store) ∧
      ((∀ b, c ≠ .setup b) → t.console.setup = s.console.setup) ∧
      (c.request = none → (∀ n b, c ≠ .unknownRequest n b) → t.console.response = s.console.response))

/-- O13. SETUP in UNCONFIGURED with every field in range configures the blocks (R187): the run state becomes IDLE, each dispenser
takes its position and one at position 0 becomes ABSENT, the chain plan has Pmax + 1 UNKNOWN records, the rate tables are
built, the station's own roster entry is present, both queues are emptied and a STATUS is queued. A field out of range is
answered REFUSED_RANGE, and a SETUP in any other run state REFUSED_STATE. -/
def Obligations.SetupConfiguresTheBlocks : Prop :=
  ∀ (s : State) (body extra : List Byte), body.length = 131 →
    (∀ c, s.jam.run = .unconfigured → parseSetup body = some c → ∃ t,
      exec (.setup (framed body extra)) s = .next t ∧
      t.work = { s.work with
        setup := some c, purgeCount := 0
        disp := { s.disp with records := placeAll s.disp.records c.positions }
        chain := { s.chain with clips := List.replicate (c.pmax + 1) .unknown, purgeRequired := true }
        rates := some { x := rateTable c.rampX, y := rateTable c.rampY }
        last := { s.pose.last with valid := false }
        homeValid := false, urgent := [], begunNormal := false, statusTimer := some 0
        roster := s.line.roster.modify (c.station - 1) fun _ => { present := true, silence := none, last := none }
        response := { result := .done, code := 0x01, number := (s.console.response.number + 1) % 256, body := .empty } } ∧
      t.jam.run = .idle ∧
      t.line.normal = [.status { run := .idle, serial := currentSerial t, holding := t.boards.pulled,
                                 alarm := activeStop t }]) ∧
    (s.jam.run = .unconfigured → parseSetup body = none →
      exec (.setup (framed body extra)) s = .next (respond s .refusedRange 0x01 .empty)) ∧
    (s.jam.run ≠ .unconfigured → exec (.setup (framed body extra)) s = .next (respond s .refusedState 0x01 .empty))

/-- O14. READ_STATUS, READ_POSITION, READ_DISPENSER and READ_BOARD return their snapshot and change no state (R25, R94, R140,
R188); a dispenser above 63 is out of range, and a serial not held is answered REFUSED_STATE. That READ_DISPENSER of an ABSENT
dispenser is answered REFUSED_STATE is the model's choice (log 7): section 2.1 has an ABSENT dispenser answer every request that
names it so, and R25 takes the read in every run state. The retry counts at the end of READ_STATUS are log 46,
and which of two UNIDENTIFIED contexts serial 0 reads is log 63, both the model's choice. -/
def Obligations.SnapshotsAreReadWithoutChange : Prop :=
  ∀ (s : State) (extra : List Byte),
    exec (.readStatus (framed [] extra)) s = .next (respond s .done 0x02 (.status (statusReply s))) ∧
    exec (.readPosition (framed [] extra)) s = .next (respond s .done 0x32 (.position
      { x := s.table.x, y := s.table.y, moving := tableMoving s, settled := tableSettled s, homeValid := s.table.homeValid,
        phaseX := s.table.phaseX, phaseY := s.table.phaseY, op := s.table.op.name, moveState := s.table.op.moveState })) ∧
    (∀ d : Byte, d.toNat ≤ 63 → (dispAt s d.toNat).state ≠ .absent →
      exec (.readDispenser (framed [d] extra)) s = .next (respond s .done 0x26 (.dispenser
        { position := (dispAt s d.toNat).position, state := (dispAt s d.toNat).state, part := (dispAt s d.toNat).part,
          quantity := (dispAt s d.toNat).quantity, faults := (dispAt s d.toNat).faults,
          totalDrops := (dispAt s d.toNat).totalDrops, tapeEnd := (dispAt s d.toNat).tapeEnd,
          dropOutstanding := (dispAt s d.toNat).outstanding.isSome, available := available s d.toNat,
          groupFaults := (groupAt s (d.toNat / 4)).faults,
          groupQuarantined := (groupAt s (d.toNat / 4)).quarantined }))) ∧
    (∀ d : Byte, 63 < d.toNat →
      exec (.readDispenser (framed [d] extra)) s = .next (respond s .refusedRange 0x26 .empty)) ∧
    (∀ d : Byte, d.toNat ≤ 63 → (dispAt s d.toNat).state = .absent →
      exec (.readDispenser (framed [d] extra)) s = .next (respond s .refusedState 0x26 .empty)) ∧
    (∀ body slot c, body.length = 4 → boardToRead s (at32 body 0) = some slot → ctxAt s slot = some c →
      exec (.readBoard (framed body extra)) s = .next (respond s .done 0x43 (.board c))) ∧
    (∀ body, body.length = 4 → boardToRead s (at32 body 0) = none →
      exec (.readBoard (framed body extra)) s = .next (respond s .refusedState 0x43 .empty))

/-- O15. READ_ALARMS in any run state is answered DONE and changes no state (R180): the body holds the run state, the qualifier,
the list-overflow and unrecorded-halt flags, the purge-required flag and the purge count, the guard-hold flag, the lamp and
the horn, and every entry of the alarm list in list order. -/
def Obligations.ReadAlarmsReturnsTheSupervisorsState : Prop :=
  ∀ (s : State) (extra : List Byte),
    exec (.readAlarms (framed [] extra)) s = .next (s.setConsole { s.console with
      response :=
        { result := .done, code := 0x55, number := (s.console.response.number + 1) % 256
          body := .alarms
            { run := s.jam.run, qualifier := s.jam.qualifier, listOverflow := s.jam.listOverflow,
              unrecordedHalt := s.jam.unrecordedHalt, purgeRequired := s.chain.purgeRequired,
              purgeCount := s.jam.purgeCount, guardHold := s.inputs.guardOpen,
              lamp := !s.jam.alarms.isEmpty, horn := s.jam.alarms.any (fun e => e.cls.stop && !e.acked),
              alarms := s.jam.alarms } } })

/-- O16. READ_REPORTS hands out the oldest reports, tells how many are left and the overflow flag as it stood, and clears the
flag when it leaves the queue empty; a count outside 1..16 is answered REFUSED_RANGE (R190). -/
def Obligations.ReadReportsHandsOutTheOldest : Prop :=
  ∀ (s : State) (n : Byte) (extra : List Byte),
    (1 ≤ n.toNat → n.toNat ≤ 16 →
      exec (.readReports (framed [n] extra)) s = .next (s.setConsole { s.console with
        reports := s.console.reports.drop n.toNat
        overflow := if s.console.reports.drop n.toNat = [] then false else s.console.overflow
        response :=
          { result := .done, code := 0x03, number := (s.console.response.number + 1) % 256
            body := .reports (s.console.reports.take n.toNat) (s.console.reports.length - n.toNat) s.console.overflow } })) ∧
    (n.toNat = 0 ∨ 16 < n.toNat →
      exec (.readReports (framed [n] extra)) s = .next (respond s .refusedRange 0x03 .empty))

/-! ### The program store (chapter 01) -/

/-- O17. BANK_OPEN with no block open, its fields in range, the bank not in use and EMPTY or READY, and the program id not READY
or LOADING in the other bank: the bank becomes LOADING with nothing committed. A bank in use is answered REFUSED_IN_USE and a
LOADING or ABORTED one REFUSED_STATE, and so is a program id that is READY or LOADING in the other bank (R6). A bank number above
1 (section 1.4), a program id 0, a declared count outside 1..512, and an image table with an entry out of range or none present
are answered REFUSED_RANGE. -/
def Obligations.BankOpenStartsALoad : Prop :=
  (∀ (s : State) (body extra : List Byte), body.length = 53 → 1 < at8 body 0 →
    exec (.bankOpen (framed body extra)) s = .next (respond s .refusedRange 0x10 .empty)) ∧
  (∀ (s : State) (body extra : List Byte), body.length = 53 → at8 body 0 ≤ 1 → s.store.block = none →
    (parseImages body = none ∨ parseImages body = some (List.replicate 8 none) ∨ at16 body 1 = 0 ∨ at16 body 3 = 0 ∨
      512 < at16 body 3) →
    exec (.bankOpen (framed body extra)) s = .next (respond s .refusedRange 0x10 .empty)) ∧
  ∀ (s : State) (body extra : List Byte) (b : BankId) (images : List (Option Image)),
    body.length = 53 → bankOfNat (at8 body 0) = some b → s.store.block = none →
    parseImages body = some images → images.any Option.isSome = true → 1 ≤ at16 body 1 →
    1 ≤ at16 body 3 → at16 body 3 ≤ 512 →
    (inUse s b = false → (s.store.bank b).state = .empty ∨ (s.store.bank b).state = .ready →
      ((s.store.bank b.other).state = .ready ∨ (s.store.bank b.other).state = .loading) →
      (s.store.bank b.other).programId = some (at16 body 1) →
      exec (.bankOpen (framed body extra)) s = .next (respond s .refusedState 0x10 .empty)) ∧
    (inUse s b = false → (s.store.bank b).state = .empty ∨ (s.store.bank b).state = .ready →
      (((s.store.bank b.other).state = .ready ∨ (s.store.bank b.other).state = .loading) →
        (s.store.bank b.other).programId ≠ some (at16 body 1)) →
      exec (.bankOpen (framed body extra)) s = .next (respond (s.setStore (s.store.setBank b
        { state := .loading, programId := some (at16 body 1), declared := at16 body 3, images := images, steps := [],
          abortCause := none })) .done 0x10 .empty)) ∧
    (inUse s b = true → exec (.bankOpen (framed body extra)) s = .next (respond s .refusedInUse 0x10 .empty)) ∧
    (inUse s b = false → (s.store.bank b).state = .loading ∨ (s.store.bank b).state = .aborted →
      exec (.bankOpen (framed body extra)) s = .next (respond s .refusedState 0x10 .empty))

/-- O18. BLOCK_BEGIN with no block open (R8): a bank that is not LOADING refuses; a size outside 1..32 or above what the bank
still lacks aborts the bank; any other size opens the block. While a block is open its bank aborts with SEQUENCE (R7). -/
def Obligations.BlockBeginOpensABlock : Prop :=
  ∀ (s : State) (x n : Byte) (extra : List Byte) (b : BankId), bankOfNat x.toNat = some b →
    (s.store.block = none → (s.store.bank b).state ≠ .loading →
      exec (.blockBegin (framed [x, n] extra)) s = .next (respond s .refusedState 0x11 .empty)) ∧
    (s.store.block = none → (s.store.bank b).state = .loading → (n.toNat = 0 ∨ 32 < n.toNat) →
      exec (.blockBegin (framed [x, n] extra)) s =
        .next (respond (abortBank s b .blockSize) .blockAborted 0x11 (.aborted b .blockSize))) ∧
    (s.store.block = none → (s.store.bank b).state = .loading → 1 ≤ n.toNat → n.toNat ≤ 32 →
      (s.store.bank b).declared < (s.store.bank b).steps.length + n.toNat →
      exec (.blockBegin (framed [x, n] extra)) s =
        .next (respond (abortBank s b .blockExcess) .blockAborted 0x11 (.aborted b .blockExcess))) ∧
    (s.store.block = none → (s.store.bank b).state = .loading → 1 ≤ n.toNat → n.toNat ≤ 32 →
      (s.store.bank b).steps.length + n.toNat ≤ (s.store.bank b).declared →
      exec (.blockBegin (framed [x, n] extra)) s = .next (respond
        (s.setStore { s.store with block := some { bank := b, size := n.toNat, steps := [] } }) .done 0x11 .empty)) ∧
    (∀ ob, s.store.block = some ob →
      exec (.blockBegin (framed [x, n] extra)) s =
        .next (respond (abortBank s ob.bank .sequence) .blockAborted 0x11 (.aborted ob.bank .sequence)))

/-- O19. STEP against the open block (R7, R9): a record that passes every check joins the block with its span index; the first
failed check aborts the bank with its cause; a STEP past the block's size aborts with STEP_EXCESS and one for the other bank
with WRONG_BANK; with no block open it is refused. A record that passes has one hole pair
on one axis, its stored span index is the detent within 4 g.u., and its step id is new to the bank (R4, R5). -/
def Obligations.StepJoinsTheOpenBlock : Prop :=
  (∀ (s : State) (body extra : List Byte) (b : BankId), body.length = 14 → bankOfNat (at8 body 0) = some b →
      (s.store.block = none → exec (.stepRecord (framed body extra)) s = .next (respond s .refusedState 0x12 .empty)) ∧
      (∀ ob, s.store.block = some ob → ob.bank ≠ b →
        exec (.stepRecord (framed body extra)) s =
          .next (respond (abortBank s ob.bank .wrongBank) .blockAborted 0x12 (.aborted ob.bank .wrongBank))) ∧
      (∀ ob, s.store.block = some ob → ob.bank = b → ob.steps.length = ob.size →
        exec (.stepRecord (framed body extra)) s =
          .next (respond (abortBank s b .stepExcess) .blockAborted 0x12 (.aborted b .stepExcess))) ∧
      (∀ ob cause, s.store.block = some ob → ob.bank = b → ob.steps.length < ob.size →
        stepDefect (s.store.bank b) ob.steps (parseStep body) = some cause →
        exec (.stepRecord (framed body extra)) s =
          .next (respond (abortBank s b cause) .blockAborted 0x12 (.aborted b cause))) ∧
      (∀ ob, s.store.block = some ob → ob.bank = b → ob.steps.length < ob.size →
        stepDefect (s.store.bank b) ob.steps (parseStep body) = none →
        exec (.stepRecord (framed body extra)) s = .next (respond
          (s.setStore { s.store with block := some { ob with steps := ob.steps ++ [(parseStep body).stored] } })
          .done 0x12 .empty))) ∧
  (∀ (v : Bank) (received : List StepRecord) (r : RawStep), stepDefect v received r = none →
    r.id ≤ 4095 ∧ r.image ≤ 7 ∧ 1 ≤ r.part ∧ r.holes.inRange = true ∧
    ¬ (r.holes.bX - r.holes.aX = 0 ↔ r.holes.bY - r.holes.aY = 0) ∧
    r.stored.span ≤ 42 ∧
    ((((r.holes.bX - r.holes.aX).natAbs + (r.holes.bY - r.holes.aY).natAbs : Nat) : Int) -
      (200 + 20 * (r.stored.span : Int))).natAbs ≤ 4 ∧
    (∀ x ∈ v.steps ++ received, x.id ≠ r.id))

/-- O20. BLOCK_COMMIT on the open block's bank with all its steps received appends them, in the order received, to the bank's
committed steps; the count rises by their number, the block is closed, and the bank keeps its state LOADING (R10). With steps
missing, or naming the other bank, it aborts the open block's bank with SEQUENCE; with no block open it is refused (R7). -/
def Obligations.BlockCommitAppendsTheBlock : Prop :=
  (∀ (c : Instr) (s t : State) (b : BankId), exec c s = .next t → (s.store.bank b).state ≠ .ready →
    (t.store.bank b).state = .ready → ∃ bytes, c = .bankClose bytes) ∧
  ∀ (s : State) (x : Byte) (extra : List Byte) (b : BankId), bankOfNat x.toNat = some b →
    (s.store.block = none → exec (.blockCommit (framed [x] extra)) s = .next (respond s .refusedState 0x13 .empty)) ∧
    (∀ ob, s.store.block = some ob → ob.bank ≠ b ∨ ob.steps.length < ob.size →
      exec (.blockCommit (framed [x] extra)) s =
        .next (respond (abortBank s ob.bank .sequence) .blockAborted 0x13 (.aborted ob.bank .sequence))) ∧
    (∀ ob, s.store.block = some ob → ob.bank = b → ob.steps.length = ob.size → ∃ t,
      exec (.blockCommit (framed [x] extra)) s = .next t ∧
      t = respond (s.setStore t.store) .done 0x13 .empty ∧
      t.store = { (s.store.setBank b (t.store.bank b)) with block := none } ∧
      t.store.bank b = { s.store.bank b with steps := (s.store.bank b).steps ++ ob.steps } ∧
      (t.store.bank b).steps.length = (s.store.bank b).steps.length + ob.size)

/-- O21. BANK_CLOSE of a LOADING bank with every declared step committed is answered DONE: the bank becomes READY, and the
EXPECTED NO_PROGRAM contexts that name its program are bound with their own items set up; on a PLAN_CLOSED one every item that
is not skipped is owed at that binding (R12, R16, R48). Every other context stays as it was, one that names another program
among them; and with no PLAN_CLOSED context to bind nothing else changes. With steps missing it aborts with SHORT_CLOSE, and a
bank that is not LOADING is refused. -/
def Obligations.BankCloseMakesTheBankReady : Prop :=
  ∀ (s : State) (x : Byte) (extra : List Byte) (b : BankId), bankOfNat x.toNat = some b → s.store.block = none →
    ((s.store.bank b).state ≠ .loading →
      exec (.bankClose (framed [x] extra)) s = .next (respond s .refusedState 0x14 .empty)) ∧
    ((s.store.bank b).state = .loading → (s.store.bank b).steps.length < (s.store.bank b).declared →
      exec (.bankClose (framed [x] extra)) s =
        .next (respond (abortBank s b .shortClose) .blockAborted 0x14 (.aborted b .shortClose))) ∧
    ((s.store.bank b).state = .loading → (s.store.bank b).steps.length = (s.store.bank b).declared → ∃ t,
      exec (.bankClose (framed [x] extra)) s = .next t ∧
      t.store = s.store.setBank b { s.store.bank b with state := .ready } ∧
      t.console.response =
        { result := .done, code := 0x14, number := (s.console.response.number + 1) % 256, body := .empty } ∧
      t.jam = s.jam ∧ t.disp = s.disp ∧ t.chain = s.chain ∧ t.table = s.table ∧ t.stroke = s.stroke ∧
      t.planner = s.planner ∧ t.pose = s.pose ∧ t.inputs = s.inputs ∧
      t.boards = { s.boards with slots := t.boards.slots } ∧ t.line = { s.line with urgent := t.line.urgent } ∧
      ((∀ i c, ctxAt s i = some c → c.noProgram = true → c.planClosed = false) →
        t.line.urgent = s.line.urgent ∧ t.console.reports = s.console.reports) ∧
      (∀ i c, i < 5 → ctxAt s i = some c →
        c.state = .expected → c.noProgram = true → (s.store.bank b).programId.isSome = true →
        c.programId = (s.store.bank b).programId → c.planClosed = false →
        ctxAt t i = some { c with bank := some b, noProgram := false, cursor := 0, retry := [],
                                  own := freshItems c.skipMask (s.store.bank b).steps }) ∧
      (∀ i c, i < 5 → ctxAt s i = some c →
        c.state = .expected → c.noProgram = true → (s.store.bank b).programId.isSome = true →
        c.programId = (s.store.bank b).programId → c.planClosed = true → ∃ c', ctxAt t i = some c' ∧
        c'.bank = some b ∧ c'.noProgram = false ∧ c'.planClosed = true ∧ c'.retry = [] ∧
        c'.cursor = (s.store.bank b).steps.length ∧
        c'.own = (freshItems c.skipMask (s.store.bank b).steps).map fun o =>
          if o.state = .pending then { o with state := .owed } else o) ∧
      (∀ i c, ctxAt s i = some c → (c.state ≠ .expected ∨ c.noProgram = false ∨
        c.programId ≠ (s.store.bank b).programId ∨ (s.store.bank b).programId = none) → ctxAt t i = some c))

/-- O22. BANK_CLEAR_ABORT returns an ABORTED bank to the EMPTY contents of R1 and refuses a bank in any other state; while a block
is open R7 governs; and BANK_OPEN on an ABORTED bank is refused with REFUSED_STATE (R13). -/
def Obligations.BankClearAbortEmptiesAnAbortedBank : Prop :=
  ∀ (s : State) (x : Byte) (extra : List Byte) (b : BankId), bankOfNat x.toNat = some b →
    (s.store.block = none → (s.store.bank b).state = .aborted →
      exec (.bankClearAbort (framed [x] extra)) s = .next (respond (s.setStore (s.store.setBank b
        { state := .empty, programId := none, declared := 0, images := List.replicate 8 none, steps := [],
          abortCause := none })) .done 0x15 .empty)) ∧
    (s.store.block = none → (s.store.bank b).state ≠ .aborted →
      exec (.bankClearAbort (framed [x] extra)) s = .next (respond s .refusedState 0x15 .empty)) ∧
    (∀ ob, s.store.block = some ob →
      exec (.bankClearAbort (framed [x] extra)) s =
        .next (respond (abortBank s ob.bank .sequence) .blockAborted 0x15 (.aborted ob.bank .sequence))) ∧
    (∀ body images, body.length = 53 → at8 body 0 = x.toNat → s.store.block = none → (s.store.bank b).state = .aborted →
      inUse s b = false → parseImages body = some images → images.any Option.isSome = true → 1 ≤ at16 body 1 →
      1 ≤ at16 body 3 → at16 body 3 ≤ 512 →
      exec (.bankOpen (framed body extra)) s = .next (respond s .refusedState 0x10 .empty))

/-- O23. BANK_ERASE (R14): a READY bank not in use and any ABORTED bank takes the EMPTY contents; a READY bank in use and an
EMPTY or LOADING bank stay as they were. While a block is open, BANK_OPEN, BANK_CLOSE and BANK_ERASE abort its bank (R7, R11). -/
def Obligations.BankEraseAndTheOpenBlock : Prop :=
  ∀ (s : State) (x : Byte) (extra : List Byte) (b : BankId), bankOfNat x.toNat = some b →
    (s.store.block = none →
      (s.store.bank b).state = .aborted ∨ ((s.store.bank b).state = .ready ∧ inUse s b = false) →
      exec (.bankErase (framed [x] extra)) s =
        .next (respond (s.setStore (s.store.setBank b Bank.emptied)) .done 0x16 .empty)) ∧
    (s.store.block = none → (s.store.bank b).state = .ready → inUse s b = true →
      exec (.bankErase (framed [x] extra)) s = .next (respond s .refusedInUse 0x16 .empty)) ∧
    (s.store.block = none → (s.store.bank b).state = .empty ∨ (s.store.bank b).state = .loading →
      exec (.bankErase (framed [x] extra)) s = .next (respond s .refusedState 0x16 .empty)) ∧
    (∀ ob body, s.store.block = some ob → body.length = 53 → at8 body 0 = x.toNat → ∃ t,
      t = s.setStore { (s.store.setBank ob.bank
            { s.store.bank ob.bank with state := .aborted, abortCause := some .sequence }) with block := none } ∧
      exec (.bankErase (framed [x] extra)) s = .next (respond t .blockAborted 0x16 (.aborted ob.bank .sequence)) ∧
      exec (.bankClose (framed [x] extra)) s = .next (respond t .blockAborted 0x14 (.aborted ob.bank .sequence)) ∧
      exec (.bankOpen (framed body extra)) s = .next (respond t .blockAborted 0x10 (.aborted ob.bank .sequence)))

/-- O24. PART_ENTRY in any run state (R17): with the present flag clear the entry becomes absent and the other fields are not
examined; with it set and every field in range the entry is replaced; otherwise REFUSED_RANGE and the table stays. -/
def Obligations.PartEntryWritesOneEntry : Prop :=
  ∀ (s : State) (body extra : List Byte), body.length = 8 →
    (1 ≤ at8 body 0 → at8 body 1 = 0 →
      exec (.partEntry (framed body extra)) s = .next (respond
        (s.setStore { s.store with parts := s.store.parts.set (at8 body 0 - 1) none }) .done 0x17 .empty)) ∧
    (∀ kind, 1 ≤ at8 body 0 → at8 body 1 = 1 → partKindOf (at8 body 2) = some kind → at8 body 3 ≤ 7 →
      at16 body 4 ≤ at16 body 6 →
      exec (.partEntry (framed body extra)) s = .next (respond
        (s.setStore { s.store with
          parts := s.store.parts.set (at8 body 0 - 1) (some (PartEntry.mk kind (at8 body 3) (at16 body 4) (at16 body 6))) })
        .done 0x17 .empty)) ∧
    (at8 body 0 = 0 ∨ 1 < at8 body 1 ∨
      (at8 body 1 = 1 ∧ (partKindOf (at8 body 2) = none ∨ 7 < at8 body 3 ∨ at16 body 6 < at16 body 4)) →
      exec (.partEntry (framed body extra)) s = .next (respond s .refusedRange 0x17 .empty))

/-! ### Dispensers and the chain (chapter 02) -/

/-- O25. REEL_LOAD (R21) and RELEASE_GROUP (R31) at a configured station: the reel's part and quantity are recorded and the fault
count becomes 0, a dispenser in SERVICE stays there and any other becomes READY or OUT by its tape-end level; a READY one is
refused in RUNNING. RELEASE_GROUP zeroes the group's count and clears QUARANTINED. -/
def Obligations.ReelLoadAndReleaseGroup : Prop :=
  ∀ (s : State) (extra : List Byte), s.jam.run ≠ .unconfigured →
    (∀ body, body.length = 4 → at8 body 0 ≤ 63 → 1 ≤ at8 body 1 → (dispAt s (at8 body 0)).state ≠ .absent →
      ((dispAt s (at8 body 0)).state = .ready → s.jam.run = .running →
        exec (.reelLoad (framed body extra)) s = .next (respond s .refusedState 0x20 .empty)) ∧
      (((dispAt s (at8 body 0)).state ≠ .ready ∨ s.jam.run ≠ .running) →
        ∃ st, (st = if (dispAt s (at8 body 0)).state = .service then .service
                    else if (dispAt s (at8 body 0)).tapeEnd then .out else .ready) ∧
          exec (.reelLoad (framed body extra)) s = .next (respond
            (modDisp s (at8 body 0) fun r =>
              { r with part := some (at8 body 1), quantity := at16 body 2, faults := 0, state := st })
            .done 0x20 (.dispenserState st)))) ∧
    (∀ body, body.length = 4 → (63 < at8 body 0 ∨ at8 body 1 = 0) →
      exec (.reelLoad (framed body extra)) s = .next (respond s .refusedRange 0x20 .empty)) ∧
    (∀ g : Byte, g.toNat ≤ 15 →
      exec (.releaseGroup (framed [g] extra)) s = .next (respond
        (modGroup s g.toNat fun _ => { faults := 0, quarantined := false }) .done 0x25 .empty)) ∧
    (∀ g : Byte, 15 < g.toNat →
      exec (.releaseGroup (framed [g] extra)) s = .next (respond s .refusedRange 0x25 .empty))

/-- O26. SERVICE_BEGIN, LOCK and UNLOCK change the dispenser's state alone, in the states that R22 and R24 name, and answer the
state that results; in the other states they are refused. -/
def Obligations.ServiceAndLockChangeTheState : Prop :=
  ∀ (s : State) (d : Byte) (extra : List Byte), s.jam.run ≠ .unconfigured → d.toNat ≤ 63 →
    ((dispAt s d.toNat).state ∈ [.unloaded, .ready, .out, .jammed] →
      exec (.serviceBegin (framed [d] extra)) s = .next (respond
        (modDisp s d.toNat fun r => { r with state := .service }) .done 0x21 (.dispenserState .service))) ∧
    ((dispAt s d.toNat).state ∈ [.service, .locked] →
      exec (.serviceBegin (framed [d] extra)) s = .next (respond s .refusedState 0x21 .empty)) ∧
    ((dispAt s d.toNat).state ∈ [.unloaded, .ready, .out] →
      exec (.lock (framed [d] extra)) s = .next (respond
        (modDisp s d.toNat fun r => { r with state := .locked }) .done 0x23 (.dispenserState .locked))) ∧
    ((dispAt s d.toNat).state ∈ [.service, .locked, .jammed] →
      exec (.lock (framed [d] extra)) s = .next (respond s .refusedState 0x23 .empty)) ∧
    ((dispAt s d.toNat).state = .locked →
      ∃ st, (st = if (dispAt s d.toNat).part = none then .unloaded
                  else if (dispAt s d.toNat).tapeEnd then .out else .ready) ∧
        exec (.unlock (framed [d] extra)) s = .next (respond
          (modDisp s d.toNat fun r => { r with state := st }) .done 0x24 (.dispenserState st))) ∧
    ((dispAt s d.toNat).state ≠ .locked →
      exec (.unlock (framed [d] extra)) s = .next (respond s .refusedState 0x24 .empty)) ∧
    ((dispAt s d.toNat).state = .absent →
      exec (.serviceBegin (framed [d] extra)) s = .next (respond s .refusedState 0x21 .empty) ∧
      exec (.lock (framed [d] extra)) s = .next (respond s .refusedState 0x23 .empty))

/-- O27. SERVICE_END (R23): in SERVICE or JAMMED the fault count becomes 0, and the state becomes UNLOADED without a part, else
READY or OUT by the tape-end level; nothing else changes, so no REEL_OUT is queued. In any other state it is refused. -/
def Obligations.ServiceEndReturnsADispenser : Prop :=
  ∀ (s : State) (d : Byte) (extra : List Byte), s.jam.run ≠ .unconfigured → d.toNat ≤ 63 →
    ((dispAt s d.toNat).state = .service ∨ (dispAt s d.toNat).state = .jammed →
      ∃ st, (st = if (dispAt s d.toNat).part = none then .unloaded
                  else if (dispAt s d.toNat).tapeEnd then .out else .ready) ∧
        exec (.serviceEnd (framed [d] extra)) s = .next (respond
          (modDisp s d.toNat fun r => { r with faults := 0, state := st }) .done 0x22 (.dispenserState st))) ∧
    ((dispAt s d.toNat).state ≠ .service → (dispAt s d.toNat).state ≠ .jammed →
      exec (.serviceEnd (framed [d] extra)) s = .next (respond s .refusedState 0x22 .empty))

/-- O28. TAPE_END (R26): the level is recorded; a READY dispenser whose level becomes ACTIVE becomes OUT and a REEL_OUT with its
number, part code and total drops is queued; nothing else changes. -/
def Obligations.TapeEndRecordsTheLevel : Prop :=
  ∀ (s : State) (d : Fin 64) (active : Bool), s.disp.records.length = 64 →
    ((dispAt s d.val).state = .ready → active = true → ∃ t, exec (.tapeEnd d active) s = .next t ∧
      dispAt t d.val = { dispAt s d.val with tapeEnd := true, state := .out } ∧
      (∀ e, e ≠ d.val → dispAt t e = dispAt s e) ∧
      t = report (s.setDisp t.disp) (.reelOut d.val (dispAt s d.val).part (dispAt s d.val).totalDrops) ∧
      t.disp.groups = s.disp.groups) ∧
    ((dispAt s d.val).state ≠ .ready ∨ active = false → ∃ t, exec (.tapeEnd d active) s = .next t ∧
      dispAt t d.val = { dispAt s d.val with tapeEnd := active } ∧
      (∀ e, e ≠ d.val → dispAt t e = dispAt s e) ∧ t = s.setDisp t.disp ∧ t.disp.groups = s.disp.groups)

/-- O29. DROP_CONFIRM (R28, R29, R38): an outstanding drop ends, the total rises and the estimate falls; its PLANNED clip becomes
LOADED, or VERIFIED with flip clear and the fault count 0 when the verifier is disabled, and a SURPLUS clip stays. A late
confirm makes an EMPTY clip at the missed position SURPLUS. With neither, it is ignored. -/
def Obligations.DropConfirmEndsTheDrop : Prop :=
  ∀ (s : State) (d : Fin 64),
    (∀ pos i, (dispAt s d.val).outstanding = some pos → clipAt s pos = .planned i → (cfg s).verifier = true →
      ∃ t, exec (.dropConfirm d) s = .next t ∧ t.work = { s.work with
        disp := { s.disp with records := s.disp.records.modify d.val fun r => { r with
          totalDrops := capAt 4294967295 (r.totalDrops + 1), quantity := r.quantity - 1, outstanding := none } }
        chain := { s.chain with clips := s.chain.clips.set pos (.loaded i) } }) ∧
    (∀ pos i, (dispAt s d.val).outstanding = some pos → clipAt s pos = .planned i → (cfg s).verifier = false →
      ∃ t, exec (.dropConfirm d) s = .next t ∧ t.work = { s.work with
        disp := { s.disp with records := s.disp.records.modify d.val fun r => { r with
          totalDrops := capAt 4294967295 (r.totalDrops + 1), quantity := r.quantity - 1, outstanding := none, faults := 0 } }
        chain := { s.chain with clips := s.chain.clips.set pos (.verified i false) } }) ∧
    (∀ pos k b e o, (dispAt s d.val).outstanding = some pos → clipAt s pos = .surplus k b e o →
      ∃ t, exec (.dropConfirm d) s = .next t ∧ t.work = { s.work with
        disp := { s.disp with records := s.disp.records.modify d.val fun r => { r with
          totalDrops := capAt 4294967295 (r.totalDrops + 1), quantity := r.quantity - 1, outstanding := none } } }) ∧
    (∀ pos, (dispAt s d.val).outstanding = none → (dispAt s d.val).missed = some pos → clipAt s pos = .empty →
      ∃ t, exec (.dropConfirm d) s = .next t ∧ t.work = { s.work with
        disp := { s.disp with records := s.disp.records.modify d.val fun r => { r with
          totalDrops := capAt 4294967295 (r.totalDrops + 1), quantity := r.quantity - 1, missed := none } }
        chain := { s.chain with clips := s.chain.clips.set pos (.surplus none none (some d.val) none) } }) ∧
    ((dispAt s d.val).outstanding = none → (dispAt s d.val).missed = none → exec (.dropConfirm d) s = .next s)

/-- O30. VERIFY_WORD with the verifier enabled, a word of the measurement's tag and class and the measured clip still LOADED
with its key (R18, R37, R39, R196): an accepted outcome makes the clip VERIFIED with its flip and clears the dispenser's fault
count; a rejected one makes it REJECTED. A word when the record is empty, or with the verifier disabled, is discarded. -/
def Obligations.AVerifyWordJudgesTheClip : Prop :=
  ∀ (s : State) (bits : List Bool),
    (∀ m r i flip, (cfg s).verifier = true → s.chain.measurement = some m → parseVerifyWord bits = some r →
      r.tag = m.tag → r.cls = m.entry.cls → clipAt s m.position = .loaded i → i.key = m.key →
      (m.entry.kind = .unchecked ∧ flip = false ∨
       m.entry.lo ≤ r.value ∧ r.value ≤ m.entry.hi ∧
        (m.entry.kind = .nonpolar ∧ flip = false ∨ m.entry.kind = .polar ∧ r.sense = .forward ∧ flip = false ∨
         m.entry.kind = .polar ∧ r.sense = .reverse ∧ flip = true)) →
      ∃ t, exec (.verifyWord bits) s = .next t ∧ t.work = { s.work with
        chain := { s.chain with measurement := none, clips := s.chain.clips.set m.position (.verified i flip) }
        disp := { s.disp with records := s.disp.records.modify i.disp fun r => { r with faults := 0 } } }) ∧
    (∀ m r i, (cfg s).verifier = true → s.chain.measurement = some m → parseVerifyWord bits = some r →
      r.tag = m.tag → r.cls = m.entry.cls → clipAt s m.position = .loaded i → i.key = m.key →
      m.entry.kind ≠ .unchecked → i.disp / 4 < s.disp.groups.length →
      (r.value < m.entry.lo ∨ m.entry.hi < r.value ∨ (m.entry.kind = .polar ∧ r.sense = .none)) →
      ∃ t, exec (.verifyWord bits) s = .next t ∧ t.chain.measurement = none ∧
        clipAt t m.position = .rejected i.key (some i.board) i.disp i.origin ∧
        (groupAt t (i.disp / 4)).faults = capAt 255 ((groupAt s (i.disp / 4)).faults + 1)) ∧
    (s.chain.measurement = none ∨ (cfg s).verifier = false ∨ parseVerifyWord bits = none →
      exec (.verifyWord bits) s = .next s)

/-! ### Pose, table and actuators (chapters 04 and 05) -/

/-- O31. HOME in IDLE or READY with the table free is answered STARTED (R89): the home becomes invalid, the last settled pose is
marked invalid, and with the guard open the motion waits; in any other run state, or with an operation in progress, it is
refused. With the guard closed and both home inputs inactive each axis begins its approach in the negative direction (R90).
The model's choice: the actuators are commanded to their reference values as that motion begins (log 28), but for one whose last
setting ended at its reference value, which counts as standing there and is done (log 11). -/
def Obligations.HomeBeginsOrWaitsForTheGuard : Prop :=
  ∀ (s : State) (extra : List Byte), s.jam.run ≠ .unconfigured →
    (((s.jam.run ≠ .idle ∧ s.jam.run ≠ .ready) ∨ tableBusy s = true) →
      exec (.home (framed [] extra)) s = .next (respond s .refusedState 0x30 .empty)) ∧
    ((s.jam.run = .idle ∨ s.jam.run = .ready) → tableBusy s = false → s.inputs.guardOpen = true → ∃ t,
      exec (.home (framed [] extra)) s = .next t ∧
      t.work = { s.work with
        homeValid := false, last := { s.pose.last with valid := false }
        requested := some (.home (HomeRun.waiting (ms (cfg s).homeLimit)))
        response := { result := .started, code := 0x30, number := (s.console.response.number + 1) % 256, body := .empty } } ∧
      t.jam.run = s.jam.run) ∧
    ((s.jam.run = .idle ∨ s.jam.run = .ready) → tableBusy s = false → s.inputs.guardOpen = false →
      s.inputs.homeX = false → s.inputs.homeY = false → ∃ t h,
      exec (.home (framed [] extra)) s = .next t ∧ t.table.op = .home h ∧ h.begun = true ∧
      h.limit = some (ms (cfg s).homeLimit) ∧
      h.x = { phase := .approach, interval := some (intervalAt (ratesOf s .x) 0) } ∧
      h.y = { phase := .approach, interval := some (intervalAt (ratesOf s .y) 0) } ∧
      t.table.dirX = false ∧ t.table.dirY = false ∧ t.table.homeValid = false ∧
      t.table.x = s.table.x ∧ t.table.y = s.table.y ∧ t.pose.last.valid = false ∧ t.pose.positioning = none ∧
      (∀ a, ((s.stroke.act a).standsAt ≠ some 0 → (t.stroke.act a).setting = some 0 ∧ h.done a = false) ∧
            ((s.stroke.act a).standsAt = some 0 → (t.stroke.act a).setting = none ∧ h.done a = true)) ∧
      t.jam.run = s.jam.run)

/-- O32. JOG in READY or HALTED with the table free and a target within the travel is answered STARTED (R92): the operation is
JOG and a positioning record without a clip holds the target with the predicted time; with the guard open it waits. A target
above the travel is answered REFUSED_RANGE, and a run state other than READY and HALTED REFUSED_STATE. -/
def Obligations.JogStartsTowardItsTarget : Prop :=
  ∀ (s : State) (body extra : List Byte) (ax : Axis) (check : Bool), body.length = 4 → s.jam.run ≠ .unconfigured →
    axisOf (at8 body 0) = some ax → flagOf (at8 body 3) = some check →
    (travel s ax < at16 body 1 →
      exec (.jog (framed body extra)) s = .next (respond s .refusedRange 0x31 .empty)) ∧
    (at16 body 1 ≤ travel s ax → ((s.jam.run ≠ .ready ∧ s.jam.run ≠ .halted) ∨ tableBusy s = true) →
      exec (.jog (framed body extra)) s = .next (respond s .refusedState 0x31 .empty)) ∧
    (at16 body 1 ≤ travel s ax → (s.jam.run = .ready ∨ s.jam.run = .halted) → tableBusy s = false →
      (check = true → s.table.homeValid = true ∧ (s.table.phase ax).isSome = true) → ∃ t m,
      exec (.jog (framed body extra)) s = .next t ∧
      (s.inputs.guardOpen = true →
        t.table = { s.table with op := .jog ax check m } ∧ m.state = .waiting ∧
        t.work = { s.work with
          requested := some (.jog ax check m)
          response := { result := .started, code := 0x31, number := (s.console.response.number + 1) % 256,
                        body := .empty } } ∧
        t.pose.positioning = some { clip := none, pose := none, tx := m.tx, ty := m.ty,
                                    tp := predictJog s ax (at16 body 1), r := predictJog s ax (at16 body 1), atUp := false }) ∧
      m.target ax = at16 body 1 ∧ m.tx = (match ax with | .x => at16 body 1 | .y => s.table.x) ∧
      m.ty = (match ax with | .x => s.table.y | .y => at16 body 1) ∧
      (s.inputs.guardOpen = false → s.table.counter ax ≠ at16 body 1 →
        t.table.op = .jog ax check m ∧ m.state = .stepping ∧
        m.axis ax = axisMotion (ratesOf s ax) (s.table.counter ax) (at16 body 1) ∧
        t.table.x = s.table.x ∧ t.table.y = s.table.y ∧
        t.pose.positioning = some { clip := none, pose := none, tx := m.tx, ty := m.ty,
                                    tp := predictJog s ax (at16 body 1), r := predictJog s ax (at16 body 1), atUp := false }))

/-- O33. AXIS_STEP of a MOVE or JOG that steps the axis (R79, R80): the counter changes by one in the axis's direction, the other
counter and the phases stay; while the axis has further steps, the next interval of its profile or of its stop sequence runs
and nothing else changes but the levels of the axis's own index and home inputs. An axis that is not stepping ignores it. In HOME
a step of the approach is not counted, and one of the search is (R90). The levels are the model's choice (log 10): a step leaves
the index mark, and a positive step leaves the home switch. -/
def Obligations.AxisStepsMoveTheCounter : Prop :=
  ∀ (s : State) (ax : Axis),
    (∀ m, s.table.op.motion = some m → m.steps ax = true → ∃ t, exec (.axisStep ax) s = .next t ∧
      t.table.counter ax = (if (m.axis ax).up then s.table.counter ax + 1 else s.table.counter ax - 1) ∧
      (∀ other, other ≠ ax → t.table.counter other = s.table.counter other) ∧
      t.table.phaseX = s.table.phaseX ∧ t.table.phaseY = s.table.phaseY ∧ t.table.homeValid = s.table.homeValid) ∧
    (∀ m, s.table.op.motion = some m → m.steps ax = true → ((m.axis ax).next (ratesOf s ax)).isDone = false → ∃ t,
      exec (.axisStep ax) s = .next t ∧
      t.table.op = s.table.op.withMotion (m.setAxis ax ((m.axis ax).next (ratesOf s ax))) ∧
      t.work = { s.work with
        x := t.table.x, y := t.table.y, requested := t.table.op.requested
        levels := { (s.inputs.afterStep ax (m.axis ax).up) with lineReleased := false } }) ∧
    (∀ h, s.table.op = .home h → (h.axis ax).phase = .approach → (h.axis ax).interval.isSome = true → ∃ t,
      exec (.axisStep ax) s = .next t ∧
      t.table = { s.table with op := .home (h.setAxis ax { phase := .approach, interval := homeInterval s ax }) } ∧
      t.work = { s.work with
        requested := t.table.op.requested, levels := { (s.inputs.afterStep ax false) with lineReleased := false } }) ∧
    (∀ h, s.table.op = .home h → (h.axis ax).phase = .search → (h.axis ax).interval.isSome = true → ∃ t,
      exec (.axisStep ax) s = .next t ∧ t.table.counter ax = s.table.counter ax + 1 ∧
      t.table.op = .home (h.setAxis ax
        (if travel s ax ≤ s.table.counter ax + 1 then { phase := .atTravel, interval := none }
         else { phase := .search, interval := homeInterval s ax }))) ∧
    (s.table.op = .none → exec (.axisStep ax) s = .next s)

/-- O34. SETTLE_EXPIRY completes the motion that is settling (R81, R93): after a MOVE the last settled pose takes the target, and
the operation is NONE or the next MOVE aimed at; after a JOG with the home valid it takes the jogged axis's target, the
operation ends, and JOG_DONE with outcome REACHED is queued. With nothing settling it changes nothing. -/
def Obligations.SettleExpiryCompletesTheMotion : Prop :=
  ∀ s : State,
    (∀ k m, s.table.op = .move k m → m.state = .settling → m.settle.isSome = true → ∃ t,
      exec .settleExpiry s = .next t ∧
      t.work = { s.work with last := { s.pose.last with x := m.tx, y := m.ty } } ∧
      (t.table.op = .none ∨ ∃ k' m', t.table.op = .move k' m')) ∧
    (∀ ax c m, s.table.op = .jog ax c m → m.state = .settling → m.settle.isSome = true → ∃ t,
      exec .settleExpiry s = .next t ∧
      t.work = { s.work with
        requested := none
        last := if s.table.homeValid then s.pose.last.setAxis ax (m.target ax) else s.pose.last } ∧
      (report s (.jogDone ax (m.target ax) (s.table.counter ax) .reached)).console.reports <+: t.console.reports) ∧
    ((∀ m, s.table.op.motion = some m → m.state ≠ .settling) → exec .settleExpiry s = .next s)

/-- O35. INDEX_MARK and HOME_INPUT (R87, R88, R90): a mark whose counter modulo 1024 agrees with the phase within 2 steps on the
circle, or on an axis that is not checked, changes the input level alone; one that differs by more raises TABLE_SLIP, after which
home and last settled pose are invalid and the operation has ended; in HOME's search phase the mark gives the phase; the home
input sets the approaching axis's counter to 0 and starts its search in the positive direction. The model's choices: the phase
is the counter modulo 1024, and a mark after the search has reached the travel limit still ends it (log 15); the levels of the
inputs are held and change by log 10. -/
def Obligations.IndexMarksAndHomeInputs : Prop :=
  ∀ (s : State) (ax : Axis),
    ((s.table.homeValid = false ∨ s.table.phase ax = none ∨ (∃ m, s.table.op = .jog ax false m) ∨
        (∃ p d, s.table.phase ax = some p ∧ p < 1024 ∧ d ≤ 2 ∧
          ((s.table.counter ax + d) % 1024 = p ∨ (p + d) % 1024 = s.table.counter ax % 1024))) →
      (∀ h, s.table.op = .home h → (h.axis ax).phase = .approach ∨ (h.axis ax).phase = .ended) →
      ∃ t, exec (.indexMark ax) s = .next t ∧
        t.work = { s.work with levels := { (s.inputs.setIndex ax) with lineReleased := false } }) ∧
    (s.table.homeValid = true → ∀ p, s.table.phase ax = some p → p < 1024 →
      (∀ a c m, s.table.op = .jog a c m → c = true ∨ a ≠ ax) →
      (∀ d, d ≤ 2 → (s.table.counter ax + d) % 1024 ≠ p ∧ (p + d) % 1024 ≠ s.table.counter ax % 1024) →
        s.jam.run ≠ .unconfigured → ∃ t,
      exec (.indexMark ax) s = .next t ∧ t.table.homeValid = false ∧ t.pose.last.valid = false ∧
      t.work.requested = none ∧ t.table.x = s.table.x ∧ t.table.y = s.table.y ∧
      (t.jam.run = .halting ∨ t.jam.run = .halted) ∧
      (s.jam.alarms.length < 16 → s.jam.run ≠ .halting → s.jam.run ≠ .halted → HaltedBy s t .tableSlip (.axis ax))) ∧
    (∀ h, s.table.op = .home h → (h.axis ax).phase = .search ∨ (h.axis ax).phase = .atTravel →
      s.table.homeValid = false →
      (h.setAxis ax { phase := .ended, interval := none }).finished = false → ∃ t,
      exec (.indexMark ax) s = .next t ∧ t.table.phase ax = some (s.table.counter ax % 1024) ∧
      t.table.op = .home (h.setAxis ax { phase := .ended, interval := none }) ∧ t.table.homeValid = s.table.homeValid) ∧
    (∀ h, s.table.op = .home h → (h.axis ax).phase = .search ∨ (h.axis ax).phase = .atTravel →
      s.table.homeValid = false →
      (h.setAxis ax { phase := .ended, interval := none }).finished = true → ∃ t,
      exec (.indexMark ax) s = .next t ∧ t.table.phase ax = some (s.table.counter ax % 1024) ∧
      t.table.homeValid = true ∧ t.work.requested = none ∧ t.pose.last.valid = true ∧
      t.pose.last.x = t.table.phaseX.getD 0 ∧ t.pose.last.y = t.table.phaseY.getD 0 ∧ t.pose.last.bearing = .east ∧
      (s.jam.run = .idle → t.jam.run = .ready)) ∧
    (∀ h, s.table.op = .home h → h.begun = true → (h.axis ax).phase = .approach → s.inputs.index ax = false → ∃ t,
      exec (.homeInput ax) s = .next t ∧ t.table.counter ax = 0 ∧
      (∀ other, other ≠ ax → t.table.counter other = s.table.counter other) ∧
      t.table.op = .home (h.setAxis ax { phase := .search, interval := homeInterval s ax }) ∧
      (match ax with | .x => t.table.dirX | .y => t.table.dirY) = true) ∧
    ((∀ h, s.table.op ≠ .home h) → ∃ t, exec (.homeInput ax) s = .next t ∧
      t.work = { s.work with levels := { (s.inputs.setHome ax) with lineReleased := false } })

/-- O36. ACTUATOR_IN_POSITION outside HOME ends a setting (R107): the record is IDLE with its timer stopped, and the last settled
pose takes the value commanded, in a halt only while the record is valid; an IDLE record ignores the report. -/
def Obligations.AnInPositionReportEndsTheSetting : Prop :=
  ∀ (s : State) (a : Actuator),
    (∀ v, (s.stroke.act a).setting = some v → (∀ h, s.table.op ≠ .home h) → ∃ t,
      exec (.actuatorInPosition a) s = .next t ∧
      t.work = { s.work with
        last := if s.pose.last.valid = true ∨ (s.jam.run ≠ .halting ∧ s.jam.run ≠ .halted)
                then s.pose.last.setValue a v else s.pose.last }) ∧
    (∀ v, (s.stroke.act a).setting = some v → producing s = false → ∃ t,
      exec (.actuatorInPosition a) s = .next t ∧ (t.stroke.act a).setting = none ∧ (t.stroke.act a).timer = none) ∧
    ((s.stroke.act a).setting = none → exec (.actuatorInPosition a) s = .next s)

/-- O37. The guard (R84, R85, R113, R114): opening records the input, stops the gate-hold limit, and brakes a stepping motion
along its ramp, leaving the counters and the shaft's course; closing clears the input and takes a clamp change kept back (R127).
A change to the level that stands is no event. That a clamp change waits for the guard, and that the clamp-closed input is
inactive once the output is open, are the model's choice (log 25). -/
def Obligations.TheGuardStopsAndResumesMotion : Prop :=
  ∀ s : State,
    (s.inputs.guardOpen = true → exec .guardOpen s = .next s) ∧
    (s.inputs.guardOpen = false → exec .guardClose s = .next s) ∧
    (s.inputs.guardOpen = false → (∀ m, s.table.op.motion = some m → m.state ≠ .stepping) → ∃ t,
      exec .guardOpen s = .next t ∧
      t.work = { s.work with levels := { s.inputs with guardOpen := true, lineReleased := false } } ∧
      t.stroke.gateTimer = none) ∧
    (s.inputs.guardOpen = false → ∀ m, s.table.op.motion = some m → m.state = .stepping → ∃ t,
      exec .guardOpen s = .next t ∧ t.inputs.guardOpen = true ∧ t.table.x = s.table.x ∧ t.table.y = s.table.y ∧
      t.table.op = s.table.op.withMotion { m with
        x := m.x.brake (ratesOf s .x), y := m.y.brake (ratesOf s .y),
        state := if (m.x.brake (ratesOf s .x)).isStopping || (m.y.brake (ratesOf s .y)).isStopping
                 then .decelerating else .stepping }) ∧
    (s.inputs.guardOpen = true → s.table.op = .none → s.stroke.restoreHeld = false → ∃ t,
      exec .guardClose s = .next t ∧
      t.work = { s.work with
        levels := { s.inputs with guardOpen := false, clampClosed := s.inputs.clampClosed && s.boards.clampWanted,
                                  lineReleased := false }
        clamp := (s.boards.clampWanted, s.boards.clampWanted, s.boards.withdrawOpen) }) ∧
    (s.inputs.guardOpen = true → ∀ m, s.table.op.motion = some m → m.state = .held →
      (freshMotion s m.tx m.ty).x.isDone = false ∨ (freshMotion s m.tx m.ty).y.isDone = false → ∃ t,
      exec .guardClose s = .next t ∧ t.inputs.guardOpen = false ∧
      t.table.op = s.table.op.withMotion (freshMotion s m.tx m.ty))

/-- O38. The expiries that raise a STOP alarm (R91, R97, R104, R107, R109, R128) at a station in IDLE, READY, RUNNING or STOPPING
whose alarm list has room: the station halts, the alarm is in the list, ACTIVE, with its class, source and the revolution
count, and the block's own state is as the rule says. A timer that does not run makes the expiry no event. That CHAIN_STALL makes
the chain step NONE and releases the chain drive is the model's choice (log 52), and that TABLE_LATE is raised when the table
part of the test of R108 fails is its reading of R109 (log 61). -/
def Obligations.ExpiriesRaiseTheirStopAlarms : Prop :=
  ∀ s : State, s.jam.alarms.length < 16 →
    (s.jam.run = .idle ∨ s.jam.run = .ready ∨ s.jam.run = .running ∨ s.jam.run = .stopping) →
    (s.stroke.markTimer.isSome = true → ∃ t, exec .markTimeoutExpiry s = .next t ∧ HaltedBy s t .strokeStall .none ∧
      (s.stroke.shaft = .turning → s.stroke.rev.isSome = true → t.stroke.shaft = .stopped ∧ t.stroke.rev = none) ∧
      (s.stroke.shaft = .restoring → t.stroke.shaft = .stopped)) ∧
    (s.stroke.chainTimer.isSome = true → ∃ t, exec .chainTimerExpiry s = .next t ∧ HaltedBy s t .chainStall .none ∧
      t.chain.clips = s.chain.clips.map (fun _ => .unknown) ∧ t.chain.purgeRequired = true ∧ t.chain.measurement = none ∧
      t.jam.purgeCount = 0 ∧ t.stroke.chainStep = .none ∧ t.stroke.chainTimer = none ∧ t.stroke.chainDriveOut = false) ∧
    (∀ a, (s.stroke.act a).timer.isSome = true → ∃ t, exec (.actuatorTimerExpiry a) s = .next t ∧
      HaltedBy s t .actuatorFault (.actuator a) ∧ t.table.homeValid = false ∧ t.pose.last.valid = false) ∧
    (s.stroke.gateTimer.isSome = true → ∀ k b p flip o, s.stroke.jaw = .item k b p flip o → tableAt s p = false → ∃ t,
      exec .gateHoldLimitExpiry s = .next t ∧ HaltedBy s t .tableLate (.axis (laggingAxis s p))) ∧
    (∀ h, s.table.op = .home h → h.limit.isSome = true → s.inputs.guardOpen = false → ∃ t,
      exec .homeLimitExpiry s = .next t ∧ HaltedBy s t .homeFault (homeLaggard h) ∧ t.work.requested = none) ∧
    (∀ x, s.boards.transfer = some x → limitRuns s = true → ∃ t, exec .transferLimitExpiry s = .next t ∧
      HaltedBy s t .boardJam .none ∧
      t.boards.transfer = some { x with jammed := true, limit := some (ms (cfg s).transferLimit) }) ∧
    (s.stroke.markTimer = none → exec .markTimeoutExpiry s = .next s) ∧
    (s.stroke.chainTimer = none → exec .chainTimerExpiry s = .next s) ∧
    (∀ a, (s.stroke.act a).timer = none → exec (.actuatorTimerExpiry a) s = .next s) ∧
    (s.stroke.gateTimer = none → exec .gateHoldLimitExpiry s = .next s)

/-! ### The revolution (chapter 06) -/

/-- O39. REVOLUTION_START when the conditions of R98 hold (R98, R99): PURGE while the purge is required; else INSERT, with its
descending flag set, when a VERIFIED clip of the CURRENT board stands at position 0, passes the start test and is not MADE_UP
elsewhere; else INDEX. The shaft turns, the revolution count rises, the hold mark is clear, the mark timeout starts. When R98
does not hold, or the start test fails, no revolution starts. -/
def Obligations.RevolutionsStartWithTheirKind : Prop :=
  ∀ s : State,
    (mayStart s = false → exec .revolutionStart s = .next s) ∧
    (∀ kind, mayStart s = true →
      (kind = .purge ∧ s.chain.purgeRequired = true ∨
       kind = .index ∧ s.chain.purgeRequired = false ∧ insertClip s = none ∨
       kind = .insert ∧ s.chain.purgeRequired = false ∧ (∃ i flip, insertClip s = some (i, flip) ∧
         startTest s i flip = true ∧ madeUpElsewhere s i.key = false)) → ∃ t,
      exec .revolutionStart s = .next t ∧
      t.work = { s.work with
        rev := some { kind := kind, descending := kind == .insert, leftGate := false, last := .rest, lead := .notExpected,
                      clinch := .notExpected, elapsed := 0 }
        revCount := capAt 4294967295 (s.stroke.revCount + 1), holdMark := false } ∧
      t.stroke.shaft = .turning ∧ t.stroke.markTimer = supervise (cfg s).markTimeout) ∧
    (∀ i flip, mayStart s = true → s.chain.purgeRequired = false → insertClip s = some (i, flip) →
      startTest s i flip = false → ∃ t, exec .revolutionStart s = .next t ∧ t.work = s.work ∧ t.stroke.shaft = .atRest) ∧
    (∀ i flip, mayStart s = true → s.chain.purgeRequired = false → insertClip s = some (i, flip) →
      startTest s i flip = true → madeUpElsewhere s i.key = true → ∃ t r, exec .revolutionStart s = .next t ∧
      t.stroke.rev = some r ∧ r.kind = .index ∧ r.descending = false ∧
      clipAt t 0 = .surplus (some i.key) (some i.board) (some i.disp) (some i.origin))

/-- O40. RESTORING_TURN_START with the shaft STOPPED, a run state that turns the shaft, the guard closed, no transfer and no chain
step STARTED: the shaft is RESTORING with no mark taken, and the jaws and the chain stay (R101). Otherwise nothing starts. A
mark of the turn begins no work; at its UP mark the jaw record becomes EMPTY whatever it held, and WASTE with a board reference
counts its ejection for that board (R112). Which marks the turn takes is the model's reading (log 32), and that UP releases the
descent and clinch outputs with the jaws the model's choice (log 30). -/
def Obligations.RestoringTurnsBeginNoWork : Prop :=
  ∀ s : State,
    (mayRestore s = true → ∃ t, exec .restoringTurnStart s = .next t ∧
      t.work = { s.work with restoreLast := none, restoreHeld := false } ∧
      t.stroke.shaft = .restoring ∧ t.stroke.markTimer = supervise (cfg s).markTimeout) ∧
    (mayRestore s = false → exec .restoringTurnStart s = .next s) ∧
    (∀ c m, (c, m) ∈ [(Instr.transferMark, Mark.transfer), (.advanceMark, .advance), (.dropMark, .drop),
        (.verifyMark, .verify), (.downMark, .down), (.clinchMark, .clinch)] →
      restoreTakes s m = true → ∃ t, exec c s = .next t ∧
      t.work = { s.work with restoreLast := some m } ∧ t.stroke.shaft = .restoring) ∧
    (∀ board, restoreTakes s .up = true →
      (s.stroke.jaw = .waste board ∨ board = none ∧ ∀ b, s.stroke.jaw ≠ .waste b) → ∃ t, exec .upMark s = .next t ∧
      t.work = { s.work with
        restoreLast := some .up, jaw := .empty, outs := (false, false, false, s.stroke.chainDriveOut)
        contexts := match board with
          | some slot => (s.boards.slots.modify slot fun o => o.map fun c =>
              { c with ejected := capAt 65535 (c.ejected + 1) }).map fun o => o.map Context.unjudged
          | none => s.work.contexts } ∧ t.stroke.shaft = .restoring) ∧
    (restoreTakes s .gate = true → ∃ t, exec .gateMark s = .next t ∧
      t.work = { s.work with restoreLast := some .gate, restoreHeld := s.inputs.guardOpen } ∧
      t.stroke.shaft = .restoring)

/-- O41. REST_MARK (R75, R98, R101, R112, R173, R174). At a station that may not turn its shaft, the revolution record goes, the
shaft stands AT_REST, an unheld revolution gives the clean period, and a PURGE revolution counts toward Pmax + 1, at which
every clip becomes EMPTY and the purge is over. At any station the next revolution may start at the same mark. A REST mark
that is not expected is ignored. The model's readings: a measured time of 0 gives the clean period 1, the least that R62 allows
(log 14), and the first REST mark ends a restoring turn wherever it comes in the order (log 32). -/
def Obligations.RestMarkEndsTheRevolution : Prop :=
  ∀ s : State,
    (∀ r, s.stroke.rev = some r → expects s .rest = true → runsShaft s = false → ∃ t,
      exec .restMark s = .next t ∧ t.stroke.shaft = .atRest ∧ t.stroke.markTimer = none ∧
      t.work = { s.work with
        rev := none, restoreLast := none
        clean := if s.pose.holdMark then s.pose.clean else some (max 1 (capAt 16777215 r.elapsed))
        purgeCount := if r.kind = .purge then
            (if s.chain.clips.length ≤ s.jam.purgeCount + 1 then 0 else s.jam.purgeCount + 1)
          else s.jam.purgeCount
        chain := if r.kind = .purge ∧ s.chain.clips.length ≤ s.jam.purgeCount + 1 then
            { s.chain with clips := s.chain.clips.map (fun _ => .empty), purgeRequired := false }
          else s.chain }) ∧
    (restoreTakes s .rest = true → runsShaft s = false → ∃ t,
      exec .restMark s = .next t ∧ t.stroke.shaft = .atRest ∧
      t.work = { s.work with rev := none, restoreLast := none }) ∧
    (∀ r, s.stroke.rev = some r → expects s .rest = true → restoreTakes s .rest = false → ∃ t,
      exec .restMark s = .next t ∧
      (t.stroke.shaft = .atRest ∧ t.stroke.rev = none ∧ t.stroke.revCount = s.stroke.revCount ∨
       t.stroke.shaft = .turning ∧ (∃ r', t.stroke.rev = some r' ∧ r'.last = .rest ∧ r'.elapsed = 0) ∧
        t.stroke.revCount = capAt 4294967295 (s.stroke.revCount + 1))) ∧
    (expects s .rest = false → restoreTakes s .rest = false → exec .restMark s = .next s)

/-- O42. TRANSFER_MARK (R40, R102): in a PURGE revolution the jaws close on waste; in an INSERT they take the VERIFIED clip of the
CURRENT board, whose record becomes EMPTY, and the lead sense is awaited; in an INDEX an EMPTY clip is left alone, and a
REJECTED or SURPLUS one is taken as waste and its ejection counted for the board it references. The model's choices: an UNKNOWN
clip, which R40 and R102 give a PURGE alone, is taken as waste in an INDEX and keeps its record (log 58); and a live clip in an
INDEX is taken as waste, its item handed back as returned: an own item goes to the back of its board's retry list (log 31). -/
def Obligations.TransferMarkWorksTheJaws : Prop :=
  ∀ (s : State) (r : Revolution), s.stroke.rev = some r → expects s .transfer = true →
    (r.kind = .purge → ∃ t, exec .transferMark s = .next t ∧ t.stroke.shaft = .turning ∧
      t.work = { s.work with
        rev := some { r with last := .transfer, leftGate := false }, jaw := .waste none
        outs := (true, s.stroke.descentOut, s.stroke.clinchOut, s.stroke.chainDriveOut) }) ∧
    (∀ i flip, r.kind = .insert → r.descending = true → insertClip s = some (i, flip) → ∃ t, exec .transferMark s = .next t ∧
      t.stroke.shaft = .turning ∧
      t.work = { s.work with
        rev := some { r with last := .transfer, leftGate := false, lead := .awaited }
        jaw := .item i.key (some i.board) i.pose flip i.origin
        chain := { s.chain with clips := s.chain.clips.set 0 .empty }
        outs := (true, s.stroke.descentOut, s.stroke.clinchOut, s.stroke.chainDriveOut) }) ∧
    (r.kind = .index → clipAt s 0 = .empty → ∃ t, exec .transferMark s = .next t ∧ t.stroke.shaft = .turning ∧
      t.work = { s.work with
        rev := some { r with last := .transfer, leftGate := false, lead := .notExpected, descending := false }
        jaw := .empty }) ∧
    (∀ board, r.kind = .index →
      ((∃ k d o, clipAt s 0 = .rejected k board d o) ∨ (∃ k d o, clipAt s 0 = .surplus k board d o)) → ∃ t,
      exec .transferMark s = .next t ∧ t.stroke.shaft = .turning ∧
      t.work = { s.work with
        rev := some { r with last := .transfer, leftGate := false, lead := .awaited, descending := false }
        jaw := .waste none
        chain := { s.chain with clips := s.chain.clips.set 0 .empty }
        contexts := match board with
          | some slot => (s.boards.slots.modify slot fun o => o.map fun c =>
              { c with ejected := capAt 65535 (c.ejected + 1) }).map fun o => o.map Context.unjudged
          | none => s.work.contexts
        outs := (true, s.stroke.descentOut, s.stroke.clinchOut, s.stroke.chainDriveOut) }) ∧
    (r.kind = .index → clipAt s 0 = .unknown → ∃ t, exec .transferMark s = .next t ∧ t.stroke.shaft = .turning ∧
      t.work = { s.work with
        rev := some { r with last := .transfer, leftGate := false, lead := .awaited, descending := false }
        jaw := .waste none
        outs := (true, s.stroke.descentOut, s.stroke.clinchOut, s.stroke.chainDriveOut) }) ∧
    (∀ i c j n, r.kind = .index → (clipAt s 0).live = some i → i.origin = .own → ctxAt s i.board = some c →
      ownIndex s c i.key = some j → c.own[j]? = some { state := .inChain, retries := n } → c.planClosed = false →
      c.retry.length < 8 → i.key ∉ c.retry → ∃ t, exec .transferMark s = .next t ∧ t.stroke.shaft = .turning ∧
      t.stroke.jaw = .waste none ∧ t.chain = { s.chain with clips := s.chain.clips.set 0 .empty } ∧
      ctxAt t i.board = some { c with
        ejected := capAt 65535 (c.ejected + 1), retry := c.retry ++ [i.key]
        own := c.own.modify j fun o => { o with state := .pending } })

/-- O43. ADVANCE_MARK and LEAD_SENSE_CONFIRM (R103, R104): an awaited confirm makes the lead sense SENSED and zeroes the miss
count; at ADVANCE one chain step starts with its timer; a lead sense still awaited is a miss first, and the third in a row
stops the shaft with HEAD_JAM and starts no chain step. -/
def Obligations.AdvanceMarkStartsTheChainStep : Prop :=
  ∀ (s : State) (r : Revolution), s.stroke.rev = some r →
    (r.lead = .awaited → exec .leadSenseConfirm s = .next (s.setStroke { s.stroke with
      rev := some { r with lead := .sensed }, missCount := 0 })) ∧
    (r.lead ≠ .awaited → exec .leadSenseConfirm s = .next s) ∧
    (expects s .advance = true → r.lead ≠ .awaited → ∃ t, exec .advanceMark s = .next t ∧ t.stroke.shaft = .turning ∧
      t.work = { s.work with
        rev := some { r with last := .advance, leftGate := false }
        chainStep := .started, chainTimer := supervise (cfg s).chainTimer
        outs := (s.stroke.jawOut, s.stroke.descentOut, s.stroke.clinchOut, true) }) ∧
    (expects s .advance = true → r.lead = .awaited → s.stroke.missCount < 2 → s.stroke.jaw = .waste none → ∃ t,
      exec .advanceMark s = .next t ∧ t.stroke.shaft = .turning ∧
      t.work = { s.work with
        rev := some { r with last := .advance, leftGate := false, lead := .missed }
        missCount := s.stroke.missCount + 1
        chainStep := .started, chainTimer := supervise (cfg s).chainTimer
        outs := (s.stroke.jawOut, s.stroke.descentOut, s.stroke.clinchOut, true) }) ∧
    (expects s .advance = true → r.lead = .awaited → s.stroke.missCount = 2 → s.jam.alarms.length < 15 →
      (s.jam.run = .running ∨ s.jam.run = .stopping) → ∃ t,
      exec .advanceMark s = .next t ∧ HaltedBy s t .headJam .none ∧ t.stroke.shaft = .stopped ∧ t.stroke.rev = none ∧
      t.stroke.missCount = 0 ∧ t.stroke.chainStep = s.stroke.chainStep)

/-- O44. PITCH_CONFIRM with the chain step STARTED during a purge (R35, R104): the chain moves one position toward the head, an
UNKNOWN record enters at Pmax, the missed positions go, the step is CONFIRMED and its timer stopped; a pitch hold ends with
the shaft TURNING. A confirm with no step STARTED, or in a restoring turn, is ignored. -/
def Obligations.PitchConfirmAdvancesTheChain : Prop :=
  ∀ s : State,
    (s.stroke.chainStep ≠ .started ∨ s.stroke.shaft = .restoring → exec .pitchConfirm s = .next s) ∧
    (∀ first rest, s.stroke.chainStep = .started → s.stroke.shaft ≠ .restoring → s.stroke.shaft ≠ .gateHeld →
      s.chain.purgeRequired = true → s.chain.clips = first :: rest →
      (s.stroke.shaft = .pitchHeld → plannedClips rest 0 = []) → ∃ t,
      exec .pitchConfirm s = .next t ∧
      t.work = { s.work with
        chain := { s.chain with clips := rest ++ [.unknown], measurement := s.chain.measurement.bind Measurement.down }
        disp := { s.disp with records := s.disp.records.map fun r => { r with missed := none } }
        chainStep := .confirmed, chainTimer := none
        outs := (s.stroke.jawOut, s.stroke.descentOut, s.stroke.clinchOut, false) } ∧
      t.stroke.shaft = (if s.stroke.shaft = .pitchHeld then .turning else s.stroke.shaft)) ∧
    (s.stroke.chainStep = .started → s.stroke.shaft ≠ .restoring → ∃ t, exec .pitchConfirm s = .next t ∧
      t.stroke.chainStep = .confirmed ∧ t.stroke.chainTimer = none ∧ t.stroke.chainDriveOut = false ∧
      t.chain.clips.length = s.chain.clips.length ∧ t.stroke.shaft ≠ .pitchHeld)

/-- O45. DROP_MARK (R27, R104): with the chain step STARTED the shaft is PITCH_HELD and the hold marked; else every PLANNED clip
whose dispenser is available and holds its part fires: the drop becomes outstanding and the clip stays PLANNED. Any other PLANNED
clip becomes EMPTY and its item is handed back as reverted (R52): an own item goes to the front of its board's retry list with
its retry count as it was. With no PLANNED clip nothing fires. -/
def Obligations.DropMarkFiresThePlannedClips : Prop :=
  ∀ (s : State) (r : Revolution), s.stroke.rev = some r → expects s .drop = true →
    (s.stroke.chainStep = .started → ∃ t, exec .dropMark s = .next t ∧ t.stroke.shaft = .pitchHeld ∧
      t.stroke.markTimer = none ∧
      t.work = { s.work with rev := some { r with last := .drop, leftGate := false }, holdMark := true }) ∧
    (s.stroke.chainStep ≠ .started → (∀ x ∈ plannedClips s.chain.clips 0, mayFire s x.2 = true) → ∃ t,
      exec .dropMark s = .next t ∧ t.stroke.shaft = .turning ∧
      t.work = { s.work with
        rev := some { r with last := .drop, leftGate := false }
        disp := { s.disp with records :=
          ((plannedClips s.chain.clips 0).foldl (fun l x => l.modify x.2.disp (Dispenser.fired x.1)) s.disp.records) } }) ∧
    (s.stroke.chainStep ≠ .started → ∃ t, exec .dropMark s = .next t ∧ t.stroke.shaft = .turning ∧
      t.chain.clips.length = s.chain.clips.length ∧
      ∀ p, clipAt t p = (match clipAt s p with
        | .planned i => if mayFire s i then .planned i else .empty
        | x => x)) ∧
    (∀ p i c j n, s.stroke.chainStep ≠ .started → plannedClips s.chain.clips 0 = [(p, i)] → mayFire s i = false →
      i.board < 5 → i.origin = .own → ctxAt s i.board = some c → ownIndex s c i.key = some j →
      c.own[j]? = some { state := .inChain, retries := n } → c.planClosed = false → c.retry.length < 8 →
      i.key ∉ c.retry → ∃ t, exec .dropMark s = .next t ∧ t.disp = s.disp ∧
      t.chain = { s.chain with clips := s.chain.clips.set p .empty } ∧
      ctxAt t i.board = some { c with
        retry := i.key :: c.retry, own := c.own.modify j fun o => { o with state := .pending } })

/-- O46. VERIFY_MARK (R36, R38): with the verifier disabled, or with the record empty and no LOADED clip at the verify position,
no measurement starts; a LOADED clip of an UNCHECKED part is accepted at once with flip clear; another begins a measurement
with the clip's key, the part table entry as it stands, and the request tag. With the record not empty the outcome is missing
(R36, R39): the clip still LOADED with its key becomes REJECTED, a VERIFY_FAULT names its dispenser, and no fault is counted. That
the tag is the count before it rises, 0 at first, is the model's reading (log 20). -/
def Obligations.VerifyMarkStartsTheMeasurement : Prop :=
  ∀ (s : State) (r : Revolution), s.stroke.rev = some r → expects s .verify = true →
    ((cfg s).verifier = false ∨ (s.chain.measurement = none ∧ ∀ i, clipAt s (cfg s).verifyPos ≠ .loaded i) → ∃ t,
      exec .verifyMark s = .next t ∧ t.stroke.shaft = .turning ∧
      t.work = { s.work with rev := some { r with last := .verify, leftGate := false } }) ∧
    (∀ i, (cfg s).verifier = true → s.chain.measurement = none → clipAt s (cfg s).verifyPos = .loaded i →
      (partEntryOf s (partOf s i.board i.key i.origin)).kind = .unchecked → ∃ t,
      exec .verifyMark s = .next t ∧
      t.work = { s.work with
        rev := some { r with last := .verify, leftGate := false }
        chain := { s.chain with clips := s.chain.clips.set (cfg s).verifyPos (.verified i false) }
        disp := { s.disp with records := s.disp.records.modify i.disp fun d => { d with faults := 0 } } }) ∧
    (∀ i, (cfg s).verifier = true → s.chain.measurement = none → clipAt s (cfg s).verifyPos = .loaded i →
      (partEntryOf s (partOf s i.board i.key i.origin)).kind ≠ .unchecked → ∃ t,
      exec .verifyMark s = .next t ∧
      t.work = { s.work with
        rev := some { r with last := .verify, leftGate := false }
        chain := { s.chain with
          measurement := some { key := i.key, position := (cfg s).verifyPos, disp := i.disp,
                                entry := partEntryOf s (partOf s i.board i.key i.origin), tag := s.chain.tagCount }
          tagCount := (s.chain.tagCount + 1) % 8 } }) ∧
    (∀ m i, (cfg s).verifier = true → s.chain.measurement = some m → clipAt s m.position = .loaded i → i.key = m.key →
      (∀ j, clipAt s (cfg s).verifyPos = .loaded j → (cfg s).verifyPos = m.position) → s.jam.alarms.length < 16 → ∃ t,
      exec .verifyMark s = .next t ∧ t.stroke.shaft = .turning ∧ t.disp = s.disp ∧
      t.chain = { s.chain with
        measurement := none
        clips := s.chain.clips.set m.position (.rejected i.key (some i.board) i.disp i.origin) } ∧
      ∃ e ∈ t.jam.alarms, e.cls = .verifyFault ∧ e.source = .dispenser i.disp ∧ e.acked = false)

/-- O47. GATE_MARK (R29 to R31, R108, R113): every drop still outstanding ends, its dispenser keeping the missed position and
its clip becoming EMPTY. The miss counts against the dispenser and its group, with DROP_MISS: at 3 a READY, OUT or LOCKED
dispenser becomes JAMMED with DISPENSER_JAM, and at the threshold the group QUARANTINED with GROUP_QUARANTINE. That the count of
a JAMMED dispenser below 3, which a VERIFIED outcome has cleared, rises by one as well is the model's choice (log 48): R30 says
of a JAMMED dispenser that further faults leave the count at 3. Then, in an INSERT, a shaft with the guard open, or descending
with the pose not settled for the item in the jaws, is GATE_HELD with the hold marked, and otherwise it has left GATE and
turns. -/
def Obligations.GateMarkHoldsOrReleases : Prop :=
  ∀ (s : State) (r : Revolution), s.stroke.rev = some r → expects s .gate = true →
    (∀ d pos, d < 64 → s.disp.records.length = 64 → (dispAt s d).outstanding = some pos → ∃ t,
      exec .gateMark s = .next t ∧ (dispAt t d).outstanding = none ∧ (dispAt t d).missed = some pos) ∧
    (∀ d pos i g, d < 64 → s.disp.records.length = 64 → s.disp.groups.length = 16 → (dispAt s d).outstanding = some pos →
      (∀ e, e ≠ d → (dispAt s e).outstanding = none) → clipAt s pos = .planned i → groupAt s (d / 4) = g →
      s.jam.alarms.length ≤ 13 → ∃ t, exec .gateMark s = .next t ∧ clipAt t pos = .empty ∧
      dispAt t d = { dispAt s d with
        outstanding := none, missed := some pos, faults := capAt 3 ((dispAt s d).faults + 1)
        state := if 3 ≤ (dispAt s d).faults + 1 ∧ (dispAt s d).state ∈ [.ready, .out, .locked] then .jammed
                 else (dispAt s d).state } ∧
      groupAt t (d / 4) = { faults := capAt 255 (g.faults + 1)
                            quarantined := g.quarantined || decide ((cfg s).quarantine ≤ capAt 255 (g.faults + 1)) } ∧
      (∃ e ∈ t.jam.alarms, e.cls = .dropMiss ∧ e.source = .dispenser d ∧ e.acked = false) ∧
      (3 ≤ (dispAt s d).faults + 1 → (dispAt s d).state ∈ [.ready, .out, .locked] →
        ∃ e ∈ t.jam.alarms, e.cls = .dispenserJam ∧ e.source = .dispenser d ∧ e.acked = false) ∧
      (g.quarantined = false → (cfg s).quarantine ≤ capAt 255 (g.faults + 1) →
        ∃ e ∈ t.jam.alarms, e.cls = .groupQuarantine ∧ e.source = .group (d / 4) ∧ e.acked = false)) ∧
    ((∀ d ∈ s.disp.records, d.outstanding = none) → r.kind = .insert → s.inputs.guardOpen = false →
      r.descending = true → gateTest s = false → ∃ t, exec .gateMark s = .next t ∧ t.stroke.shaft = .gateHeld ∧
      t.stroke.markTimer = none ∧ t.stroke.gateTimer = supervise (cfg s).gateLimit ∧
      t.work = { s.work with rev := some { r with last := .gate, leftGate := false }, holdMark := true }) ∧
    ((∀ d ∈ s.disp.records, d.outstanding = none) → s.inputs.guardOpen = true → ∃ t, exec .gateMark s = .next t ∧
      t.stroke.shaft = .gateHeld ∧ t.stroke.gateTimer = none ∧
      t.work = { s.work with rev := some { r with last := .gate, leftGate := false }, holdMark := true }) ∧
    ((∀ d ∈ s.disp.records, d.outstanding = none) → s.inputs.guardOpen = false →
      (r.descending = false ∨ gateTest s = true) → ∃ t, exec .gateMark s = .next t ∧ t.stroke.shaft = .turning ∧
      t.stroke.rev = some { r with last := .gate, leftGate := true } ∧
      t.stroke.markTimer = supervise (cfg s).markTimeout ∧
      t.work = { s.work with rev := some { r with last := .gate, leftGate := false } })

/-- O48. DOWN_MARK, CLINCH_MARK and CLINCH_CONFIRM (R110, R111, R124): a descending revolution enables the descent, opens the
jaws, awaits the clinch and reports its item, an own item IN_CHAIN becoming INSERTED; at CLINCH the clinch output fires; an
awaited confirm is CONFIRMED. A revolution that does not descend does none of it. -/
def Obligations.DescentInsertsTheItem : Prop :=
  ∀ (s : State) (r : Revolution), s.stroke.rev = some r →
    (expects s .down = true → r.descending = false → ∃ t, exec .downMark s = .next t ∧ t.stroke.shaft = .turning ∧
      t.work = { s.work with rev := some { r with last := .down, leftGate := false } }) ∧
    (∀ k slot p flip c i, expects s .down = true → r.descending = true →
      s.stroke.jaw = .item k (some slot) p flip .own → ctxAt s slot = some c → ownIndex s c k = some i →
      c.ownState i = some .inChain → ∃ t, exec .downMark s = .next t ∧ t.stroke.shaft = .turning ∧
      t.work = { s.work with
        rev := some { r with last := .down, leftGate := false, clinch := .awaited }
        outs := (false, true, s.stroke.clinchOut, s.stroke.chainDriveOut)
        contexts := (s.boards.slots.set slot (some
          { c.modOwn i (fun o => { o with state := .inserted }) with ownInserted := capAt 65535 (c.ownInserted + 1) })).map
          fun o => o.map Context.unjudged }) ∧
    (expects s .clinch = true → ∃ t, exec .clinchMark s = .next t ∧ t.stroke.shaft = .turning ∧
      t.work = { s.work with
        rev := some { r with last := .clinch, leftGate := false }
        outs := (s.stroke.jawOut, s.stroke.descentOut, r.descending || s.stroke.clinchOut, s.stroke.chainDriveOut) }) ∧
    (r.clinch = .awaited →
      exec .clinchConfirm s = .next (s.setStroke { s.stroke with rev := some { r with clinch := .confirmed } })) ∧
    (r.clinch ≠ .awaited → exec .clinchConfirm s = .next s)

/-- O49. UP_MARK (R111, R112): the jaw record becomes EMPTY and the jaw, descent and clinch outputs are released; a waste record
with a board reference counts an ejection for its context; a clinch still awaited is a CLINCH_FAULT, and the item's context
counts a clinch suspect. That the descent and clinch outputs are released here is the model's reading (log 30): R112 names the jaw
output. -/
def Obligations.UpMarkEmptiesTheJaws : Prop :=
  ∀ (s : State) (r : Revolution), s.stroke.rev = some r → expects s .up = true →
    (∀ board, r.clinch ≠ .awaited → s.stroke.jaw = .waste board → ∃ t, exec .upMark s = .next t ∧
      t.stroke.shaft = .turning ∧
      t.work = { s.work with
        rev := some { r with last := .up, leftGate := false }, jaw := .empty
        outs := (false, false, false, s.stroke.chainDriveOut)
        contexts := match board with
          | some slot => (s.boards.slots.modify slot fun o => o.map fun c =>
              { c with ejected := capAt 65535 (c.ejected + 1) }).map fun o => o.map Context.unjudged
          | none => s.work.contexts }) ∧
    (r.clinch ≠ .awaited → (∀ board, s.stroke.jaw ≠ .waste board) → ∃ t, exec .upMark s = .next t ∧
      t.stroke.shaft = .turning ∧
      t.work = { s.work with
        rev := some { r with last := .up, leftGate := false }, jaw := .empty
        outs := (false, false, false, s.stroke.chainDriveOut) }) ∧
    (∀ k slot p flip o c, r.clinch = .awaited → s.stroke.jaw = .item k (some slot) p flip o → ctxAt s slot = some c →
      s.jam.alarms.length < 16 → (s.jam.run = .running ∨ s.jam.run = .stopping) → ∃ t c',
      exec .upMark s = .next t ∧ HaltedBy s t .clinchFault .none ∧ t.stroke.shaft = .turning ∧ t.stroke.jaw = .empty ∧
      t.stroke.rev = some { r with last := .up, clinch := .missed } ∧ ctxAt t slot = some c' ∧
      c'.clinchSuspect = capAt 65535 (c.clinchSuspect + 1))

/-! ### The planner (chapter 03) -/

/-- O50. A plan pass makes at most 8 assignments, never lowers the frontier, and plans nothing but EMPTY clips above the frontier
it starts from (R43, R44, R50); it runs at the chain advance of a RUNNING station with no purge required (R35, R43). -/
def Obligations.APlanPassFillsEmptyClipsAboveTheFrontier : Prop :=
  (∀ s : State, (planPass s).planner.assignments ≤ 8 ∧ frontier s ≤ (planPass s).planner.frontier ∧
    (∀ pos, clipAt s pos ≠ .empty ∨ (pos : Int) ≤ frontier s → clipAt (planPass s) pos = clipAt s pos) ∧
    (∀ pos, clipAt (planPass s) pos ≠ clipAt s pos → ∃ i, clipAt (planPass s) pos = .planned i)) ∧
  (∀ s : State, s.stroke.chainStep = .started → s.stroke.shaft = .turning → s.stroke.rev.isSome = true →
    s.jam.run = .running → s.chain.purgeRequired = false → ∃ t u,
    u = shiftChain (s.setStroke { s.stroke with chainStep := .confirmed, chainTimer := none, chainDriveOut := false }) ∧
    exec .pitchConfirm s = .next t ∧ t.planner = (planPass u).planner ∧ t.chain = (planPass u).chain)

/-! ### Boards (chapter 07) -/

/-- O51. BOARD_LOAD at a FIRST or SINGLE station (R136): the load slot takes the three values, a context is created at position
0 in the lowest numbered empty slot (the model's choice, log 53) and bound to the READY bank of its program or left NO_PROGRAM,
and its ANNOUNCE is queued. A serial held is answered REFUSED_STATE, a full load slot or no empty slot REFUSED_FULL, serial 0
or program id 0 REFUSED_RANGE. -/
def Obligations.BoardLoadCreatesAContext : Prop :=
  ∀ (s : State) (body extra : List Byte), body.length = 7 → s.jam.run ≠ .unconfigured →
    (at32 body 0 = 0 ∨ at16 body 4 = 0 →
      exec (.boardLoad (framed body extra)) s = .next (respond s .refusedRange 0x40 .empty)) ∧
    (1 ≤ at32 body 0 → 1 ≤ at16 body 4 → (headOfLine s = false ∨ (slotOfSerial s (at32 body 0)).isSome = true) →
      exec (.boardLoad (framed body extra)) s = .next (respond s .refusedState 0x40 .empty)) ∧
    (1 ≤ at32 body 0 → 1 ≤ at16 body 4 → headOfLine s = true → slotOfSerial s (at32 body 0) = none →
      (s.boards.load.isSome = true ∨ emptySlot s = none) →
      exec (.boardLoad (framed body extra)) s = .next (respond s .refusedFull 0x40 .empty)) ∧
    (∀ slot mask new, 1 ≤ at32 body 0 → 1 ≤ at16 body 4 → headOfLine s = true → slotOfSerial s (at32 body 0) = none →
      s.boards.load = none → emptySlot s = some slot → mask = BitVec.ofNat 8 (at8 body 6) →
      new = Context.created (at32 body 0) (some (at16 body 4)) 0 mask →
      exec (.boardLoad (framed body extra)) s = .next (respond (queueAnnounce
        (s.setBoards { s.boards with
          load := some { serial := at32 body 0, programId := at16 body 4, mask := mask }
          slots := s.boards.slots.set slot (some (match lookupBank s (at16 body 4) with
            | some b => { new with bank := some b, own := freshItems mask (s.store.bank b).steps }
            | none => { new with noProgram := true })) })
        (at32 body 0) (at16 body 4) 0 mask) .done 0x40 .empty))

/-- O52. IMAGE_SKIP of an image already in the mask of the CURRENT context changes nothing, and one not in it joins the mask
(R122, R137); that serial 0 names an UNIDENTIFIED CURRENT context there is the model's reading (log 19). BOARD_WITHDRAW of a
CURRENT context of nonzero serial with no transfer queues a WITHDRAW, removes the context and asks for the clamp to open; of the
load slot's EXPECTED context it queues a WITHDRAW, removes the context and empties the load slot (R138). WITHDRAW_CLAMP_OPEN opens
the clamp once nothing moves and the guard is closed; that the clamp-closed input is inactive then is the model's choice
(log 25). -/
def Obligations.SkippingAndWithdrawingABoard : Prop :=
  (∀ (s : State) (body extra : List Byte) (slot : Nat) (c : Context), body.length = 5 → s.jam.run ≠ .unconfigured →
    at8 body 4 ≤ 7 → currentWith s (at32 body 0) = some slot → ctxAt s slot = some c →
    (c.skipMask.getLsbD (at8 body 4) = true → ∃ t, exec (.imageSkip (framed body extra)) s = .next t ∧
      t.work = { s.work with
        response := { result := .done, code := 0x42, number := (s.console.response.number + 1) % 256, body := .empty } }) ∧
    (c.skipMask.getLsbD (at8 body 4) = false → ∃ t c', exec (.imageSkip (framed body extra)) s = .next t ∧
      ctxAt t slot = some c' ∧ c'.skipMask = c.skipMask ||| (1#8 <<< at8 body 4) ∧ c'.serial = c.serial ∧
      t.console.response =
        { result := .done, code := 0x42, number := (s.console.response.number + 1) % 256, body := .empty })) ∧
  (∀ (s : State) (body extra : List Byte) (slot : Nat), body.length = 4 → s.jam.run ≠ .unconfigured →
    at32 body 0 ≠ 0 → transferring s = false → currentWith s (at32 body 0) = some slot → slot < s.boards.slots.length →
    (urgentRoom s = true → ∃ t, exec (.boardWithdraw (framed body extra)) s = .next t ∧ ctxAt t slot = none ∧
      t.line.urgent = s.line.urgent ++ [.withdraw (at32 body 0)] ∧ t.boards.withdrawOpen = true ∧
      (∀ i, i ≠ slot → (ctxAt t i).map Context.unjudged = (ctxAt s i).map Context.unjudged) ∧
      t.console.response =
        { result := .done, code := 0x41, number := (s.console.response.number + 1) % 256, body := .empty }) ∧
    (urgentRoom s = false →
      exec (.boardWithdraw (framed body extra)) s = .next (respond s .refusedFull 0x41 .empty))) ∧
  (∀ (s : State) (body extra : List Byte) (slot : Nat) (l : LoadSlot), body.length = 4 → s.jam.run ≠ .unconfigured →
    at32 body 0 ≠ 0 → (transferring s = true ∨ currentWith s (at32 body 0) = none) → headOfLine s = true →
    s.boards.load = some l → l.serial = at32 body 0 →
    slotOf s (fun c => c.state == .expected && c.serial == at32 body 0) = some slot → slot < s.boards.slots.length →
    (urgentRoom s = true → ∃ t, exec (.boardWithdraw (framed body extra)) s = .next t ∧ ctxAt t slot = none ∧
      t.line.urgent = s.line.urgent ++ [.withdraw (at32 body 0)] ∧ t.boards.load = none ∧
      t.boards.withdrawOpen = s.boards.withdrawOpen ∧
      (∀ i, i ≠ slot → (ctxAt t i).map Context.unjudged = (ctxAt s i).map Context.unjudged) ∧
      t.console.response =
        { result := .done, code := 0x41, number := (s.console.response.number + 1) % 256, body := .empty }) ∧
    (urgentRoom s = false →
      exec (.boardWithdraw (framed body extra)) s = .next (respond s .refusedFull 0x41 .empty))) ∧
  (∀ s : State, (mayOpenClamp s = true → ∃ t, exec .withdrawClampOpen s = .next t ∧
      t.work = { s.work with clamp := (false, false, false)
                             levels := { s.inputs with clampClosed := false, lineReleased := false } }) ∧
    (mayOpenClamp s = false → exec .withdrawClampOpen s = .next s))

/-- O53. INDEX_HOLD_LEVEL_CHANGE and LINE_INDEX (R126, R127; log 26): a release of a line that the part does not pull starts the
2 ms qualification, and a pull stops it; when it has run out the line index begins a transfer, in which the CURRENT context
departs with its clamp open and, at a FIRST or MIDDLE station, its passport built. The line is pulled at once; at a station with
nothing to move the transfer completes in the same step, and the next qualification waits for a new release. Without qualification
there is no index. -/
def Obligations.TheHoldLineGivesTheLineIndex : Prop :=
  ∀ s : State,
    (s.boards.pulled = false → s.inputs.lineReleased = false →
      exec (.indexHoldLevelChange true) s = .next ((s.setInputs { s.inputs with lineReleased := true }).setBoards
        { s.boards with qualify := some 2000 })) ∧
    (exec (.indexHoldLevelChange false) s = .next ((s.setInputs { s.inputs with lineReleased := false }).setBoards
      { s.boards with qualify := none })) ∧
    (s.boards.qualify = none → exec .lineIndex s = .next s) ∧
    (∀ slot c, s.boards.qualify.isSome = true → currentSlot s = some slot → ctxAt s slot = some c →
      departingSlot s = none → s.inputs.guardOpen = false → ∃ t c', exec .lineIndex s = .next t ∧
      ctxAt t slot = some c' ∧ c'.serial = c.serial ∧ c'.state = .departing ∧ t.boards.clampOut = false ∧
      t.boards.passIn = none ∧ t.boards.qualify = none ∧ t.boards.pulled = true ∧
      (∃ x, t.boards.transfer = some x ∧ x.departs = true ∧ x.exited = false ∧ x.arrived = false ∧
        x.limit = some (ms (cfg s).transferLimit)) ∧
      t.boards.passOut = (if (cfg s).role = .first ∨ (cfg s).role = .middle then buildPassport s c
                          else s.boards.passOut)) ∧
    (s.boards.qualify.isSome = true → (∀ o ∈ s.boards.slots, o = none) → headOfLine s = true → s.boards.load = none → ∃ t,
      exec .lineIndex s = .next t ∧ t.boards.transfer = none ∧ t.boards.qualify = none ∧ t.inputs.lineReleased = false ∧
      t.work = { s.work with passIn := none, passWait := none, transfer := none })

/-- O54. The board sensors, the clamp and the passport wait (R125, R128, R133): outside a transfer the entry sensor changes its
level alone; a board at the stop with an ARRIVING context closes the clamp; the exit sensor and the clamp-closed input are
taken; when all is done the ARRIVING context is CURRENT at this station and the transfer is over. A board at the stop with no
ARRIVING context is unexpected (R129): it gets a context, UNIDENTIFIED and NO_PROGRAM, whose pairing is awaited. An expired
passport wait with an empty buffer settles the pairing with NO_PASSPORT. The model's choices: a CLAMP_CLOSED report with the
clamp output open is ignored (log 25), a transfer whose limit has not expired completes in any run state (log 16), the
unexpected context stands at s - 1 (log 38) in the lowest empty slot (log 53). -/
def Obligations.SensorsCompleteTheTransfer : Prop :=
  ∀ s : State,
    (exec .entrySensorEmpty s = .next (finish false s (s.setInputs { s.inputs with entryBoard := false })) ∧
      ∃ t, exec .entrySensorEmpty s = .next t ∧
        t.work = { s.work with levels := { s.inputs with entryBoard := false, lineReleased := false } }) ∧
    (s.boards.transfer = none → ∃ t, exec .entrySensor s = .next t ∧
      t.work = { s.work with levels := { s.inputs with entryBoard := true, lineReleased := false } }) ∧
    (∀ x, s.boards.transfer = some x → (arrivingSlot s).isSome = true → s.inputs.guardOpen = false →
      s.inputs.clampClosed = false → ∃ t, exec .entrySensor s = .next t ∧
      t.work = { s.work with
        levels := { s.inputs with entryBoard := true, lineReleased := false }
        clamp := (true, true, s.boards.withdrawOpen), transfer := some { x with arrived := true } }) ∧
    (∀ x slot, s.boards.transfer = some x → arrivingSlot s = none → emptySlot s = some slot →
      (∀ i c, ctxAt s i = some c → c.entered = false) → s.boards.passIn = none → s.inputs.guardOpen = false →
      s.inputs.clampClosed = false → ∃ t, exec .entrySensor s = .next t ∧
      t.work = { s.work with
        levels := { s.inputs with entryBoard := true, lineReleased := false }
        clamp := (true, true, s.boards.withdrawOpen), transfer := some { x with arrived := true }
        passWait := some (ms (cfg s).passportWait)
        contexts := (s.boards.slots.set slot (some { Context.created 0 none ((cfg s).station - 1) 0 with
          state := .arriving, noProgram := true, pairing := .awaited
          flags := { PassFlags.clear with unidentified := true } })).map fun o => o.map Context.unjudged }) ∧
    (s.boards.transfer = none → exec .exitSensor s = .next s) ∧
    (∀ x, s.boards.transfer = some x → (arrivingSlot s).isSome = true → x.arrived = false → ∃ t,
      exec .exitSensor s = .next t ∧ t.work = { s.work with transfer := some { x with exited := true } }) ∧
    (s.boards.clampOut = false → exec .clampClosed s = .next s) ∧
    (s.boards.clampOut = true → s.boards.transfer = none → ∃ t, exec .clampClosed s = .next t ∧
      t.work = { s.work with levels := { s.inputs with clampClosed := true, lineReleased := false } }) ∧
    (∀ x slot c, s.boards.clampOut = true → s.boards.transfer = some x → x.departs = false → x.arrived = true →
      x.jammed = false → departingSlot s = none → arrivingSlot s = some slot → ctxAt s slot = some c → c.serial ≠ 0 → ∃ t c',
      exec .clampClosed s = .next t ∧ t.boards.transfer = none ∧ ctxAt t slot = some c' ∧ c'.serial = c.serial ∧
      c'.state = .current ∧ c'.position = (cfg s).station) ∧
    (∀ slot c, s.boards.passWait.isSome = true → s.boards.passIn = none → awaitedSlot s = some slot →
      ctxAt s slot = some c → c.flags.unidentified = false → ∃ t, exec .passportWaitExpiry s = .next t ∧
      t.work = { s.work with
        passWait := none
        contexts := (s.boards.slots.set slot (some { c with
          pairing := .settled, flags := { c.flags with noPassport := true } })).map fun o => o.map Context.unjudged }) ∧
    (s.boards.passWait = none → exec .passportWaitExpiry s = .next s)

/-! ### Run control and alarms (chapter 09) -/

/-- O55. START, STOP and RUN_RESET (R165, R166, R172). START in READY with the home valid and the table free makes the station
RUNNING; STOP in RUNNING makes it STOPPING with the qualifier, or READY once nothing is in progress; RUN_RESET empties the
contexts, the load slot, the passport buffers and the alarm list, makes the chain unknown and requires a purge, and leaves READY
or IDLE by the home. In the other run states they are refused. -/
def Obligations.StartStopAndRunReset : Prop :=
  ∀ (s : State) (extra : List Byte), s.jam.run ≠ .unconfigured →
    (s.jam.run = .ready → s.table.homeValid = true → s.table.op = .none → s.boards.transfer = none → ∃ t,
      exec (.start (framed [] extra)) s = .next t ∧ t.jam.run = .running ∧ t.jam.qualifier = none ∧
      t.work = { s.work with
        response := { result := .started, code := 0x50, number := (s.console.response.number + 1) % 256, body := .empty } }) ∧
    (s.jam.run ≠ .ready ∨ s.table.homeValid = false ∨ tableBusy s = true →
      exec (.start (framed [] extra)) s = .next (respond s .refusedState 0x50 .empty)) ∧
    (s.jam.run = .running → ∃ t, exec (.stop (framed [0] extra)) s = .next t ∧
      (t.jam.run = .stopping ∧ t.jam.qualifier = some .atRest ∨ t.jam.run = .ready ∧ t.jam.qualifier = none) ∧
      t.work = { s.work with
        response := { result := .started, code := 0x51, number := (s.console.response.number + 1) % 256, body := .empty } }) ∧
    (∀ slot c, s.jam.run = .running → currentSlot s = some slot → ctxAt s slot = some c → c.planClosed = true → ∃ t,
      exec (.stop (framed [1] extra)) s = .next t ∧ t.jam.run = .stopping ∧ t.jam.qualifier = some .atBoardEnd ∧
      t.work = { s.work with
        response := { result := .started, code := 0x51, number := (s.console.response.number + 1) % 256, body := .empty } }) ∧
    (∀ q : Byte, 1 < q.toNat →
      exec (.stop (framed [q] extra)) s = .next (respond s .refusedRange 0x51 .empty)) ∧
    (∀ q : Byte, q.toNat ≤ 1 → s.jam.run ≠ .running → s.jam.run ≠ .stopping →
      exec (.stop (framed [q] extra)) s = .next (respond s .refusedState 0x51 .empty)) ∧
    (s.jam.run = .running ∨ s.jam.run = .stopping ∨ s.jam.run = .halting →
      exec (.runReset (framed [] extra)) s = .next (respond s .refusedState 0x52 .empty)) ∧
    (s.jam.run = .idle ∨ s.jam.run = .ready ∨ s.jam.run = .halted → ∃ t,
      exec (.runReset (framed [] extra)) s = .next t ∧
      t.jam.run = (if s.table.homeValid then .ready else .idle) ∧ t.jam.qualifier = none ∧ t.work.stops = [] ∧
      (downstreamMissing s = false → t.jam.alarms = []) ∧
      t.jam.unrecordedHalt = false ∧ t.jam.purgeCount = 0 ∧
      t.boards.slots = [none, none, none, none, none] ∧ t.boards.passIn = none ∧ t.boards.passOut = [] ∧
      t.boards.load = none ∧ t.boards.transfer = none ∧
      t.chain = { s.chain with clips := s.chain.clips.map (fun _ => .unknown), purgeRequired := true, measurement := none } ∧
      t.disp = { s.disp with records := s.disp.records.map fun r => { r with outstanding := none, missed := none } } ∧
      t.planner = PassSummary.initial ∧ t.stroke.jaw = (if s.stroke.jaw = .empty then .empty else .waste none) ∧
      t.stroke.missCount = 0 ∧ t.stroke.revCount = s.stroke.revCount ∧ t.table = s.table ∧ t.store = s.store ∧
      t.pose.last = s.pose.last ∧ t.pose.clean = s.pose.clean ∧ t.line.urgent = s.line.urgent ∧
      t.line.roster = s.line.roster ∧
      t.console.response =
        { result := .started, code := 0x52, number := (s.console.response.number + 1) % 256, body := .empty })

/-- O56. ALARM_ACK and ALARM_CLEAR (R171, R177, R178) in every run state: number 0 is answered REFUSED_RANGE and a number not
held REFUSED_STATE; ALARM_ACK makes the entry ACKED and changes no other state; ALARM_CLEAR removes a NOTE entry in any run
state and a STOP entry in HALTED alone (the end of the command may add DOWNSTREAM_ABSENT at a station whose next one is
absent), and when no STOP entry remains a HALTED station is READY or IDLE by its home. -/
def Obligations.AlarmsAreAcknowledgedAndCleared : Prop :=
  ∀ (s : State) (body extra : List Byte), body.length = 2 →
    (at16 body 0 = 0 →
      exec (.alarmAck (framed body extra)) s = .next (respond s .refusedRange 0x53 .empty) ∧
      exec (.alarmClear (framed body extra)) s = .next (respond s .refusedRange 0x54 .empty)) ∧
    (1 ≤ at16 body 0 → (∀ e ∈ s.jam.alarms, e.number ≠ at16 body 0) →
      exec (.alarmAck (framed body extra)) s = .next (respond s .refusedState 0x53 .empty) ∧
      exec (.alarmClear (framed body extra)) s = .next (respond s .refusedState 0x54 .empty)) ∧
    (∀ e ∈ s.jam.alarms, 1 ≤ e.number → e.number = at16 body 0 →
      exec (.alarmAck (framed body extra)) s = .next (respond (s.setJam { s.jam with
        alarms := s.jam.alarms.map fun x => if x.number = e.number then { x with acked := true } else x })
        .done 0x53 .empty)) ∧
    (∀ e ∈ s.jam.alarms, 1 ≤ e.number → e.number = at16 body 0 → (∀ x ∈ s.jam.alarms, x.number = e.number → x = e) →
      (e.cls.stop = true → s.jam.run ≠ .halted →
        exec (.alarmClear (framed body extra)) s = .next (respond s .refusedState 0x54 .empty)) ∧
      (e.cls.stop = false → ∃ t, exec (.alarmClear (framed body extra)) s = .next t ∧
        t.work = { s.work with
          response := { result := .done, code := 0x54, number := (s.console.response.number + 1) % 256, body := .empty } } ∧
        (downstreamMissing s = false → t.jam.alarms = s.jam.alarms.filter (fun x => x.number ≠ e.number))) ∧
      (e.cls.stop = true → s.jam.run = .halted → s.jam.unrecordedHalt = false → ∃ t,
        exec (.alarmClear (framed body extra)) s = .next t ∧
        t.work = { s.work with
          stops := s.work.stops.filter (fun x => x.number ≠ e.number)
          response := { result := .done, code := 0x54, number := (s.console.response.number + 1) % 256, body := .empty } } ∧
        t.jam.run = (if s.work.stops.filter (fun x => x.number ≠ e.number) = [] then
            (if s.table.homeValid then .ready else .idle) else .halted) ∧
        (downstreamMissing s = false → t.jam.alarms = s.jam.alarms.filter (fun x => x.number ≠ e.number))))

/-! ### The line (chapters 08 and 11) -/

/-- O57. Sending and the line's timers (R142, R144, R145, R148, R150, R151, R162): the next frame comes from the urgent queue,
then the passport, then the normal queue; a frame sent leaves its source and the status interval starts again; a failed attempt
leaves it in place, and one of the normal queue stays closed to replacement until it has been sent (R147); a dropped frame
counts an error; a silent station becomes absent; at the interval a STATUS is queued when none is. The commands that say what
the wire does are the model's choice (log 35). -/
def Obligations.SendingAndTheLinesTimers : Prop :=
  ∀ s : State,
    (s.line.sending.isSome = true ∨ setupDone s = false → exec .frameBegin s = .next s) ∧
    (s.line.sending = none → s.line.urgent = [] → s.boards.passOut = [] → s.line.normal = [] →
      exec .frameBegin s = .next s) ∧
    (s.line.sending = none → setupDone s = true → ∀ f src,
      (src = .urgent ∧ s.line.urgent.head? = some f ∨
       src = .passport ∧ s.line.urgent = [] ∧ s.boards.passOut.head? = some f ∨
       src = .normal ∧ s.line.urgent = [] ∧ s.boards.passOut = [] ∧ s.line.normal.head? = some f) →
      exec .frameBegin s = .next (s.setLine { s.line with
        sending := some { frame := f, source := some src, withdrawn := false }
        begunNormal := s.line.begunNormal || src == .normal })) ∧
    (∀ f w, s.line.sending = some { frame := f, source := some .urgent, withdrawn := w } → ∃ t,
      exec .frameSent s = .next t ∧ t.work = { s.work with
        urgent := s.line.urgent.tail, sending := none, statusTimer := s.line.statusTimer.map fun _ => 0 }) ∧
    (∀ f w, s.line.sending = some { frame := f, source := some .passport, withdrawn := w } → ∃ t,
      exec .frameSent s = .next t ∧ t.work = { s.work with
        passOut := s.boards.passOut.tail, sending := none, statusTimer := s.line.statusTimer.map fun _ => 0 }) ∧
    (∀ f w, s.line.sending = some { frame := f, source := some .normal, withdrawn := w } → ∃ t,
      exec .frameSent s = .next t ∧ t.work = { s.work with
        sending := none, begunNormal := false, statusTimer := s.line.statusTimer.map fun _ => 0 } ∧
      (t.jam.run = s.jam.run → currentSerial t = currentSerial s → t.boards.pulled = s.boards.pulled →
        t.line.normal = s.line.normal.tail)) ∧
    (∀ x, s.line.sending = some x → x.withdrawn = false →
      exec .frameAttemptFailed s = .next (s.setLine { s.line with sending := none })) ∧
    (∀ x, s.line.sending = some x → x.withdrawn = true → x.source = some .urgent →
      exec .frameAttemptFailed s = .next (s.setLine { s.line with sending := none, urgent := s.line.urgent.tail })) ∧
    (s.line.sending = none → exec .frameSent s = .next s ∧ exec .frameAttemptFailed s = .next s) ∧
    exec .frameDropped s = .next (s.setLine { s.line with rxErrors := capAt 65535 (s.line.rxErrors + 1) }) ∧
    (∀ n, 1 ≤ n → n ≤ 15 → (rosterAt s n).silence.isSome = true → ∃ t, exec (.silenceExpiry n) s = .next t ∧
      t.work = { s.work with
        roster := s.line.roster.modify (n - 1) fun _ => { present := false, silence := none, last := none } }) ∧
    (∀ n, (rosterAt s n).silence = none → exec (.silenceExpiry n) s = .next s) ∧
    (s.line.statusTimer.isSome = true → setupDone s = true → (∀ f ∈ s.line.normal, f.isStatus = false) →
      exec .statusIntervalExpiry s = .next (s.setLine { s.line with
        normal := s.line.normal ++ [.status { run := s.jam.run, serial := currentSerial s, holding := s.boards.pulled,
                                              alarm := activeStop s }] })) ∧
    (s.line.statusTimer = none → exec .statusIntervalExpiry s = .next s)

/-- O58. A valid frame heard from another station at a configured station marks its sender present (R148, R150) and is acted
on: STATUS is recorded, WITHDRAW removes the context, CLAIM and OWE change the entries of the held serial, ANNOUNCE creates a
context, and the passport frames of station s - 1 fill the passport-in buffer (R131, R139, R152, R155, R158). An OWE that
passes every condition of R156 is claimed: the item joins the adopted list as PENDING, its entry is CLAIMED by this station,
and a CLAIM is queued (R157). A frame that R148 drops counts an error and does nothing else. A frame with this station's own
number is DUPLICATE_STATION, once while its entry is held, and changes no roster entry (R149). The slot that ANNOUNCE takes is
the lowest empty one (log 53), a head is asked of ARRIVING and CURRENT contexts whether it is paired already (log 64), and the
halt of DUPLICATE_STATION comes before the frame's own effect (log 65): these are the model's choices. -/
def Obligations.FramesHeardAreActedOn : Prop :=
  (∀ (s : State) (c : Setup) (x : StatusContent), s.console.setup = some c → 1 ≤ c.station → c.station ≤ 15 →
    (Frame.status x).wf = true →
    (s.jam.alarms.length < 16 → (∀ e ∈ s.jam.alarms, e.cls ≠ .duplicateStation) →
      (s.jam.run = .idle ∨ s.jam.run = .ready ∨ s.jam.run = .running ∨ s.jam.run = .stopping) → ∃ t,
      exec (.statusFrame ((Frame.status x).toWire c.station)) s = .next t ∧ HaltedBy s t .duplicateStation .none ∧
      t.line.roster = s.line.roster) ∧
    ((∃ e ∈ s.jam.alarms, e.cls = .duplicateStation) → ∃ t,
      exec (.statusFrame ((Frame.status x).toWire c.station)) s = .next t ∧ t.work = s.work)) ∧
  ∀ (s : State) (c : Setup) (n : Nat), s.console.setup = some c → 1 ≤ n → n ≤ 15 → n ≠ c.station →
    s.line.roster.length = 15 →
    (∀ k f, parseHeard k f = none → exec (frameCommand k f) s = .next (s.setLine { s.line with
      rxErrors := capAt 65535 (s.line.rxErrors + 1) })) ∧
    (∀ x, (Frame.status x).wf = true → ∃ t, exec (.statusFrame ((Frame.status x).toWire n)) s = .next t ∧
      t.work = { s.work with roster := s.line.roster.modify (n - 1) fun _ =>
        { present := true, silence := some (ms c.silence), last := some x } }) ∧
    (∀ serial slot, (Frame.withdraw serial).wf = true → slotOfSerial s serial = some slot → ∃ t,
      exec (.withdrawFrame ((Frame.withdraw serial).toWire n)) s = .next t ∧ ctxAt t slot = none ∧
      (rosterAt t n).present = true) ∧
    (∀ serial, (Frame.withdraw serial).wf = true → slotOfSerial s serial = none → s.boards.passIn = none →
      s.boards.transfer = none → ∃ t, exec (.withdrawFrame ((Frame.withdraw serial).toWire n)) s = .next t ∧
      t.work = { s.work with roster := s.line.roster.modify (n - 1) fun e =>
        { e with present := true, silence := some (ms c.silence) } }) ∧
    (∀ k image slot x, (Frame.claim k image).wf = true → slotOfSerial s k.serial = some slot → ctxAt s slot = some x →
      x.adoptedFor k = none → ∃ t, exec (.claimFrame ((Frame.claim k image).toWire n)) s = .next t ∧
      t.work = { s.work with
        roster := s.line.roster.modify (n - 1) fun e => { e with present := true, silence := some (ms c.silence) }
        contexts := (s.boards.slots.set slot (some (x.recordClaim k n))).map fun o => o.map Context.unjudged }) ∧
    (∀ d slot x, (Frame.owe d).wf = true → slotOfSerial s d.key.serial = some slot → ctxAt s slot = some x →
      x.entryState d.key = none → d.key.owner < c.station → x.entryCount < 32 → s.jam.run ≠ .running → ∃ t,
      exec (.oweFrame ((Frame.owe d).toWire n)) s = .next t ∧
      t.work = { s.work with
        roster := s.line.roster.modify (n - 1) fun e => { e with present := true, silence := some (ms c.silence) }
        contexts := (s.boards.slots.set slot (some { x with
          upstream := x.upstream ++ [{ item := d, state := .opened }] })).map fun o => o.map Context.unjudged }) ∧
    (∀ d slot x p, (Frame.owe d).wf = true → slotOfSerial s d.key.serial = some slot → ctxAt s slot = some x →
      x.entryState d.key = none → d.key.owner < c.station → x.entryCount < 32 → s.jam.run = .running → n < c.station →
      (x.state = .expected ∨ x.state = .current) → x.planClosed = false → x.adoptedFor d.key = none →
      x.adopted.length < 16 → partAvailable s d.part = true → poseOf s x d = .pose p → s.line.urgent.length < 8 → ∃ t,
      exec (.oweFrame ((Frame.owe d).toWire n)) s = .next t ∧
      t.work = { s.work with
        roster := s.line.roster.modify (n - 1) fun e => { e with present := true, silence := some (ms c.silence) }
        urgent := s.line.urgent ++ [.claim d.key d.image]
        contexts := (s.boards.slots.set slot (some { x with
          upstream := x.upstream ++ [{ item := d, state := .claimed c.station }]
          adopted := x.adopted ++ [{ item := d, retries := 0, state := .pending }] })).map
            fun o => o.map Context.unjudged }) ∧
    (∀ serial programId p mask slot, (Frame.announce serial programId p mask).wf = true → headOfLine s = false →
      slotOfSerial s serial = none → c.station ≤ p + 4 → p < c.station → emptySlot s = some slot →
      (∀ i y, ctxAt s i = some y → y.state ≠ .expected) → lookupBank s programId = none → ∃ t,
      exec (.announceFrame ((Frame.announce serial programId p mask).toWire n)) s = .next t ∧
      t.work = { s.work with
        roster := s.line.roster.modify (n - 1) fun e => { e with present := true, silence := some (ms c.silence) }
        contexts := (s.boards.slots.set slot (some { Context.created serial (some programId) p mask with
          noProgram := true })).map fun o => o.map Context.unjudged }) ∧
    (∀ h, (Frame.passportHead h).wf = true → headOfLine s = false → n + 1 = c.station → alreadyPaired s h.serial = false →
      awaitedSlot s = none → ∃ t, exec (.passportHead ((Frame.passportHead h).toWire n)) s = .next t ∧
      t.work = { s.work with
        roster := s.line.roster.modify (n - 1) fun e => { e with present := true, silence := some (ms c.silence) }
        passIn := some { head := h, entries := List.replicate h.count none } }) ∧
    (∀ index e b, (Frame.passportEntry index e).wf = true → headOfLine s = false → n + 1 = c.station →
      s.boards.passIn = some b → e.item.key.serial = b.head.serial → index < b.head.count →
      b.entries.getD index none = none → awaitedSlot s = none → ∃ t,
      exec (.passportEntry ((Frame.passportEntry index e).toWire n)) s = .next t ∧
      t.work = { s.work with
        roster := s.line.roster.modify (n - 1) fun e => { e with present := true, silence := some (ms c.silence) }
        passIn := some { b with entries := b.entries.set index (some e) } })

/-! ### Formats (chapter 11) -/

/-- O59. What a station sends another receives (R143, R148, R193, R194): the bits of a frame, stuffed and unstuffed, give the
command that hears the frame, with every field at every value its width admits; a frame formed from a content in range passes
the checks of R148 and gives its sender and its content back. That a stuff bit follows the last CRC bit when the last five bits
are alike is the model's choice (log 33, PRESUMED: R193 leaves it open). -/
def Obligations.TheWireCarriesEveryFrame : Prop :=
  (∀ (k : FrameKind) (f : HeardFrame), f.wf = true → decodeWire (encodeWire k f) = frameCommand k f) ∧
  (∀ (f : Frame) (n : Nat), f.wf = true → 1 ≤ n → n ≤ 15 → (f.toWire n).wf = true ∧
    parseHeard f.kind (f.toWire n) = some (n, f) ∧
    decodeWire (encodeWire f.kind (f.toWire n)) = frameCommand f.kind (f.toWire n))

/-- O60. The bytes of a transaction give back the command they carry (R183, R195), and a cam code the mark it delivers (R97). -/
def Obligations.TransactionsAndCamCodesDecode : Prop :=
  (∀ (c : Instr) (bytes : List Byte), c.wf = true → encodeTransaction c = some bytes → decodeTransaction bytes = c) ∧
  (∀ bytes : List Byte, encodeTransaction (decodeTransaction bytes) = some bytes) ∧
  (∀ (c : Instr) (code : BitVec 4), encodeCamCode c = some code → decodeCamCode code = some c) ∧
  (∀ (c : Instr) (code : BitVec 4), decodeCamCode code = some c → encodeCamCode c = some code)
end

