-- ==== Sys2Proof/Laws/State.lean ====
section
/-! SUPPORT. One lemma for each block of the state and each update: what the update leaves in the block. -/

namespace Sys2Proof.Machine

@[simp] theorem State.setStore_store (s : State) (v : Store) : (s.setStore v).store = v := rfl
@[simp] theorem State.setStore_disp (s : State) (v : Store) : (s.setStore v).disp = s.disp := rfl
@[simp] theorem State.setStore_chain (s : State) (v : Store) : (s.setStore v).chain = s.chain := rfl
@[simp] theorem State.setStore_planner (s : State) (v : Store) : (s.setStore v).planner = s.planner := rfl
@[simp] theorem State.setStore_pose (s : State) (v : Store) : (s.setStore v).pose = s.pose := rfl
@[simp] theorem State.setStore_table (s : State) (v : Store) : (s.setStore v).table = s.table := rfl
@[simp] theorem State.setStore_stroke (s : State) (v : Store) : (s.setStore v).stroke = s.stroke := rfl
@[simp] theorem State.setStore_boards (s : State) (v : Store) : (s.setStore v).boards = s.boards := rfl
@[simp] theorem State.setStore_line (s : State) (v : Store) : (s.setStore v).line = s.line := rfl
@[simp] theorem State.setStore_jam (s : State) (v : Store) : (s.setStore v).jam = s.jam := rfl
@[simp] theorem State.setStore_console (s : State) (v : Store) : (s.setStore v).console = s.console := rfl
@[simp] theorem State.setStore_inputs (s : State) (v : Store) : (s.setStore v).inputs = s.inputs := rfl
@[simp] theorem State.setStore_pending (s : State) (v : Store) : (s.setStore v).pending = s.pending := rfl

@[simp] theorem State.setDisp_store (s : State) (v : DispUnit) : (s.setDisp v).store = s.store := rfl
@[simp] theorem State.setDisp_disp (s : State) (v : DispUnit) : (s.setDisp v).disp = v := rfl
@[simp] theorem State.setDisp_chain (s : State) (v : DispUnit) : (s.setDisp v).chain = s.chain := rfl
@[simp] theorem State.setDisp_planner (s : State) (v : DispUnit) : (s.setDisp v).planner = s.planner := rfl
@[simp] theorem State.setDisp_pose (s : State) (v : DispUnit) : (s.setDisp v).pose = s.pose := rfl
@[simp] theorem State.setDisp_table (s : State) (v : DispUnit) : (s.setDisp v).table = s.table := rfl
@[simp] theorem State.setDisp_stroke (s : State) (v : DispUnit) : (s.setDisp v).stroke = s.stroke := rfl
@[simp] theorem State.setDisp_boards (s : State) (v : DispUnit) : (s.setDisp v).boards = s.boards := rfl
@[simp] theorem State.setDisp_line (s : State) (v : DispUnit) : (s.setDisp v).line = s.line := rfl
@[simp] theorem State.setDisp_jam (s : State) (v : DispUnit) : (s.setDisp v).jam = s.jam := rfl
@[simp] theorem State.setDisp_console (s : State) (v : DispUnit) : (s.setDisp v).console = s.console := rfl
@[simp] theorem State.setDisp_inputs (s : State) (v : DispUnit) : (s.setDisp v).inputs = s.inputs := rfl
@[simp] theorem State.setDisp_pending (s : State) (v : DispUnit) : (s.setDisp v).pending = s.pending := rfl

@[simp] theorem State.setChain_store (s : State) (v : Chain) : (s.setChain v).store = s.store := rfl
@[simp] theorem State.setChain_disp (s : State) (v : Chain) : (s.setChain v).disp = s.disp := rfl
@[simp] theorem State.setChain_chain (s : State) (v : Chain) : (s.setChain v).chain = v := rfl
@[simp] theorem State.setChain_planner (s : State) (v : Chain) : (s.setChain v).planner = s.planner := rfl
@[simp] theorem State.setChain_pose (s : State) (v : Chain) : (s.setChain v).pose = s.pose := rfl
@[simp] theorem State.setChain_table (s : State) (v : Chain) : (s.setChain v).table = s.table := rfl
@[simp] theorem State.setChain_stroke (s : State) (v : Chain) : (s.setChain v).stroke = s.stroke := rfl
@[simp] theorem State.setChain_boards (s : State) (v : Chain) : (s.setChain v).boards = s.boards := rfl
@[simp] theorem State.setChain_line (s : State) (v : Chain) : (s.setChain v).line = s.line := rfl
@[simp] theorem State.setChain_jam (s : State) (v : Chain) : (s.setChain v).jam = s.jam := rfl
@[simp] theorem State.setChain_console (s : State) (v : Chain) : (s.setChain v).console = s.console := rfl
@[simp] theorem State.setChain_inputs (s : State) (v : Chain) : (s.setChain v).inputs = s.inputs := rfl
@[simp] theorem State.setChain_pending (s : State) (v : Chain) : (s.setChain v).pending = s.pending := rfl

@[simp] theorem State.setPlanner_store (s : State) (v : PassSummary) : (s.setPlanner v).store = s.store := rfl
@[simp] theorem State.setPlanner_disp (s : State) (v : PassSummary) : (s.setPlanner v).disp = s.disp := rfl
@[simp] theorem State.setPlanner_chain (s : State) (v : PassSummary) : (s.setPlanner v).chain = s.chain := rfl
@[simp] theorem State.setPlanner_planner (s : State) (v : PassSummary) : (s.setPlanner v).planner = v := rfl
@[simp] theorem State.setPlanner_pose (s : State) (v : PassSummary) : (s.setPlanner v).pose = s.pose := rfl
@[simp] theorem State.setPlanner_table (s : State) (v : PassSummary) : (s.setPlanner v).table = s.table := rfl
@[simp] theorem State.setPlanner_stroke (s : State) (v : PassSummary) : (s.setPlanner v).stroke = s.stroke := rfl
@[simp] theorem State.setPlanner_boards (s : State) (v : PassSummary) : (s.setPlanner v).boards = s.boards := rfl
@[simp] theorem State.setPlanner_line (s : State) (v : PassSummary) : (s.setPlanner v).line = s.line := rfl
@[simp] theorem State.setPlanner_jam (s : State) (v : PassSummary) : (s.setPlanner v).jam = s.jam := rfl
@[simp] theorem State.setPlanner_console (s : State) (v : PassSummary) : (s.setPlanner v).console = s.console := rfl
@[simp] theorem State.setPlanner_inputs (s : State) (v : PassSummary) : (s.setPlanner v).inputs = s.inputs := rfl
@[simp] theorem State.setPlanner_pending (s : State) (v : PassSummary) : (s.setPlanner v).pending = s.pending := rfl

@[simp] theorem State.setPose_store (s : State) (v : PoseUnit) : (s.setPose v).store = s.store := rfl
@[simp] theorem State.setPose_disp (s : State) (v : PoseUnit) : (s.setPose v).disp = s.disp := rfl
@[simp] theorem State.setPose_chain (s : State) (v : PoseUnit) : (s.setPose v).chain = s.chain := rfl
@[simp] theorem State.setPose_planner (s : State) (v : PoseUnit) : (s.setPose v).planner = s.planner := rfl
@[simp] theorem State.setPose_pose (s : State) (v : PoseUnit) : (s.setPose v).pose = v := rfl
@[simp] theorem State.setPose_table (s : State) (v : PoseUnit) : (s.setPose v).table = s.table := rfl
@[simp] theorem State.setPose_stroke (s : State) (v : PoseUnit) : (s.setPose v).stroke = s.stroke := rfl
@[simp] theorem State.setPose_boards (s : State) (v : PoseUnit) : (s.setPose v).boards = s.boards := rfl
@[simp] theorem State.setPose_line (s : State) (v : PoseUnit) : (s.setPose v).line = s.line := rfl
@[simp] theorem State.setPose_jam (s : State) (v : PoseUnit) : (s.setPose v).jam = s.jam := rfl
@[simp] theorem State.setPose_console (s : State) (v : PoseUnit) : (s.setPose v).console = s.console := rfl
@[simp] theorem State.setPose_inputs (s : State) (v : PoseUnit) : (s.setPose v).inputs = s.inputs := rfl
@[simp] theorem State.setPose_pending (s : State) (v : PoseUnit) : (s.setPose v).pending = s.pending := rfl

@[simp] theorem State.setTable_store (s : State) (v : Table) : (s.setTable v).store = s.store := rfl
@[simp] theorem State.setTable_disp (s : State) (v : Table) : (s.setTable v).disp = s.disp := rfl
@[simp] theorem State.setTable_chain (s : State) (v : Table) : (s.setTable v).chain = s.chain := rfl
@[simp] theorem State.setTable_planner (s : State) (v : Table) : (s.setTable v).planner = s.planner := rfl
@[simp] theorem State.setTable_pose (s : State) (v : Table) : (s.setTable v).pose = s.pose := rfl
@[simp] theorem State.setTable_table (s : State) (v : Table) : (s.setTable v).table = v := rfl
@[simp] theorem State.setTable_stroke (s : State) (v : Table) : (s.setTable v).stroke = s.stroke := rfl
@[simp] theorem State.setTable_boards (s : State) (v : Table) : (s.setTable v).boards = s.boards := rfl
@[simp] theorem State.setTable_line (s : State) (v : Table) : (s.setTable v).line = s.line := rfl
@[simp] theorem State.setTable_jam (s : State) (v : Table) : (s.setTable v).jam = s.jam := rfl
@[simp] theorem State.setTable_console (s : State) (v : Table) : (s.setTable v).console = s.console := rfl
@[simp] theorem State.setTable_inputs (s : State) (v : Table) : (s.setTable v).inputs = s.inputs := rfl
@[simp] theorem State.setTable_pending (s : State) (v : Table) : (s.setTable v).pending = s.pending := rfl

@[simp] theorem State.setStroke_store (s : State) (v : Stroke) : (s.setStroke v).store = s.store := rfl
@[simp] theorem State.setStroke_disp (s : State) (v : Stroke) : (s.setStroke v).disp = s.disp := rfl
@[simp] theorem State.setStroke_chain (s : State) (v : Stroke) : (s.setStroke v).chain = s.chain := rfl
@[simp] theorem State.setStroke_planner (s : State) (v : Stroke) : (s.setStroke v).planner = s.planner := rfl
@[simp] theorem State.setStroke_pose (s : State) (v : Stroke) : (s.setStroke v).pose = s.pose := rfl
@[simp] theorem State.setStroke_table (s : State) (v : Stroke) : (s.setStroke v).table = s.table := rfl
@[simp] theorem State.setStroke_stroke (s : State) (v : Stroke) : (s.setStroke v).stroke = v := rfl
@[simp] theorem State.setStroke_boards (s : State) (v : Stroke) : (s.setStroke v).boards = s.boards := rfl
@[simp] theorem State.setStroke_line (s : State) (v : Stroke) : (s.setStroke v).line = s.line := rfl
@[simp] theorem State.setStroke_jam (s : State) (v : Stroke) : (s.setStroke v).jam = s.jam := rfl
@[simp] theorem State.setStroke_console (s : State) (v : Stroke) : (s.setStroke v).console = s.console := rfl
@[simp] theorem State.setStroke_inputs (s : State) (v : Stroke) : (s.setStroke v).inputs = s.inputs := rfl
@[simp] theorem State.setStroke_pending (s : State) (v : Stroke) : (s.setStroke v).pending = s.pending := rfl

@[simp] theorem State.setBoards_store (s : State) (v : Boards) : (s.setBoards v).store = s.store := rfl
@[simp] theorem State.setBoards_disp (s : State) (v : Boards) : (s.setBoards v).disp = s.disp := rfl
@[simp] theorem State.setBoards_chain (s : State) (v : Boards) : (s.setBoards v).chain = s.chain := rfl
@[simp] theorem State.setBoards_planner (s : State) (v : Boards) : (s.setBoards v).planner = s.planner := rfl
@[simp] theorem State.setBoards_pose (s : State) (v : Boards) : (s.setBoards v).pose = s.pose := rfl
@[simp] theorem State.setBoards_table (s : State) (v : Boards) : (s.setBoards v).table = s.table := rfl
@[simp] theorem State.setBoards_stroke (s : State) (v : Boards) : (s.setBoards v).stroke = s.stroke := rfl
@[simp] theorem State.setBoards_boards (s : State) (v : Boards) : (s.setBoards v).boards = v := rfl
@[simp] theorem State.setBoards_line (s : State) (v : Boards) : (s.setBoards v).line = s.line := rfl
@[simp] theorem State.setBoards_jam (s : State) (v : Boards) : (s.setBoards v).jam = s.jam := rfl
@[simp] theorem State.setBoards_console (s : State) (v : Boards) : (s.setBoards v).console = s.console := rfl
@[simp] theorem State.setBoards_inputs (s : State) (v : Boards) : (s.setBoards v).inputs = s.inputs := rfl
@[simp] theorem State.setBoards_pending (s : State) (v : Boards) : (s.setBoards v).pending = s.pending := rfl

@[simp] theorem State.setLine_store (s : State) (v : Line) : (s.setLine v).store = s.store := rfl
@[simp] theorem State.setLine_disp (s : State) (v : Line) : (s.setLine v).disp = s.disp := rfl
@[simp] theorem State.setLine_chain (s : State) (v : Line) : (s.setLine v).chain = s.chain := rfl
@[simp] theorem State.setLine_planner (s : State) (v : Line) : (s.setLine v).planner = s.planner := rfl
@[simp] theorem State.setLine_pose (s : State) (v : Line) : (s.setLine v).pose = s.pose := rfl
@[simp] theorem State.setLine_table (s : State) (v : Line) : (s.setLine v).table = s.table := rfl
@[simp] theorem State.setLine_stroke (s : State) (v : Line) : (s.setLine v).stroke = s.stroke := rfl
@[simp] theorem State.setLine_boards (s : State) (v : Line) : (s.setLine v).boards = s.boards := rfl
@[simp] theorem State.setLine_line (s : State) (v : Line) : (s.setLine v).line = v := rfl
@[simp] theorem State.setLine_jam (s : State) (v : Line) : (s.setLine v).jam = s.jam := rfl
@[simp] theorem State.setLine_console (s : State) (v : Line) : (s.setLine v).console = s.console := rfl
@[simp] theorem State.setLine_inputs (s : State) (v : Line) : (s.setLine v).inputs = s.inputs := rfl
@[simp] theorem State.setLine_pending (s : State) (v : Line) : (s.setLine v).pending = s.pending := rfl

@[simp] theorem State.setJam_store (s : State) (v : Jam) : (s.setJam v).store = s.store := rfl
@[simp] theorem State.setJam_disp (s : State) (v : Jam) : (s.setJam v).disp = s.disp := rfl
@[simp] theorem State.setJam_chain (s : State) (v : Jam) : (s.setJam v).chain = s.chain := rfl
@[simp] theorem State.setJam_planner (s : State) (v : Jam) : (s.setJam v).planner = s.planner := rfl
@[simp] theorem State.setJam_pose (s : State) (v : Jam) : (s.setJam v).pose = s.pose := rfl
@[simp] theorem State.setJam_table (s : State) (v : Jam) : (s.setJam v).table = s.table := rfl
@[simp] theorem State.setJam_stroke (s : State) (v : Jam) : (s.setJam v).stroke = s.stroke := rfl
@[simp] theorem State.setJam_boards (s : State) (v : Jam) : (s.setJam v).boards = s.boards := rfl
@[simp] theorem State.setJam_line (s : State) (v : Jam) : (s.setJam v).line = s.line := rfl
@[simp] theorem State.setJam_jam (s : State) (v : Jam) : (s.setJam v).jam = v := rfl
@[simp] theorem State.setJam_console (s : State) (v : Jam) : (s.setJam v).console = s.console := rfl
@[simp] theorem State.setJam_inputs (s : State) (v : Jam) : (s.setJam v).inputs = s.inputs := rfl
@[simp] theorem State.setJam_pending (s : State) (v : Jam) : (s.setJam v).pending = s.pending := rfl

@[simp] theorem State.setConsole_store (s : State) (v : Console) : (s.setConsole v).store = s.store := rfl
@[simp] theorem State.setConsole_disp (s : State) (v : Console) : (s.setConsole v).disp = s.disp := rfl
@[simp] theorem State.setConsole_chain (s : State) (v : Console) : (s.setConsole v).chain = s.chain := rfl
@[simp] theorem State.setConsole_planner (s : State) (v : Console) : (s.setConsole v).planner = s.planner := rfl
@[simp] theorem State.setConsole_pose (s : State) (v : Console) : (s.setConsole v).pose = s.pose := rfl
@[simp] theorem State.setConsole_table (s : State) (v : Console) : (s.setConsole v).table = s.table := rfl
@[simp] theorem State.setConsole_stroke (s : State) (v : Console) : (s.setConsole v).stroke = s.stroke := rfl
@[simp] theorem State.setConsole_boards (s : State) (v : Console) : (s.setConsole v).boards = s.boards := rfl
@[simp] theorem State.setConsole_line (s : State) (v : Console) : (s.setConsole v).line = s.line := rfl
@[simp] theorem State.setConsole_jam (s : State) (v : Console) : (s.setConsole v).jam = s.jam := rfl
@[simp] theorem State.setConsole_console (s : State) (v : Console) : (s.setConsole v).console = v := rfl
@[simp] theorem State.setConsole_inputs (s : State) (v : Console) : (s.setConsole v).inputs = s.inputs := rfl
@[simp] theorem State.setConsole_pending (s : State) (v : Console) : (s.setConsole v).pending = s.pending := rfl

@[simp] theorem State.setInputs_store (s : State) (v : Inputs) : (s.setInputs v).store = s.store := rfl
@[simp] theorem State.setInputs_disp (s : State) (v : Inputs) : (s.setInputs v).disp = s.disp := rfl
@[simp] theorem State.setInputs_chain (s : State) (v : Inputs) : (s.setInputs v).chain = s.chain := rfl
@[simp] theorem State.setInputs_planner (s : State) (v : Inputs) : (s.setInputs v).planner = s.planner := rfl
@[simp] theorem State.setInputs_pose (s : State) (v : Inputs) : (s.setInputs v).pose = s.pose := rfl
@[simp] theorem State.setInputs_table (s : State) (v : Inputs) : (s.setInputs v).table = s.table := rfl
@[simp] theorem State.setInputs_stroke (s : State) (v : Inputs) : (s.setInputs v).stroke = s.stroke := rfl
@[simp] theorem State.setInputs_boards (s : State) (v : Inputs) : (s.setInputs v).boards = s.boards := rfl
@[simp] theorem State.setInputs_line (s : State) (v : Inputs) : (s.setInputs v).line = s.line := rfl
@[simp] theorem State.setInputs_jam (s : State) (v : Inputs) : (s.setInputs v).jam = s.jam := rfl
@[simp] theorem State.setInputs_console (s : State) (v : Inputs) : (s.setInputs v).console = s.console := rfl
@[simp] theorem State.setInputs_inputs (s : State) (v : Inputs) : (s.setInputs v).inputs = v := rfl
@[simp] theorem State.setInputs_pending (s : State) (v : Inputs) : (s.setInputs v).pending = s.pending := rfl

@[simp] theorem State.setPending_store (s : State) (v : List Instr) : (s.setPending v).store = s.store := rfl
@[simp] theorem State.setPending_disp (s : State) (v : List Instr) : (s.setPending v).disp = s.disp := rfl
@[simp] theorem State.setPending_chain (s : State) (v : List Instr) : (s.setPending v).chain = s.chain := rfl
@[simp] theorem State.setPending_planner (s : State) (v : List Instr) : (s.setPending v).planner = s.planner := rfl
@[simp] theorem State.setPending_pose (s : State) (v : List Instr) : (s.setPending v).pose = s.pose := rfl
@[simp] theorem State.setPending_table (s : State) (v : List Instr) : (s.setPending v).table = s.table := rfl
@[simp] theorem State.setPending_stroke (s : State) (v : List Instr) : (s.setPending v).stroke = s.stroke := rfl
@[simp] theorem State.setPending_boards (s : State) (v : List Instr) : (s.setPending v).boards = s.boards := rfl
@[simp] theorem State.setPending_line (s : State) (v : List Instr) : (s.setPending v).line = s.line := rfl
@[simp] theorem State.setPending_jam (s : State) (v : List Instr) : (s.setPending v).jam = s.jam := rfl
@[simp] theorem State.setPending_console (s : State) (v : List Instr) : (s.setPending v).console = s.console := rfl
@[simp] theorem State.setPending_inputs (s : State) (v : List Instr) : (s.setPending v).inputs = s.inputs := rfl
@[simp] theorem State.setPending_pending (s : State) (v : List Instr) : (s.setPending v).pending = v := rfl

end Sys2Proof.Machine
end

