-- ==== Sys2Proof/Laws/Sizes.lean ====
section
/-! SUPPORT. What no operation inside a command changes: the program store, the setup record, the response, the queue of
commands, the number of records in every table, and being unconfigured; with, for every such operation, the lemma that
says so. And the capacities that every operation keeps. -/

namespace Sys2Proof.Machine

/-- What the operations of the blocks leave as it is. -/
structure Sizes where
  store : Store
  setup : Option Setup
  response : Response
  pending : List Instr
  dispensers : Nat
  groups : Nat
  clips : Nat
  slots : Nat
  roster : Nat
  unconfigured : Bool

/-- The fixed part of a state. -/
def State.sizes (s : State) : Sizes :=
  { store := s.store, setup := s.console.setup, response := s.console.response, pending := s.pending,
    dispensers := s.disp.records.length, groups := s.disp.groups.length, clips := s.chain.clips.length,
    slots := s.boards.slots.length, roster := s.line.roster.length, unconfigured := s.jam.run == .unconfigured }

/-- The capacities (R146, R176, R189, R196). -/
def State.bounded (s : State) : Prop :=
  s.line.urgent.length ≤ 8 ∧ s.jam.alarms.length ≤ 16 ∧ s.console.reports.length ≤ 16 ∧ s.console.nextReport < 65536 ∧
  s.chain.tagCount < 8

/-! ### Updates -/

@[simp] theorem sizes_setPlanner (s : State) (v : PassSummary) : (s.setPlanner v).sizes = s.sizes := rfl
@[simp] theorem sizes_setPose (s : State) (v : PoseUnit) : (s.setPose v).sizes = s.sizes := rfl
@[simp] theorem sizes_setTable (s : State) (v : Table) : (s.setTable v).sizes = s.sizes := rfl
@[simp] theorem sizes_setStroke (s : State) (v : Stroke) : (s.setStroke v).sizes = s.sizes := rfl
@[simp] theorem sizes_setInputs (s : State) (v : Inputs) : (s.setInputs v).sizes = s.sizes := rfl
@[simp] theorem sizes_setBoards (s : State) (v : Boards) (h : v.slots.length = s.boards.slots.length) :
    (s.setBoards v).sizes = s.sizes := by simp [State.sizes, h]
@[simp] theorem sizes_setChain (s : State) (v : Chain) (h : v.clips.length = s.chain.clips.length) :
    (s.setChain v).sizes = s.sizes := by simp [State.sizes, h]
@[simp] theorem sizes_setDisp (s : State) (v : DispUnit) (h : v.records.length = s.disp.records.length)
    (h' : v.groups.length = s.disp.groups.length) : (s.setDisp v).sizes = s.sizes := by simp [State.sizes, h, h']
@[simp] theorem sizes_setLine (s : State) (v : Line) (h : v.roster.length = s.line.roster.length) :
    (s.setLine v).sizes = s.sizes := by simp [State.sizes, h]
@[simp] theorem sizes_setConsole (s : State) (v : Console) (h : v.setup = s.console.setup)
    (h' : v.response = s.console.response) : (s.setConsole v).sizes = s.sizes := by simp [State.sizes, h, h']
@[simp] theorem sizes_setJam (s : State) (v : Jam) (h : (v.run == .unconfigured) = (s.jam.run == .unconfigured)) :
    (s.setJam v).sizes = s.sizes := by simp [State.sizes, h]

@[simp] theorem bounded_setPlanner (s : State) (v : PassSummary) : (s.setPlanner v).bounded = s.bounded := (rfl)
@[simp] theorem bounded_setPose (s : State) (v : PoseUnit) : (s.setPose v).bounded = s.bounded := (rfl)
@[simp] theorem bounded_setTable (s : State) (v : Table) : (s.setTable v).bounded = s.bounded := (rfl)
@[simp] theorem bounded_setStroke (s : State) (v : Stroke) : (s.setStroke v).bounded = s.bounded := (rfl)
@[simp] theorem bounded_setInputs (s : State) (v : Inputs) : (s.setInputs v).bounded = s.bounded := (rfl)
@[simp] theorem bounded_setBoards (s : State) (v : Boards) : (s.setBoards v).bounded = s.bounded := (rfl)
@[simp] theorem bounded_setDisp (s : State) (v : DispUnit) : (s.setDisp v).bounded = s.bounded := (rfl)
@[simp] theorem bounded_setStore (s : State) (v : Store) : (s.setStore v).bounded = s.bounded := (rfl)
@[simp] theorem bounded_setPending (s : State) (v : List Instr) : (s.setPending v).bounded = s.bounded := (rfl)
@[simp] theorem bounded_setChain (s : State) (v : Chain) (h : v.tagCount = s.chain.tagCount) :
    (s.setChain v).bounded = s.bounded := by simp [State.bounded, h]
@[simp] theorem bounded_setLine (s : State) (v : Line) (h : v.urgent = s.line.urgent) :
    (s.setLine v).bounded = s.bounded := by simp [State.bounded, h]
@[simp] theorem bounded_setJam (s : State) (v : Jam) (h : v.alarms = s.jam.alarms) :
    (s.setJam v).bounded = s.bounded := by simp [State.bounded, h]
@[simp] theorem bounded_setConsole (s : State) (v : Console) (h : v.reports = s.console.reports)
    (h' : v.nextReport = s.console.nextReport) : (s.setConsole v).bounded = s.bounded := by
  simp [State.bounded, h, h']

/-! ### The named operations (Ops) -/

@[simp] theorem setSlot_sizes (s : State) (i : Nat) (c : Option Context) : (setSlot s i c).sizes = s.sizes := by
  simp [setSlot]
@[simp] theorem setSlot_bounded (s : State) (i : Nat) (c : Option Context) : (setSlot s i c).bounded = s.bounded := (rfl)
@[simp] theorem modCtx_sizes (s : State) (i : Nat) (f : Context → Context) : (modCtx s i f).sizes = s.sizes := by
  simp [modCtx]
@[simp] theorem modCtx_bounded (s : State) (i : Nat) (f : Context → Context) : (modCtx s i f).bounded = s.bounded := (rfl)
@[simp] theorem setClip_sizes (s : State) (p : Nat) (c : Clip) : (setClip s p c).sizes = s.sizes := by simp [setClip]
@[simp] theorem setClip_bounded (s : State) (p : Nat) (c : Clip) : (setClip s p c).bounded = s.bounded := (rfl)
@[simp] theorem modDisp_sizes (s : State) (d : Nat) (f : Dispenser → Dispenser) : (modDisp s d f).sizes = s.sizes := by
  simp [modDisp]
@[simp] theorem modDisp_bounded (s : State) (d : Nat) (f : Dispenser → Dispenser) :
    (modDisp s d f).bounded = s.bounded := (rfl)
@[simp] theorem modGroup_sizes (s : State) (g : Nat) (f : Group → Group) : (modGroup s g f).sizes = s.sizes := by
  simp [modGroup]
@[simp] theorem modGroup_bounded (s : State) (g : Nat) (f : Group → Group) : (modGroup s g f).bounded = s.bounded := (rfl)
@[simp] theorem modRoster_sizes (s : State) (n : Nat) (f : RosterEntry → RosterEntry) :
    (modRoster s n f).sizes = s.sizes := by
  unfold modRoster; split <;> simp
@[simp] theorem modRoster_bounded (s : State) (n : Nat) (f : RosterEntry → RosterEntry) :
    (modRoster s n f).bounded = s.bounded := by
  unfold modRoster; split <;> exact (rfl)

theorem countAlarm_length (c : AlarmClass) (src : AlarmSource) (l l' : List AlarmEntry) (h : countAlarm c src l = some l') :
    l'.length = l.length := by
  induction l generalizing l' with
  | nil => simp [countAlarm] at h
  | cons e rest ih =>
    simp only [countAlarm] at h
    split at h
    · cases h; simp
    · cases hr : countAlarm c src rest with
      | none => simp [hr] at h
      | some r => simp [hr] at h; subst h; simp [ih r hr]

theorem dropAckedNote_length (l l' : List AlarmEntry) (h : dropAckedNote l = some l') : l'.length + 1 = l.length := by
  induction l generalizing l' with
  | nil => simp [dropAckedNote] at h
  | cons e rest ih =>
    simp only [dropAckedNote] at h
    split at h
    · cases h; simp
    · cases hr : dropAckedNote rest with
      | none => simp [hr] at h
      | some r => simp [hr] at h; subst h; simpa using ih r hr

@[simp] theorem Jam.append_run (j : Jam) (l : List AlarmEntry) (c : AlarmClass) (src : AlarmSource) (n : Nat) :
    (j.append l c src n).run = j.run := rfl
@[simp] theorem Jam.append_qualifier (j : Jam) (l : List AlarmEntry) (c : AlarmClass) (src : AlarmSource) (n : Nat) :
    (j.append l c src n).qualifier = j.qualifier := rfl
@[simp] theorem Jam.append_purgeCount (j : Jam) (l : List AlarmEntry) (c : AlarmClass) (src : AlarmSource) (n : Nat) :
    (j.append l c src n).purgeCount = j.purgeCount := rfl

/-- Raising an alarm changes neither the run state nor the purge count, and the list stays within its capacity. -/
theorem Jam.enter_spec (j : Jam) (c : AlarmClass) (src : AlarmSource) (n : Nat) :
    (j.enter c src n).run = j.run ∧ (j.enter c src n).qualifier = j.qualifier ∧
    (j.enter c src n).purgeCount = j.purgeCount ∧
    (j.alarms.length ≤ 16 → (j.enter c src n).alarms.length ≤ 16) := by
  have hadd : ∀ j : Jam, (j.add c src n).run = j.run ∧ (j.add c src n).qualifier = j.qualifier ∧
      (j.add c src n).purgeCount = j.purgeCount ∧ (j.alarms.length ≤ 16 → (j.add c src n).alarms.length ≤ 16) := by
    intro j
    unfold Jam.add
    split
    · rename_i hroom
      refine ⟨rfl, rfl, rfl, fun _ => ?_⟩
      simp only [Config.alarmMax] at hroom
      simp only [Jam.append, List.length_append, List.length_cons, List.length_nil]
      omega
    · split
      · rename_i l hl
        refine ⟨rfl, rfl, rfl, fun h => ?_⟩
        have := dropAckedNote_length _ _ hl
        simp only [Jam.append, List.length_append, List.length_cons, List.length_nil]
        omega
      · exact ⟨rfl, rfl, rfl, fun h => h⟩
  unfold Jam.enter
  split
  · exact hadd j
  · split
    · rename_i l hl
      exact ⟨rfl, rfl, rfl, fun h => by simpa [countAlarm_length _ _ _ _ hl] using h⟩
    · exact hadd j

@[simp] theorem Jam.enter_run (j : Jam) (c : AlarmClass) (src : AlarmSource) (n : Nat) : (j.enter c src n).run = j.run :=
  (j.enter_spec c src n).1
@[simp] theorem Jam.enter_qualifier (j : Jam) (c : AlarmClass) (src : AlarmSource) (n : Nat) :
    (j.enter c src n).qualifier = j.qualifier := (j.enter_spec c src n).2.1
@[simp] theorem Jam.enter_purgeCount (j : Jam) (c : AlarmClass) (src : AlarmSource) (n : Nat) :
    (j.enter c src n).purgeCount = j.purgeCount := (j.enter_spec c src n).2.2.1

@[simp] theorem enterAlarm_sizes (s : State) (c : AlarmClass) (src : AlarmSource) : (enterAlarm s c src).sizes = s.sizes := by
  simp [enterAlarm]
@[simp] theorem enterAlarm_bounded (s : State) (c : AlarmClass) (src : AlarmSource) (h : s.bounded) :
    (enterAlarm s c src).bounded := by
  obtain ⟨h1, h2, h3, h4, h5⟩ := h
  exact ⟨h1, (s.jam.enter_spec c src _).2.2.2 h2, h3, h4, h5⟩

@[simp] theorem report_sizes (s : State) (k : ReportKind) : (report s k).sizes = s.sizes := by simp [report]
@[simp] theorem report_bounded (s : State) (k : ReportKind) (h : s.bounded) : (report s k).bounded := by
  obtain ⟨h1, h2, h3, h4, h5⟩ := h
  refine ⟨h1, h2, ?_, Nat.mod_lt _ (by decide), h5⟩
  simp only [report, State.setConsole_console]
  split
  · rename_i hroom
    simp only [Config.reportMax] at hroom
    simp only [List.length_append, List.length_cons, List.length_nil]; omega
  · exact h3

@[simp] theorem joinUrgent_sizes (s : State) (f : Frame) : (joinUrgent s f).sizes = s.sizes := by simp [joinUrgent]
@[simp] theorem joinUrgent_bounded (s : State) (f : Frame) (h : s.bounded) : (joinUrgent s f).bounded := by
  obtain ⟨h1, h2, h3, h4, h5⟩ := h
  refine ⟨?_, h2, h3, h4, h5⟩
  simp only [joinUrgent, State.setLine_line]
  split
  · rename_i hroom
    simp only [Config.urgentMax] at hroom
    simp only [List.length_append, List.length_cons, List.length_nil]; omega
  · exact h1

@[simp] theorem queueStatus_sizes (s : State) : (queueStatus s).sizes = s.sizes := by simp [queueStatus]
@[simp] theorem queueStatus_bounded (s : State) : (queueStatus s).bounded = s.bounded := by simp [queueStatus]
@[simp] theorem queueAnnounce_sizes (s : State) (n p q : Nat) (m : BitVec 8) : (queueAnnounce s n p q m).sizes = s.sizes := by
  unfold queueAnnounce; dsimp only; split <;> [skip; split] <;> simp
@[simp] theorem queueAnnounce_bounded (s : State) (n p q : Nat) (m : BitVec 8) :
    (queueAnnounce s n p q m).bounded = s.bounded := by
  unfold queueAnnounce; dsimp only; split <;> [skip; split] <;> simp

end Sys2Proof.Machine
end

