-- ==== Sys2Proof/Laws/SizesPlan.lean ====
section
/-! SUPPORT. The planner and the chain change no size and keep every capacity. -/

namespace Sys2Proof.Machine

/-! ### Planner -/

@[simp] theorem oweOwn_sizes (s : State) (slot i : Nat) : (oweOwn s slot i).sizes = s.sizes := by
  unfold oweOwn
  dsimp only
  (repeat' split) <;> simp
@[simp] theorem oweOwn_bounded (s : State) (slot i : Nat) (hb : s.bounded) : (oweOwn s slot i).bounded := by
  unfold oweOwn
  dsimp only
  (repeat' split) <;> simp (maxDischargeDepth := 30) [hb]
@[simp] theorem dropAdopted_sizes (s : State) (slot : Nat) (k : ItemKey) : (dropAdopted s slot k).sizes = s.sizes := by
  unfold dropAdopted
  dsimp only
  (repeat' split) <;> simp
@[simp] theorem dropAdopted_bounded (s : State) (slot : Nat) (k : ItemKey) (hb : s.bounded) :
    (dropAdopted s slot k).bounded := by
  unfold dropAdopted
  dsimp only
  (repeat' split) <;> simp (maxDischargeDepth := 30) [hb]
@[simp] theorem oweItem_sizes (s : State) (slot : Nat) (k : ItemKey) (o : Origin) :
    (oweItem s slot k o).sizes = s.sizes := by
  unfold oweItem
  (repeat' split) <;> simp
@[simp] theorem oweItem_bounded (s : State) (slot : Nat) (k : ItemKey) (o : Origin) (hb : s.bounded) :
    (oweItem s slot k o).bounded := by
  unfold oweItem
  (repeat' split) <;> simp (maxDischargeDepth := 30) [hb]
@[simp] theorem oweRetries_sizes (slot : Nat) (l : List ItemKey) (s : State) : (oweRetries slot l s).sizes = s.sizes := by
  induction l generalizing s with
  | nil => rfl
  | cons a rest ih => simp only [oweRetries, ih]; (repeat' split) <;> simp
@[simp] theorem oweRetries_bounded (slot : Nat) (l : List ItemKey) (s : State) (hb : s.bounded) :
    (oweRetries slot l s).bounded := by
  induction l generalizing s with
  | nil => exact hb
  | cons a rest ih => simp only [oweRetries]; apply ih; (repeat' split) <;> simp (maxDischargeDepth := 30) [hb]
@[simp] theorem oweOwns_sizes (slot : Nat) (l : List Nat) (s : State) : (oweOwns slot l s).sizes = s.sizes := by
  induction l generalizing s with
  | nil => rfl
  | cons a rest ih => simp only [oweOwns, ih]; (repeat' split) <;> simp
@[simp] theorem oweOwns_bounded (slot : Nat) (l : List Nat) (s : State) (hb : s.bounded) :
    (oweOwns slot l s).bounded := by
  induction l generalizing s with
  | nil => exact hb
  | cons a rest ih => simp only [oweOwns]; apply ih; (repeat' split) <;> simp (maxDischargeDepth := 30) [hb]
@[simp] theorem oweAdopteds_sizes (slot : Nat) (l : List ItemKey) (s : State) : (oweAdopteds slot l s).sizes = s.sizes := by
  induction l generalizing s with
  | nil => rfl
  | cons a rest ih => simp only [oweAdopteds, ih]; (repeat' split) <;> simp
@[simp] theorem oweAdopteds_bounded (slot : Nat) (l : List ItemKey) (s : State) (hb : s.bounded) :
    (oweAdopteds slot l s).bounded := by
  induction l generalizing s with
  | nil => exact hb
  | cons a rest ih => simp only [oweAdopteds]; apply ih; (repeat' split) <;> simp (maxDischargeDepth := 30) [hb]
@[simp] theorem oweWaiting_sizes (s : State) (slot : Nat) : (oweWaiting s slot).sizes = s.sizes := by
  unfold oweWaiting
  dsimp only
  (repeat' split) <;> simp
@[simp] theorem oweWaiting_bounded (s : State) (slot : Nat) (hb : s.bounded) : (oweWaiting s slot).bounded := by
  unfold oweWaiting
  dsimp only
  (repeat' split) <;> simp (maxDischargeDepth := 30) [hb]
@[simp] theorem planClose_sizes (s : State) (slot : Nat) : (planClose s slot).sizes = s.sizes := by
  unfold planClose
  (repeat' split) <;> simp
@[simp] theorem planClose_bounded (s : State) (slot : Nat) (hb : s.bounded) : (planClose s slot).bounded := by
  unfold planClose
  (repeat' split) <;> simp (maxDischargeDepth := 30) [hb]
@[simp] theorem makePending_sizes (s : State) (slot : Nat) (k : ItemKey) (o : Origin) (retries : Nat) :
    (makePending s slot k o retries).sizes = s.sizes := by
  unfold makePending
  (repeat' split) <;> simp
@[simp] theorem makePending_bounded (s : State) (slot : Nat) (k : ItemKey) (o : Origin) (retries : Nat) (hb : s.bounded) :
    (makePending s slot k o retries).bounded := by
  unfold makePending
  (repeat' split) <;> simp (maxDischargeDepth := 30) [hb]
@[simp] theorem queueRetry_sizes (s : State) (slot : Nat) (k : ItemKey) (o : Origin) (place : Nat) :
    (queueRetry s slot k o place).sizes = s.sizes := by
  unfold queueRetry
  (repeat' split) <;> simp
@[simp] theorem queueRetry_bounded (s : State) (slot : Nat) (k : ItemKey) (o : Origin) (place : Nat) (hb : s.bounded) :
    (queueRetry s slot k o place).bounded := by
  unfold queueRetry
  (repeat' split) <;> simp (maxDischargeDepth := 30) [hb]
@[simp] theorem handReturned_sizes (s : State) (slot : Nat) (k : ItemKey) (o : Origin) :
    (handReturned s slot k o).sizes = s.sizes := by
  unfold handReturned
  (repeat' split) <;> simp
@[simp] theorem handReturned_bounded (s : State) (slot : Nat) (k : ItemKey) (o : Origin) (hb : s.bounded) :
    (handReturned s slot k o).bounded := by
  unfold handReturned
  (repeat' split) <;> simp (maxDischargeDepth := 30) [hb]
@[simp] theorem handCounted_sizes (s : State) (slot : Nat) (k : ItemKey) (o : Origin) :
    (handCounted s slot k o).sizes = s.sizes := by
  unfold handCounted
  (repeat' split) <;> simp
@[simp] theorem handCounted_bounded (s : State) (slot : Nat) (k : ItemKey) (o : Origin) (hb : s.bounded) :
    (handCounted s slot k o).bounded := by
  unfold handCounted
  (repeat' split) <;> simp (maxDischargeDepth := 30) [hb]
@[simp] theorem handReverted_sizes (l : List ClipItem) (front : List Nat) (s : State) : (handReverted s l front).sizes = s.sizes := by
  induction l generalizing s front with
  | nil => rfl
  | cons a rest ih =>
    unfold handReverted
    split <;> simp [ih]
@[simp] theorem handReverted_bounded (l : List ClipItem) (front : List Nat) (s : State) (hb : s.bounded) :
    (handReverted s l front).bounded := by
  induction l generalizing s front with
  | nil => exact hb
  | cons a rest ih =>
    unfold handReverted
    split
    · exact ih _ _ hb
    · exact ih _ _ (by simp (maxDischargeDepth := 30) [hb])
@[simp] theorem closeAhead_sizes (slot : Nat) (l : List Nat) (s : State) : (closeAhead slot l s).sizes = s.sizes := by
  induction l generalizing s with
  | nil => rfl
  | cons a rest ih => unfold closeAhead; split <;> simp [ih]
@[simp] theorem closeAhead_bounded (slot : Nat) (l : List Nat) (s : State) (hb : s.bounded) :
    (closeAhead slot l s).bounded := by
  induction l generalizing s with
  | nil => exact hb
  | cons a rest ih => unfold closeAhead; split <;> [exact hb; exact ih _ (by simp (maxDischargeDepth := 30) [hb])]
@[simp] theorem enterBoard_sizes (s : State) (slot : Nat) : (enterBoard s slot).sizes = s.sizes := by
  unfold enterBoard
  (repeat' split) <;> simp
@[simp] theorem enterBoard_bounded (s : State) (slot : Nat) (hb : s.bounded) : (enterBoard s slot).bounded := by
  unfold enterBoard
  (repeat' split) <;> simp (maxDischargeDepth := 30) [hb]
@[simp] theorem assign_sizes (s : State) (slot d : Nat) (x : ItemData) (o : Origin) (pose : Pose) :
    (assign s slot d x o pose).sizes = s.sizes := by
  unfold assign
  dsimp only
  split <;> [split; skip] <;> simp
@[simp] theorem assign_bounded (s : State) (slot d : Nat) (x : ItemData) (o : Origin) (pose : Pose) (hb : s.bounded) :
    (assign s slot d x o pose).bounded := by
  unfold assign
  dsimp only
  split <;> [split; skip] <;> simp [hb]
theorem planningBoard_spec (l : List Nat) (s : State) :
    (planningBoard s l).1.sizes = s.sizes ∧ (s.bounded → (planningBoard s l).1.bounded) := by
  induction l generalizing s with
  | nil => exact ⟨rfl, id⟩
  | cons a rest ih =>
    unfold planningBoard
    split
    · exact ih s
    · dsimp only
      split <;> split <;> simp_all
@[simp] theorem planningBoard_sizes (l : List Nat) (s : State) : (planningBoard s l).1.sizes = s.sizes :=
  (planningBoard_spec l s).1
@[simp] theorem planningBoard_bounded (l : List Nat) (s : State) (hb : s.bounded) : (planningBoard s l).1.bounded :=
  (planningBoard_spec l s).2 hb
@[simp] theorem planItem_sizes (s : State) (p : Pass) (slot : Nat) (x : ItemData) (o : Origin) (src : TakenFrom) :
    (planItem s p slot x o src).1.sizes = s.sizes := by
  unfold planItem
  dsimp only
  split <;> [split; skip] <;> [skip; split; skip] <;> simp
@[simp] theorem planItem_bounded (s : State) (p : Pass) (slot : Nat) (x : ItemData) (o : Origin) (src : TakenFrom)
    (hb : s.bounded) : (planItem s p slot x o src).1.bounded := by
  unfold planItem
  dsimp only
  split <;> [split; skip] <;> [skip; split; skip] <;> simp (maxDischargeDepth := 30) [hb]
theorem planLoop_spec (fuel : Nat) (s : State) (p : Pass) :
    (planLoop fuel s p).1.sizes = s.sizes ∧ (s.bounded → (planLoop fuel s p).1.bounded) := by
  induction fuel generalizing s p with
  | zero => exact ⟨rfl, id⟩
  | succ n ih =>
    have hb := planningBoard_spec (lineOrder s) s
    unfold planLoop
    split
    · rename_i s1 hs; rw [hs] at hb; exact hb
    · rename_i s1 slot hs
      rw [hs] at hb
      dsimp only at hb ⊢
      split
      · exact ⟨by simp [hb.1], fun h => by simp [hb.2 h]⟩
      · rename_i x o src _
        have hp1 := planItem_sizes (enterBoard s1 slot) p slot x o src
        have hp2 := planItem_bounded (enterBoard s1 slot) p slot x o src
        split
        · rename_i s3 p' cause hc
          rw [hc] at hp1 hp2
          exact ⟨by simpa [hb.1] using hp1, fun h => hp2 (by simp [hb.2 h])⟩
        · rename_i s3 p' hc
          rw [hc] at hp1 hp2
          have := ih s3 p'
          exact ⟨by simpa [this.1, hb.1] using hp1, fun h => this.2 (hp2 (by simp [hb.2 h]))⟩
@[simp] theorem planPass_sizes (s : State) : (planPass s).sizes = s.sizes := by
  have := planLoop_spec passFuel s { frontier := frontier s, assignments := 0, owed := 0, groups := [] }
  unfold planPass
  split
  rename_i hl
  rw [hl] at this
  simpa using this.1
@[simp] theorem planPass_bounded (s : State) (hb : s.bounded) : (planPass s).bounded := by
  have := planLoop_spec passFuel s { frontier := frontier s, assignments := 0, owed := 0, groups := [] }
  unfold planPass
  split
  rename_i hl
  rw [hl] at this
  simp (maxDischargeDepth := 30) [this.2 hb]

/-! ### Chain -/

@[simp] theorem cancelClips_length (s : State) (hit : ClipItem → Bool) (l : List Clip) (n : Nat) :
    (cancelClips s hit l n).length = l.length := by
  induction l generalizing n with
  | nil => rfl
  | cons c rest ih => simp [cancelClips, ih]
@[simp] theorem cancelKeys_sizes (s : State) (keys : List ItemKey) :
    (cancelKeys s keys).sizes = s.sizes := by simp [cancelKeys]
@[simp] theorem cancelKeys_bounded (s : State) (keys : List ItemKey) (hb : s.bounded) :
    (cancelKeys s keys).bounded := by
  unfold cancelKeys
  simp (maxDischargeDepth := 30) [hb]
@[simp] theorem cancelBoard_sizes (s : State) (slot : Nat) : (cancelBoard s slot).sizes = s.sizes := by
  unfold cancelBoard
  dsimp only
  (repeat' split) <;> simp
@[simp] theorem cancelBoard_bounded (s : State) (slot : Nat) (hb : s.bounded) : (cancelBoard s slot).bounded := by
  unfold cancelBoard
  dsimp only
  (repeat' split) <;> simp (maxDischargeDepth := 30) [hb]
@[simp] theorem countEjected_sizes (s : State) (board : Option Nat) : (countEjected s board).sizes = s.sizes := by
  unfold countEjected
  (repeat' split) <;> simp
@[simp] theorem countEjected_bounded (s : State) (board : Option Nat) (hb : s.bounded) :
    (countEjected s board).bounded := by
  unfold countEjected
  (repeat' split) <;> simp (maxDischargeDepth := 30) [hb]
@[simp] theorem countSuspect_sizes (s : State) (board : Option Nat) : (countSuspect s board).sizes = s.sizes := by
  unfold countSuspect
  (repeat' split) <;> simp
@[simp] theorem countSuspect_bounded (s : State) (board : Option Nat) (hb : s.bounded) :
    (countSuspect s board).bounded := by
  unfold countSuspect
  (repeat' split) <;> simp (maxDischargeDepth := 30) [hb]
@[simp] theorem countDispenser_sizes (s : State) (d : Nat) : (countDispenser s d).sizes = s.sizes := by
  unfold countDispenser
  dsimp only
  (repeat' split) <;> simp
@[simp] theorem countDispenser_bounded (s : State) (d : Nat) (hb : s.bounded) : (countDispenser s d).bounded := by
  unfold countDispenser
  dsimp only
  (repeat' split) <;> simp (maxDischargeDepth := 30) [hb]
@[simp] theorem countGroup_sizes (s : State) (d : Nat) : (countGroup s d).sizes = s.sizes := by
  unfold countGroup
  dsimp only
  (repeat' split) <;> simp
@[simp] theorem countGroup_bounded (s : State) (d : Nat) (hb : s.bounded) : (countGroup s d).bounded := by
  unfold countGroup
  dsimp only
  (repeat' split) <;> simp (maxDischargeDepth := 30) [hb]
@[simp] theorem countFault_sizes (s : State) (d : Nat) : (countFault s d).sizes = s.sizes := by simp [countFault]
@[simp] theorem countFault_bounded (s : State) (d : Nat) (hb : s.bounded) : (countFault s d).bounded := by
  unfold countFault
  simp (maxDischargeDepth := 30) [hb]
@[simp] theorem clearFaults_sizes (s : State) (d : Nat) : (clearFaults s d).sizes = s.sizes := by simp [clearFaults]
@[simp] theorem clearFaults_bounded (s : State) (d : Nat) (hb : s.bounded) : (clearFaults s d).bounded := by
  unfold clearFaults
  simp (maxDischargeDepth := 30) [hb]
theorem fireClips_spec (l : List (Nat × ClipItem)) (s : State) :
    (fireClips l s).1.sizes = s.sizes ∧ (s.bounded → (fireClips l s).1.bounded) := by
  induction l generalizing s with
  | nil => exact ⟨rfl, id⟩
  | cons a rest ih =>
    unfold fireClips
    split
    · have := ih (modDisp s a.2.disp fun r => { r with outstanding := some a.1 })
      exact ⟨by simpa using this.1, by simpa using this.2⟩
    · have := ih (setClip s a.1 .empty)
      exact ⟨by simpa using this.1, by simpa using this.2⟩
/-- A fold of operations that change no size changes none. -/
theorem foldl_sizes {α : Type} (f : State → α → State) (hf : ∀ s a, (f s a).sizes = s.sizes) (l : List α) (s : State) :
    (l.foldl f s).sizes = s.sizes := by
  induction l generalizing s with
  | nil => rfl
  | cons a rest ih => simp [ih, hf]
/-- A fold of operations that keep the capacities keeps them. -/
theorem foldl_bounded {α : Type} (f : State → α → State) (hf : ∀ s a, s.bounded → (f s a).bounded) (l : List α)
    (s : State) (hb : s.bounded) : (l.foldl f s).bounded := by
  induction l generalizing s with
  | nil => exact hb
  | cons a rest ih => exact ih _ (hf _ _ hb)
@[simp] theorem dropWork_sizes (s : State) : (dropWork s).sizes = s.sizes := by
  have := fireClips_spec (plannedClips s.chain.clips 0) s
  unfold dropWork
  split
  rename_i hl
  rw [hl] at this
  simpa using this.1
@[simp] theorem dropWork_bounded (s : State) (hb : s.bounded) : (dropWork s).bounded := by
  have := fireClips_spec (plannedClips s.chain.clips 0) s
  unfold dropWork
  split
  rename_i hl
  rw [hl] at this
  simp (maxDischargeDepth := 30) [this.2 hb]
@[simp] theorem endDrop_sizes (s : State) (pos d : Nat) : (endDrop s pos d).sizes = s.sizes := by simp [endDrop]
@[simp] theorem endDrop_bounded (s : State) (pos d : Nat) (hb : s.bounded) : (endDrop s pos d).bounded := by
  unfold endDrop
  simp (maxDischargeDepth := 30) [hb]
@[simp] theorem missDrop_sizes (s : State) (pos d : Nat) : (missDrop s pos d).sizes = s.sizes := by
  unfold missDrop
  dsimp only
  (repeat' split) <;> simp
@[simp] theorem missDrop_bounded (s : State) (pos d : Nat) (hb : s.bounded) : (missDrop s pos d).bounded := by
  unfold missDrop
  dsimp only
  (repeat' split) <;> simp (maxDischargeDepth := 30) [hb]
@[simp] theorem missDrops_sizes (s : State) : (missDrops s).sizes = s.sizes := foldl_sizes _ (fun s x => by simp) _ s
@[simp] theorem missDrops_bounded (s : State) (hb : s.bounded) :
    (missDrops s).bounded := foldl_bounded _ (fun s x hb => by simp [hb]) _ s hb
@[simp] theorem abandonDrop_sizes (s : State) (pos d : Nat) : (abandonDrop s pos d).sizes = s.sizes := by
  unfold abandonDrop
  dsimp only
  (repeat' split) <;> simp
@[simp] theorem abandonDrop_bounded (s : State) (pos d : Nat) (hb : s.bounded) : (abandonDrop s pos d).bounded := by
  unfold abandonDrop
  dsimp only
  (repeat' split) <;> simp (maxDischargeDepth := 30) [hb]
@[simp] theorem abandonDrops_sizes (s : State) : (abandonDrops s).sizes = s.sizes := by
  simp [abandonDrops, foldl_sizes]
@[simp] theorem abandonDrops_bounded (s : State) (hb : s.bounded) : (abandonDrops s).bounded := by
  unfold abandonDrops
  exact handReverted_bounded _ _ _ (foldl_bounded _ (fun s x hb => by simp [hb]) _ _
    (foldl_bounded _ (fun s x hb => by simp [hb]) _ s hb))
@[simp] theorem confirmDrop_sizes (s : State) (pos d : Nat) : (confirmDrop s pos d).sizes = s.sizes := by
  unfold confirmDrop
  dsimp only
  (repeat' split) <;> simp
@[simp] theorem confirmDrop_bounded (s : State) (pos d : Nat) (hb : s.bounded) : (confirmDrop s pos d).bounded := by
  unfold confirmDrop
  dsimp only
  (repeat' split) <;> simp (maxDischargeDepth := 30) [hb]
@[simp] theorem lateConfirm_sizes (s : State) (pos d : Nat) : (lateConfirm s pos d).sizes = s.sizes := by
  unfold lateConfirm
  dsimp only
  (repeat' split) <;> simp
@[simp] theorem lateConfirm_bounded (s : State) (pos d : Nat) (hb : s.bounded) : (lateConfirm s pos d).bounded := by
  unfold lateConfirm
  dsimp only
  (repeat' split) <;> simp (maxDischargeDepth := 30) [hb]
@[simp] theorem acceptClip_sizes (s : State) (pos : Nat) (i : ClipItem) (flip : Bool) :
    (acceptClip s pos i flip).sizes = s.sizes := by simp [acceptClip]
@[simp] theorem acceptClip_bounded (s : State) (pos : Nat) (i : ClipItem) (flip : Bool) (hb : s.bounded) :
    (acceptClip s pos i flip).bounded := by
  unfold acceptClip
  simp (maxDischargeDepth := 30) [hb]
@[simp] theorem rejectClip_sizes (s : State) (pos : Nat) (i : ClipItem) :
    (rejectClip s pos i).sizes = s.sizes := by simp [rejectClip]
@[simp] theorem rejectClip_bounded (s : State) (pos : Nat) (i : ClipItem) (hb : s.bounded) :
    (rejectClip s pos i).bounded := by
  unfold rejectClip
  simp (maxDischargeDepth := 30) [hb]
@[simp] theorem verifyReject_sizes (s : State) (pos : Nat) (i : ClipItem) :
    (verifyReject s pos i).sizes = s.sizes := by simp [verifyReject]
@[simp] theorem verifyReject_bounded (s : State) (pos : Nat) (i : ClipItem) (hb : s.bounded) :
    (verifyReject s pos i).bounded := by
  unfold verifyReject
  simp (maxDischargeDepth := 30) [hb]
@[simp] theorem clearMeasurement_sizes (s : State) : (clearMeasurement s).sizes = s.sizes := by simp [clearMeasurement]
@[simp] theorem clearMeasurement_bounded (s : State) (hb : s.bounded) : (clearMeasurement s).bounded := by
  unfold clearMeasurement
  simp (maxDischargeDepth := 30) [hb]
@[simp] theorem verifyMissing_sizes (s : State) (m : Measurement) : (verifyMissing s m).sizes = s.sizes := by
  unfold verifyMissing
  dsimp only
  (repeat' split) <;> simp
@[simp] theorem verifyMissing_bounded (s : State) (m : Measurement) (hb : s.bounded) : (verifyMissing s m).bounded := by
  unfold verifyMissing
  dsimp only
  (repeat' split) <;> simp (maxDischargeDepth := 30) [hb]
@[simp] theorem beginMeasurement_sizes (s : State) (pos : Nat) (i : ClipItem) :
    (beginMeasurement s pos i).sizes = s.sizes := by
  unfold beginMeasurement
  dsimp only
  (repeat' split) <;> simp
@[simp] theorem beginMeasurement_bounded (s : State) (pos : Nat) (i : ClipItem) (hb : s.bounded) :
    (beginMeasurement s pos i).bounded := by
  unfold beginMeasurement
  dsimp only
  split
  · simp [hb]
  · exact ⟨hb.1, hb.2.1, hb.2.2.1, hb.2.2.2.1, Nat.mod_lt _ (by decide)⟩
@[simp] theorem verifyWork_sizes (s : State) : (verifyWork s).sizes = s.sizes := by
  unfold verifyWork
  dsimp only
  (repeat' split) <;> simp
@[simp] theorem verifyWork_bounded (s : State) (hb : s.bounded) : (verifyWork s).bounded := by
  unfold verifyWork
  dsimp only
  (repeat' split) <;> simp (maxDischargeDepth := 30) [hb]
@[simp] theorem applyResult_sizes (s : State) (m : Measurement) (r : VerifyResult) :
    (applyResult s m r).sizes = s.sizes := by
  unfold applyResult
  dsimp only
  (repeat' split) <;> simp
@[simp] theorem applyResult_bounded (s : State) (m : Measurement) (r : VerifyResult) (hb : s.bounded) :
    (applyResult s m r).bounded := by
  unfold applyResult
  dsimp only
  (repeat' split) <;> simp (maxDischargeDepth := 30) [hb]
@[simp] theorem shiftChain_sizes (s : State) : (shiftChain s).sizes = s.sizes := by
  have hl : s.chain.shift.clips.length = s.chain.clips.length := by
    unfold Chain.shift
    split <;> simp_all
  simp [State.sizes, shiftChain, hl, clearMissed]
@[simp] theorem shiftChain_bounded (s : State) (hb : s.bounded) : (shiftChain s).bounded := by
  simpa [shiftChain, Chain.shift] using hb
@[simp] theorem chainAdvance_sizes (s : State) : (chainAdvance s).sizes = s.sizes := by
  unfold chainAdvance
  dsimp only
  (repeat' split) <;> simp
@[simp] theorem chainAdvance_bounded (s : State) (hb : s.bounded) : (chainAdvance s).bounded := by
  unfold chainAdvance
  dsimp only
  (repeat' split) <;> simp (maxDischargeDepth := 30) [hb]
@[simp] theorem makeUnknown_sizes (s : State) : (makeUnknown s).sizes = s.sizes := by
  simp [State.sizes, makeUnknown, Chain.madeUnknown, clearDrops]
@[simp] theorem makeUnknown_bounded (s : State) (hb : s.bounded) : (makeUnknown s).bounded := by
  exact hb
@[simp] theorem stallChain_sizes (s : State) : (stallChain s).sizes = s.sizes := by
  simp [stallChain, foldl_sizes]
@[simp] theorem stallChain_bounded (s : State) (hb : s.bounded) :
    (stallChain s).bounded := foldl_bounded _ (fun s x hb => by simp [hb]) _ _ (by simp [hb])

end Sys2Proof.Machine
end

