-- ==== Sys2Proof/Laws/SizesBoards.lean ====
section
/-! SUPPORT. The board manager changes no size and keeps every capacity. -/

namespace Sys2Proof.Machine

/-! ### Boards -/

@[simp] theorem removeCtx_sizes (s : State) (slot : Nat) : (removeCtx s slot).sizes = s.sizes := by simp [removeCtx]
@[simp] theorem removeCtx_bounded (s : State) (slot : Nat) (hb : s.bounded) : (removeCtx s slot).bounded := by
  unfold removeCtx
  simp (maxDischargeDepth := 30) [hb]
@[simp] theorem removeAt_sizes (s : State) (o : Option Nat) : (removeAt s o).sizes = s.sizes := by
  cases o <;> simp [removeAt]
@[simp] theorem removeAt_bounded (s : State) (o : Option Nat) (hb : s.bounded) : (removeAt s o).bounded := by
  cases o <;> simp [removeAt, hb]
@[simp] theorem bindCtx_sizes (s : State) (slot : Nat) (b : BankId) : (bindCtx s slot b).sizes = s.sizes := by
  unfold bindCtx
  dsimp only
  (repeat' split) <;> simp
@[simp] theorem bindCtx_bounded (s : State) (slot : Nat) (b : BankId) (hb : s.bounded) :
    (bindCtx s slot b).bounded := by
  unfold bindCtx
  dsimp only
  (repeat' split) <;> simp (maxDischargeDepth := 30) [hb]
@[simp] theorem lookupCtx_sizes (s : State) (slot programId : Nat) : (lookupCtx s slot programId).sizes = s.sizes := by
  unfold lookupCtx
  (repeat' split) <;> simp
@[simp] theorem lookupCtx_bounded (s : State) (slot programId : Nat) (hb : s.bounded) :
    (lookupCtx s slot programId).bounded := by
  unfold lookupCtx
  (repeat' split) <;> simp (maxDischargeDepth := 30) [hb]
@[simp] theorem createCtx_sizes (s : State) (slot serial programId position : Nat) (mask : BitVec 8) :
    (createCtx s slot serial programId position mask).sizes = s.sizes := by simp [createCtx]
@[simp] theorem createCtx_bounded (s : State) (slot serial programId position : Nat) (mask : BitVec 8) (hb : s.bounded) :
    (createCtx s slot serial programId position mask).bounded := by
  unfold createCtx
  simp (maxDischargeDepth := 30) [hb]
@[simp] theorem closeIfAhead_sizes (s : State) (slot : Nat) : (closeIfAhead s slot).sizes = s.sizes := by
  unfold closeIfAhead
  (repeat' split) <;> simp
@[simp] theorem closeIfAhead_bounded (s : State) (slot : Nat) (hb : s.bounded) : (closeIfAhead s slot).bounded := by
  unfold closeIfAhead
  (repeat' split) <;> simp (maxDischargeDepth := 30) [hb]
@[simp] theorem closeAllAhead_sizes (s : State) : (closeAllAhead s).sizes = s.sizes :=
  foldl_sizes _ (fun s i => by simp) _ s
@[simp] theorem closeAllAhead_bounded (s : State) (hb : s.bounded) : (closeAllAhead s).bounded :=
  foldl_bounded _ (fun s i hb => by simp [hb]) _ s hb
@[simp] theorem bindAtClose_sizes (s : State) (b : BankId) (programId : Nat) :
    (bindAtClose s b programId).sizes = s.sizes := foldl_sizes _ (fun s i => by simp) _ s
@[simp] theorem bindAtClose_bounded (s : State) (b : BankId) (programId : Nat) (hb : s.bounded) :
    (bindAtClose s b programId).bounded := foldl_bounded _ (fun s i hb => by simp [hb]) _ s hb
@[simp] theorem joinMask_sizes (s : State) (slot : Nat) (mask : BitVec 8) : (joinMask s slot mask).sizes = s.sizes := by
  unfold joinMask
  dsimp only
  (repeat' split) <;> simp
@[simp] theorem joinMask_bounded (s : State) (slot : Nat) (mask : BitVec 8) (hb : s.bounded) :
    (joinMask s slot mask).bounded := by
  unfold joinMask
  dsimp only
  (repeat' split) <;> simp (maxDischargeDepth := 30) [hb]
@[simp] theorem withdrawAdopted_sizes (s : State) (slot : Nat) (k : ItemKey) :
    (withdrawAdopted s slot k).sizes = s.sizes := by simp [withdrawAdopted]
@[simp] theorem withdrawAdopted_bounded (s : State) (slot : Nat) (k : ItemKey) (hb : s.bounded) :
    (withdrawAdopted s slot k).bounded := by
  unfold withdrawAdopted
  simp (maxDischargeDepth := 30) [hb]
@[simp] theorem reportInserted_sizes (s : State) (board : Option Nat) (k : ItemKey) (o : Origin) :
    (reportInserted s board k o).sizes = s.sizes := by
  unfold reportInserted
  (repeat' split) <;> simp
@[simp] theorem reportInserted_bounded (s : State) (board : Option Nat) (k : ItemKey) (o : Origin) (hb : s.bounded) :
    (reportInserted s board k o).bounded := by
  unfold reportInserted
  (repeat' split) <;> simp (maxDischargeDepth := 30) [hb]
@[simp] theorem setClamp_sizes (s : State) (closed : Bool) : (setClamp s closed).sizes = s.sizes := by
  unfold setClamp
  (repeat' split) <;> simp
@[simp] theorem setClamp_bounded (s : State) (closed : Bool) (hb : s.bounded) : (setClamp s closed).bounded := by
  unfold setClamp
  (repeat' split) <;> simp (maxDischargeDepth := 30) [hb]
@[simp] theorem claim_sizes (s : State) (slot : Nat) (d : ItemData) :
    (claim s slot d).sizes = s.sizes := by simp [claim]
@[simp] theorem claim_bounded (s : State) (slot : Nat) (d : ItemData) (hb : s.bounded) : (claim s slot d).bounded := by
  unfold claim
  simp (maxDischargeDepth := 30) [hb]
@[simp] theorem reportLost_sizes (s : State) (serial : Nat) (l : List Entry) : (reportLost s serial l).sizes = s.sizes := by
  induction l generalizing s with
  | nil => rfl
  | cons a rest ih => simp only [reportLost, ih]; (repeat' split) <;> simp
@[simp] theorem reportLost_bounded (s : State) (serial : Nat) (l : List Entry) (hb : s.bounded) :
    (reportLost s serial l).bounded := by
  induction l generalizing s with
  | nil => exact hb
  | cons a rest ih => simp only [reportLost]; apply ih; (repeat' split) <;> simp (maxDischargeDepth := 30) [hb]
@[simp] theorem lateAdopt_sizes (slot : Nat) (l : List Entry) (s : State) : (lateAdopt slot l s).sizes = s.sizes := by
  induction l generalizing s with
  | nil => rfl
  | cons a rest ih => simp only [lateAdopt, ih]; (repeat' split) <;> simp
@[simp] theorem lateAdopt_bounded (slot : Nat) (l : List Entry) (s : State) (hb : s.bounded) :
    (lateAdopt slot l s).bounded := by
  induction l generalizing s with
  | nil => exact hb
  | cons a rest ih => simp only [lateAdopt]; apply ih; (repeat' split) <;> simp (maxDischargeDepth := 30) [hb]
@[simp] theorem dropMadeUp_sizes (slot : Nat) (l : List Entry) (s : State) : (dropMadeUp slot l s).sizes = s.sizes := by
  induction l generalizing s with
  | nil => rfl
  | cons a rest ih => simp only [dropMadeUp, ih]; (repeat' split) <;> simp
@[simp] theorem dropMadeUp_bounded (slot : Nat) (l : List Entry) (s : State) (hb : s.bounded) :
    (dropMadeUp slot l s).bounded := by
  induction l generalizing s with
  | nil => exact hb
  | cons a rest ih => simp only [dropMadeUp]; apply ih; (repeat' split) <;> simp (maxDischargeDepth := 30) [hb]
@[simp] theorem applyPassport_sizes (s : State) (slot : Nat) (h : PassHead) (es : List Entry) :
    (applyPassport s slot h es).sizes = s.sizes := by
  unfold applyPassport
  dsimp only
  (repeat' split) <;> simp
@[simp] theorem applyPassport_bounded (s : State) (slot : Nat) (h : PassHead) (es : List Entry) (hb : s.bounded) :
    (applyPassport s slot h es).bounded := by
  unfold applyPassport
  dsimp only
  (repeat' split) <;> simp (maxDischargeDepth := 30) [hb]
@[simp] theorem announceCtx_sizes (s : State) (slot : Nat) : (announceCtx s slot).sizes = s.sizes := by
  unfold announceCtx
  (repeat' split) <;> simp
@[simp] theorem announceCtx_bounded (s : State) (slot : Nat) (hb : s.bounded) : (announceCtx s slot).bounded := by
  unfold announceCtx
  (repeat' split) <;> simp (maxDischargeDepth := 30) [hb]
@[simp] theorem removeOthers_sizes (s : State) (slot serial : Nat) :
    (removeOthers s slot serial).sizes = s.sizes := foldl_sizes _ (fun s i => by simp) _ s
@[simp] theorem removeOthers_bounded (s : State) (slot serial : Nat) (hb : s.bounded) :
    (removeOthers s slot serial).bounded := foldl_bounded _ (fun s i hb => by simp [hb]) _ s hb
@[simp] theorem identify_sizes (s : State) (slot : Nat) (h : PassHead) : (identify s slot h).sizes = s.sizes := by
  unfold identify
  dsimp only
  (repeat' split) <;> simp
@[simp] theorem identify_bounded (s : State) (slot : Nat) (h : PassHead) (hb : s.bounded) :
    (identify s slot h).bounded := by
  unfold identify
  dsimp only
  (repeat' split) <;> simp (maxDischargeDepth := 30) [hb]
@[simp] theorem clearPassIn_sizes (s : State) : (clearPassIn s).sizes = s.sizes := by simp [clearPassIn]
@[simp] theorem clearPassIn_bounded (s : State) (hb : s.bounded) : (clearPassIn s).bounded := by
  unfold clearPassIn
  simp (maxDischargeDepth := 30) [hb]
@[simp] theorem settlePairing_sizes (s : State) (slot : Nat) :
    (settlePairing s slot).sizes = s.sizes := by simp [settlePairing]
@[simp] theorem settlePairing_bounded (s : State) (slot : Nat) (hb : s.bounded) : (settlePairing s slot).bounded := by
  unfold settlePairing
  simp (maxDischargeDepth := 30) [hb]
@[simp] theorem pairWith_sizes (s : State) (slot : Nat) (b : PassIn) : (pairWith s slot b).sizes = s.sizes := by
  unfold pairWith
  dsimp only
  (repeat' split) <;> simp
@[simp] theorem pairWith_bounded (s : State) (slot : Nat) (b : PassIn) (hb : s.bounded) :
    (pairWith s slot b).bounded := by
  unfold pairWith
  dsimp only
  (repeat' split) <;> simp (maxDischargeDepth := 30) [hb]
@[simp] theorem tryPair_sizes (s : State) : (tryPair s).sizes = s.sizes := by
  unfold tryPair
  dsimp only
  (repeat' split) <;> simp
@[simp] theorem tryPair_bounded (s : State) (hb : s.bounded) : (tryPair s).bounded := by
  unfold tryPair
  dsimp only
  (repeat' split) <;> simp (maxDischargeDepth := 30) [hb]
@[simp] theorem reportUnknown_sizes (s : State) (slot : Nat) : (reportUnknown s slot).sizes = s.sizes := by
  unfold reportUnknown
  (repeat' split) <;> simp
@[simp] theorem reportUnknown_bounded (s : State) (slot : Nat) (hb : s.bounded) : (reportUnknown s slot).bounded := by
  unfold reportUnknown
  (repeat' split) <;> simp (maxDischargeDepth := 30) [hb]
@[simp] theorem expireWait_sizes (s : State) : (expireWait s).sizes = s.sizes := by
  unfold expireWait
  dsimp only
  (repeat' split) <;> simp
@[simp] theorem expireWait_bounded (s : State) (hb : s.bounded) : (expireWait s).bounded := by
  unfold expireWait
  dsimp only
  (repeat' split) <;> simp (maxDischargeDepth := 30) [hb]
@[simp] theorem takeHead_sizes (s : State) (sender : Nat) (h : PassHead) : (takeHead s sender h).sizes = s.sizes := by
  unfold takeHead
  (repeat' split) <;> simp
@[simp] theorem takeHead_bounded (s : State) (sender : Nat) (h : PassHead) (hb : s.bounded) :
    (takeHead s sender h).bounded := by
  unfold takeHead
  (repeat' split) <;> simp (maxDischargeDepth := 30) [hb]
@[simp] theorem takeEntry_sizes (s : State) (sender index : Nat) (e : Entry) :
    (takeEntry s sender index e).sizes = s.sizes := by
  unfold takeEntry
  (repeat' split) <;> simp
@[simp] theorem takeEntry_bounded (s : State) (sender index : Nat) (e : Entry) (hb : s.bounded) :
    (takeEntry s sender index e).bounded := by
  unfold takeEntry
  (repeat' split) <;> simp (maxDischargeDepth := 30) [hb]
@[simp] theorem testFinished_sizes (s : State) : (testFinished s).sizes = s.sizes := by
  unfold testFinished
  dsimp only
  (repeat' split) <;> simp
@[simp] theorem testFinished_bounded (s : State) (hb : s.bounded) : (testFinished s).bounded := by
  unfold testFinished
  dsimp only
  (repeat' split) <;> simp (maxDischargeDepth := 30) [hb]
@[simp] theorem depart_sizes (s : State) : (depart s).sizes = s.sizes := by
  unfold depart
  dsimp only
  (repeat' split) <;> simp
@[simp] theorem depart_bounded (s : State) (hb : s.bounded) : (depart s).bounded := by
  unfold depart
  dsimp only
  (repeat' split) <;> simp (maxDischargeDepth := 30) [hb]
@[simp] theorem stepPositions_sizes (s : State) : (stepPositions s).sizes = s.sizes := by simp [stepPositions]
@[simp] theorem stepPositions_bounded (s : State) (hb : s.bounded) : (stepPositions s).bounded := by
  unfold stepPositions
  simp (maxDischargeDepth := 30) [hb]
@[simp] theorem arrive_sizes (s : State) (slot : Nat) : (arrive s slot).sizes = s.sizes := by
  unfold arrive
  dsimp only
  (repeat' split) <;> simp
@[simp] theorem arrive_bounded (s : State) (slot : Nat) (hb : s.bounded) : (arrive s slot).bounded := by
  unfold arrive
  dsimp only
  (repeat' split) <;> simp (maxDischargeDepth := 30) [hb]
@[simp] theorem beginTransfer_sizes (s : State) : (beginTransfer s).sizes = s.sizes := by
  unfold beginTransfer
  dsimp only
  (repeat' split) <;> simp
@[simp] theorem beginTransfer_bounded (s : State) (hb : s.bounded) : (beginTransfer s).bounded := by
  unfold beginTransfer
  dsimp only
  (repeat' split) <;> simp (maxDischargeDepth := 30) [hb]
@[simp] theorem reportResult_sizes (s : State) : (reportResult s).sizes = s.sizes := by
  unfold reportResult
  (repeat' split) <;> simp
@[simp] theorem reportResult_bounded (s : State) (hb : s.bounded) : (reportResult s).bounded := by
  unfold reportResult
  (repeat' split) <;> simp (maxDischargeDepth := 30) [hb]
@[simp] theorem becomeCurrent_sizes (s : State) : (becomeCurrent s).sizes = s.sizes := by
  unfold becomeCurrent
  (repeat' split) <;> simp
@[simp] theorem becomeCurrent_bounded (s : State) (hb : s.bounded) : (becomeCurrent s).bounded := by
  unfold becomeCurrent
  (repeat' split) <;> simp (maxDischargeDepth := 30) [hb]
@[simp] theorem stopAtTransferEnd_sizes (s : State) : (stopAtTransferEnd s).sizes = s.sizes := by
  unfold stopAtTransferEnd
  split
  · rename_i hs
    have hr : s.jam.run = .stopping := by simp [stoppingAtBoardEnd] at hs; exact hs.1
    exact sizes_setJam s _ (by rw [hr]; rfl)
  · rfl
@[simp] theorem stopAtTransferEnd_bounded (s : State) (hb : s.bounded) : (stopAtTransferEnd s).bounded := by
  unfold stopAtTransferEnd
  (repeat' split) <;> simp (maxDischargeDepth := 30) [hb]
@[simp] theorem completeTransfer_sizes (s : State) : (completeTransfer s).sizes = s.sizes := by simp [completeTransfer]
@[simp] theorem completeTransfer_bounded (s : State) (hb : s.bounded) : (completeTransfer s).bounded := by
  unfold completeTransfer
  simp (maxDischargeDepth := 30) [hb]
@[simp] theorem tryComplete_sizes (s : State) : (tryComplete s).sizes = s.sizes := by
  unfold tryComplete
  (repeat' split) <;> simp
@[simp] theorem tryComplete_bounded (s : State) (hb : s.bounded) : (tryComplete s).bounded := by
  unfold tryComplete
  (repeat' split) <;> simp (maxDischargeDepth := 30) [hb]
@[simp] theorem unexpectedBoard_sizes (s : State) : (unexpectedBoard s).sizes = s.sizes := by
  unfold unexpectedBoard
  dsimp only
  (repeat' split) <;> simp
@[simp] theorem unexpectedBoard_bounded (s : State) (hb : s.bounded) : (unexpectedBoard s).bounded := by
  unfold unexpectedBoard
  dsimp only
  (repeat' split) <;> simp (maxDischargeDepth := 30) [hb]

end Sys2Proof.Machine
end

