-- ==== Sys2Proof/Laws/SizesDrive.lean ====
section
/-! SUPPORT. The table drive, the stroke controller, a STOP alarm and the end of a command change no size and keep every
capacity. -/

namespace Sys2Proof.Machine

/-! ### Table -/

@[simp] theorem setPositioning_sizes (s : State) (r : Option Positioning) :
    (setPositioning s r).sizes = s.sizes := by simp [setPositioning]
@[simp] theorem setPositioning_bounded (s : State) (r : Option Positioning) (hb : s.bounded) :
    (setPositioning s r).bounded := by
  unfold setPositioning
  simp (maxDischargeDepth := 30) [hb]
@[simp] theorem rePredict_sizes (s : State) (k : ItemKey) : (rePredict s k).sizes = s.sizes := by
  unfold rePredict
  dsimp only
  (repeat' split) <;> simp
@[simp] theorem rePredict_bounded (s : State) (k : ItemKey) (hb : s.bounded) : (rePredict s k).bounded := by
  unfold rePredict
  dsimp only
  (repeat' split) <;> simp (maxDischargeDepth := 30) [hb]
@[simp] theorem rePredictJog_sizes (s : State) (ax : Axis) (target : Nat) :
    (rePredictJog s ax target).sizes = s.sizes := by
  unfold rePredictJog
  dsimp only
  (repeat' split) <;> simp
@[simp] theorem rePredictJog_bounded (s : State) (ax : Axis) (target : Nat) (hb : s.bounded) :
    (rePredictJog s ax target).bounded := by
  unfold rePredictJog
  dsimp only
  (repeat' split) <;> simp (maxDischargeDepth := 30) [hb]
@[simp] theorem setOp_sizes (s : State) (op : Operation) : (setOp s op).sizes = s.sizes := by simp [setOp]
@[simp] theorem setOp_bounded (s : State) (op : Operation) (hb : s.bounded) : (setOp s op).bounded := by
  unfold setOp
  simp (maxDischargeDepth := 30) [hb]
@[simp] theorem setLast_sizes (s : State) (l : LastPose) : (setLast s l).sizes = s.sizes := by simp [setLast]
@[simp] theorem setLast_bounded (s : State) (l : LastPose) (hb : s.bounded) : (setLast s l).bounded := by
  unfold setLast
  simp (maxDischargeDepth := 30) [hb]
@[simp] theorem endJog_sizes (s : State) (ax : Axis) (m : Motion) (o : JogOutcome) :
    (endJog s ax m o).sizes = s.sizes := by simp [endJog]
@[simp] theorem endJog_bounded (s : State) (ax : Axis) (m : Motion) (o : JogOutcome) (hb : s.bounded) :
    (endJog s ax m o).bounded := by
  unfold endJog
  simp (maxDischargeDepth := 30) [hb]
@[simp] theorem completeMotion_sizes (s : State) : (completeMotion s).sizes = s.sizes := by
  unfold completeMotion
  dsimp only
  (repeat' split) <;> simp
@[simp] theorem completeMotion_bounded (s : State) (hb : s.bounded) : (completeMotion s).bounded := by
  unfold completeMotion
  dsimp only
  (repeat' split) <;> simp (maxDischargeDepth := 30) [hb]
@[simp] theorem endMotion_sizes (s : State) (o : JogOutcome) : (endMotion s o).sizes = s.sizes := by
  unfold endMotion
  (repeat' split) <;> simp
@[simp] theorem endMotion_bounded (s : State) (o : JogOutcome) (hb : s.bounded) : (endMotion s o).bounded := by
  unfold endMotion
  (repeat' split) <;> simp (maxDischargeDepth := 30) [hb]
@[simp] theorem runFresh_sizes (s : State) : (runFresh s).sizes = s.sizes := by
  unfold runFresh
  dsimp only
  (repeat' split) <;> simp
@[simp] theorem runFresh_bounded (s : State) (hb : s.bounded) : (runFresh s).bounded := by
  unfold runFresh
  dsimp only
  (repeat' split) <;> simp (maxDischargeDepth := 30) [hb]
@[simp] theorem axesStand_sizes (s : State) : (axesStand s).sizes = s.sizes := by
  unfold axesStand
  (repeat' split) <;> simp
@[simp] theorem axesStand_bounded (s : State) (hb : s.bounded) : (axesStand s).bounded := by
  unfold axesStand
  (repeat' split) <;> simp (maxDischargeDepth := 30) [hb]
@[simp] theorem testStand_sizes (s : State) : (testStand s).sizes = s.sizes := by
  unfold testStand
  (repeat' split) <;> simp
@[simp] theorem testStand_bounded (s : State) (hb : s.bounded) : (testStand s).bounded := by
  unfold testStand
  (repeat' split) <;> simp (maxDischargeDepth := 30) [hb]
@[simp] theorem stepMotion_sizes (s : State) (ax : Axis) (m : Motion) :
    (stepMotion s ax m).sizes = s.sizes := by simp [stepMotion]
@[simp] theorem stepMotion_bounded (s : State) (ax : Axis) (m : Motion) (hb : s.bounded) :
    (stepMotion s ax m).bounded := by
  unfold stepMotion
  simp (maxDischargeDepth := 30) [hb]
@[simp] theorem guardTable_sizes (s : State) : (guardTable s).sizes = s.sizes := by
  unfold guardTable
  (repeat' split) <;> simp
@[simp] theorem guardTable_bounded (s : State) (hb : s.bounded) : (guardTable s).bounded := by
  unfold guardTable
  (repeat' split) <;> simp (maxDischargeDepth := 30) [hb]
@[simp] theorem haltTable_sizes (s : State) (slip : Bool) : (haltTable s slip).sizes = s.sizes := by
  unfold haltTable
  (repeat' split) <;> simp
@[simp] theorem haltTable_bounded (s : State) (slip : Bool) (hb : s.bounded) : (haltTable s slip).bounded := by
  unfold haltTable
  (repeat' split) <;> simp (maxDischargeDepth := 30) [hb]
@[simp] theorem setActuator_sizes (s : State) (a : Actuator) (r : ActRecord) :
    (setActuator s a r).sizes = s.sizes := by simp [setActuator]
@[simp] theorem setActuator_bounded (s : State) (a : Actuator) (r : ActRecord) (hb : s.bounded) :
    (setActuator s a r).bounded := by
  unfold setActuator
  simp (maxDischargeDepth := 30) [hb]
@[simp] theorem takeValue_sizes (s : State) (a : Actuator) (v : Nat) : (takeValue s a v).sizes = s.sizes := by
  unfold takeValue
  (repeat' split) <;> simp
@[simp] theorem takeValue_bounded (s : State) (a : Actuator) (v : Nat) (hb : s.bounded) :
    (takeValue s a v).bounded := by
  unfold takeValue
  (repeat' split) <;> simp (maxDischargeDepth := 30) [hb]
@[simp] theorem settleActuator_sizes (s : State) (a : Actuator) (v : Nat) :
    (settleActuator s a v).sizes = s.sizes := by simp [settleActuator]
@[simp] theorem settleActuator_bounded (s : State) (a : Actuator) (v : Nat) (hb : s.bounded) :
    (settleActuator s a v).bounded := by
  unfold settleActuator
  simp (maxDischargeDepth := 30) [hb]
@[simp] theorem setHomeAxis_sizes (s : State) (ax : Axis) (v : HomeAxis) : (setHomeAxis s ax v).sizes = s.sizes := by
  unfold setHomeAxis
  (repeat' split) <;> simp
@[simp] theorem setHomeAxis_bounded (s : State) (ax : Axis) (v : HomeAxis) (hb : s.bounded) :
    (setHomeAxis s ax v).bounded := by
  unfold setHomeAxis
  (repeat' split) <;> simp (maxDischargeDepth := 30) [hb]
@[simp] theorem homeZero_sizes (s : State) (ax : Axis) : (homeZero s ax).sizes = s.sizes := by
  unfold homeZero
  dsimp only
  (repeat' split) <;> simp
@[simp] theorem homeZero_bounded (s : State) (ax : Axis) (hb : s.bounded) : (homeZero s ax).bounded := by
  unfold homeZero
  dsimp only
  (repeat' split) <;> simp (maxDischargeDepth := 30) [hb]
@[simp] theorem homeApproach_sizes (s : State) (ax : Axis) : (homeApproach s ax).sizes = s.sizes := by
  unfold homeApproach
  (repeat' split) <;> simp
@[simp] theorem homeApproach_bounded (s : State) (ax : Axis) (hb : s.bounded) : (homeApproach s ax).bounded := by
  unfold homeApproach
  (repeat' split) <;> simp (maxDischargeDepth := 30) [hb]
@[simp] theorem markHome_sizes (s : State) (a : Actuator) : (markHome s a).sizes = s.sizes := by
  unfold markHome
  (repeat' split) <;> simp
@[simp] theorem markHome_bounded (s : State) (a : Actuator) (hb : s.bounded) : (markHome s a).bounded := by
  unfold markHome
  (repeat' split) <;> simp (maxDischargeDepth := 30) [hb]
@[simp] theorem homeActuator_sizes (s : State) (a : Actuator) : (homeActuator s a).sizes = s.sizes := by
  unfold homeActuator
  (repeat' split) <;> simp
@[simp] theorem homeActuator_bounded (s : State) (a : Actuator) (hb : s.bounded) : (homeActuator s a).bounded := by
  unfold homeActuator
  (repeat' split) <;> simp (maxDischargeDepth := 30) [hb]
@[simp] theorem testHome_sizes (s : State) : (testHome s).sizes = s.sizes := by
  unfold testHome
  split
  · dsimp only
    split
    · split
      · rename_i hi
        refine Eq.trans (sizes_setJam _ _ ?_) (by simp)
        simp [report, setLast, hi]
      · simp
    · rfl
  · rfl
@[simp] theorem testHome_bounded (s : State) (hb : s.bounded) : (testHome s).bounded := by
  unfold testHome
  split
  · dsimp only
    split
    · split
      · exact report_bounded (setLast (s.setTable _) _) _ hb
      · exact report_bounded _ _ hb
    · exact hb
  · exact hb
@[simp] theorem beginHome_sizes (s : State) : (beginHome s).sizes = s.sizes := by
  unfold beginHome
  split
  · rw [testHome_sizes, foldl_sizes _ (fun s a => by simp)]
    simp
  · rfl
@[simp] theorem beginHome_bounded (s : State) (hb : s.bounded) : (beginHome s).bounded := by
  unfold beginHome
  split
  · exact testHome_bounded _ (foldl_bounded _ (fun s a hb => by simp [hb]) _ _ (by simp (maxDischargeDepth := 30) [hb]))
  · exact hb
@[simp] theorem resumeHome_sizes (s : State) (h : HomeRun) : (resumeHome s h).sizes = s.sizes := by
  unfold resumeHome
  split <;> simp
@[simp] theorem resumeHome_bounded (s : State) (h : HomeRun) (hb : s.bounded) : (resumeHome s h).bounded := by
  unfold resumeHome
  (repeat' split) <;> simp (maxDischargeDepth := 30) [hb]
@[simp] theorem stepHome_sizes (s : State) (ax : Axis) (h : HomeRun) : (stepHome s ax h).sizes = s.sizes := by
  unfold stepHome
  dsimp only
  (repeat' split) <;> simp
@[simp] theorem stepHome_bounded (s : State) (ax : Axis) (h : HomeRun) (hb : s.bounded) :
    (stepHome s ax h).bounded := by
  unfold stepHome
  dsimp only
  (repeat' split) <;> simp (maxDischargeDepth := 30) [hb]
@[simp] theorem resumeTable_sizes (s : State) : (resumeTable s).sizes = s.sizes := by
  unfold resumeTable
  (repeat' split) <;> simp
@[simp] theorem resumeTable_bounded (s : State) (hb : s.bounded) : (resumeTable s).bounded := by
  unfold resumeTable
  (repeat' split) <;> simp (maxDischargeDepth := 30) [hb]
@[simp] theorem homeIndex_sizes (s : State) (ax : Axis) : (homeIndex s ax).sizes = s.sizes := by
  unfold homeIndex
  (repeat' split) <;> simp
@[simp] theorem homeIndex_bounded (s : State) (ax : Axis) (hb : s.bounded) : (homeIndex s ax).bounded := by
  unfold homeIndex
  (repeat' split) <;> simp (maxDischargeDepth := 30) [hb]

/-! ### Stroke -/

@[simp] theorem setRev_sizes (s : State) (r : Option Revolution) : (setRev s r).sizes = s.sizes := by simp [setRev]
@[simp] theorem setRev_bounded (s : State) (r : Option Revolution) (hb : s.bounded) : (setRev s r).bounded := by
  unfold setRev
  simp (maxDischargeDepth := 30) [hb]
@[simp] theorem restartMarks_sizes (s : State) : (restartMarks s).sizes = s.sizes := by simp [restartMarks]
@[simp] theorem restartMarks_bounded (s : State) (hb : s.bounded) : (restartMarks s).bounded := by
  unfold restartMarks
  simp (maxDischargeDepth := 30) [hb]
@[simp] theorem takeMark_sizes (s : State) (r : Revolution) (m : Mark) :
    (takeMark s r m).sizes = s.sizes := by simp [takeMark]
@[simp] theorem takeMark_bounded (s : State) (r : Revolution) (m : Mark) (hb : s.bounded) :
    (takeMark s r m).bounded := by
  unfold takeMark
  simp (maxDischargeDepth := 30) [hb]
@[simp] theorem restoreMark_sizes (s : State) (m : Mark) : (restoreMark s m).sizes = s.sizes := by simp [restoreMark]
@[simp] theorem restoreMark_bounded (s : State) (m : Mark) (hb : s.bounded) : (restoreMark s m).bounded := by
  unfold restoreMark
  simp (maxDischargeDepth := 30) [hb]
@[simp] theorem setHold_sizes (s : State) : (setHold s).sizes = s.sizes := by simp [setHold]
@[simp] theorem setHold_bounded (s : State) (hb : s.bounded) : (setHold s).bounded := by
  unfold setHold
  simp (maxDischargeDepth := 30) [hb]
@[simp] theorem holdAtGate_sizes (s : State) : (holdAtGate s).sizes = s.sizes := by
  unfold holdAtGate
  (repeat' split) <;> simp
@[simp] theorem holdAtGate_bounded (s : State) (hb : s.bounded) : (holdAtGate s).bounded := by
  unfold holdAtGate
  (repeat' split) <;> simp (maxDischargeDepth := 30) [hb]
@[simp] theorem leaveGate_sizes (s : State) : (leaveGate s).sizes = s.sizes := by simp [leaveGate]
@[simp] theorem leaveGate_bounded (s : State) (hb : s.bounded) : (leaveGate s).bounded := by
  unfold leaveGate
  simp (maxDischargeDepth := 30) [hb]
@[simp] theorem startRevolution_sizes (s : State) (kind : RevKind) :
    (startRevolution s kind).sizes = s.sizes := by simp [startRevolution]
@[simp] theorem startRevolution_bounded (s : State) (kind : RevKind) (hb : s.bounded) :
    (startRevolution s kind).bounded := by
  unfold startRevolution
  simp (maxDischargeDepth := 30) [hb]
@[simp] theorem dropCancelled_sizes (s : State) (slot : Nat) (k : ItemKey) (o : Origin) :
    (dropCancelled s slot k o).sizes = s.sizes := by
  unfold dropCancelled
  (repeat' split) <;> simp
@[simp] theorem dropCancelled_bounded (s : State) (slot : Nat) (k : ItemKey) (o : Origin) (hb : s.bounded) :
    (dropCancelled s slot k o).bounded := by
  unfold dropCancelled
  (repeat' split) <;> simp (maxDischargeDepth := 30) [hb]
@[simp] theorem tryStart_sizes (s : State) : (tryStart s).sizes = s.sizes := by
  unfold tryStart
  (repeat' split) <;> simp
@[simp] theorem tryStart_bounded (s : State) (hb : s.bounded) : (tryStart s).bounded := by
  unfold tryStart
  (repeat' split) <;> simp (maxDischargeDepth := 30) [hb]
@[simp] theorem startRestoring_sizes (s : State) : (startRestoring s).sizes = s.sizes := by simp [startRestoring]
@[simp] theorem startRestoring_bounded (s : State) (hb : s.bounded) : (startRestoring s).bounded := by
  unfold startRestoring
  simp (maxDischargeDepth := 30) [hb]
@[simp] theorem takeWaste_sizes (s : State) (r : Revolution) (board : Option Nat) :
    (takeWaste s r board).sizes = s.sizes := by simp [takeWaste]
@[simp] theorem takeWaste_bounded (s : State) (r : Revolution) (board : Option Nat) (hb : s.bounded) :
    (takeWaste s r board).bounded := by
  unfold takeWaste
  simp (maxDischargeDepth := 30) [hb]
@[simp] theorem transferIndex_sizes (s : State) (r : Revolution) : (transferIndex s r).sizes = s.sizes := by
  unfold transferIndex
  (repeat' split) <;> simp
@[simp] theorem transferIndex_bounded (s : State) (r : Revolution) (hb : s.bounded) : (transferIndex s r).bounded := by
  unfold transferIndex
  (repeat' split) <;> simp (maxDischargeDepth := 30) [hb]
@[simp] theorem transferWork_sizes (s : State) (r : Revolution) : (transferWork s r).sizes = s.sizes := by
  unfold transferWork
  (repeat' split) <;> simp
@[simp] theorem transferWork_bounded (s : State) (r : Revolution) (hb : s.bounded) : (transferWork s r).bounded := by
  unfold transferWork
  (repeat' split) <;> simp (maxDischargeDepth := 30) [hb]
@[simp] theorem wasteJaw_sizes (s : State) : (wasteJaw s).sizes = s.sizes := by
  unfold wasteJaw
  (repeat' split) <;> simp
@[simp] theorem wasteJaw_bounded (s : State) (hb : s.bounded) : (wasteJaw s).bounded := by
  unfold wasteJaw
  (repeat' split) <;> simp (maxDischargeDepth := 30) [hb]
@[simp] theorem setLead_sizes (s : State) (l : LeadState) : (setLead s l).sizes = s.sizes := by simp [setLead]
@[simp] theorem setLead_bounded (s : State) (l : LeadState) (hb : s.bounded) : (setLead s l).bounded := by
  unfold setLead
  simp (maxDischargeDepth := 30) [hb]
@[simp] theorem missLead_sizes (s : State) : (missLead s).sizes = s.sizes := by
  unfold missLead
  dsimp only
  (repeat' split) <;> simp
@[simp] theorem missLead_bounded (s : State) (hb : s.bounded) : (missLead s).bounded := by
  unfold missLead
  dsimp only
  (repeat' split) <;> simp (maxDischargeDepth := 30) [hb]
@[simp] theorem startChainStep_sizes (s : State) : (startChainStep s).sizes = s.sizes := by simp [startChainStep]
@[simp] theorem startChainStep_bounded (s : State) (hb : s.bounded) : (startChainStep s).bounded := by
  unfold startChainStep
  simp (maxDischargeDepth := 30) [hb]
@[simp] theorem returnJaw_sizes (s : State) : (returnJaw s).sizes = s.sizes := by
  unfold returnJaw
  (repeat' split) <;> simp
@[simp] theorem returnJaw_bounded (s : State) (hb : s.bounded) : (returnJaw s).bounded := by
  unfold returnJaw
  (repeat' split) <;> simp (maxDischargeDepth := 30) [hb]
@[simp] theorem jawAtBrake_sizes (s : State) (r : Revolution) : (jawAtBrake s r).sizes = s.sizes := by
  unfold jawAtBrake
  dsimp only
  (repeat' split) <;> simp
@[simp] theorem jawAtBrake_bounded (s : State) (r : Revolution) (hb : s.bounded) : (jawAtBrake s r).bounded := by
  unfold jawAtBrake
  dsimp only
  (repeat' split) <;> simp (maxDischargeDepth := 30) [hb]
@[simp] theorem jawAtHalt_sizes (s : State) (r : Revolution) (slip : Bool) : (jawAtHalt s r slip).sizes = s.sizes := by
  unfold jawAtHalt
  (repeat' split) <;> simp
@[simp] theorem jawAtHalt_bounded (s : State) (r : Revolution) (slip : Bool) (hb : s.bounded) :
    (jawAtHalt s r slip).bounded := by
  unfold jawAtHalt
  (repeat' split) <;> simp (maxDischargeDepth := 30) [hb]
@[simp] theorem brakeShaft_sizes (s : State) : (brakeShaft s).sizes = s.sizes := by simp [brakeShaft]
@[simp] theorem brakeShaft_bounded (s : State) (hb : s.bounded) : (brakeShaft s).bounded := by
  unfold brakeShaft
  simp (maxDischargeDepth := 30) [hb]
@[simp] theorem haltShaft_sizes (s : State) (c : AlarmClass) : (haltShaft s c).sizes = s.sizes := by
  unfold haltShaft
  dsimp only
  (repeat' split) <;> simp
@[simp] theorem haltShaft_bounded (s : State) (c : AlarmClass) (hb : s.bounded) : (haltShaft s c).bounded := by
  unfold haltShaft
  dsimp only
  (repeat' split) <;> simp (maxDischargeDepth := 30) [hb]
@[simp] theorem haltRun_sizes (s : State) : (haltRun s).sizes = s.sizes := by
  unfold haltRun
  split <;> rename_i hr
  all_goals first | rfl | exact sizes_setJam s _ (by rw [hr]; rfl)
@[simp] theorem haltRun_bounded (s : State) (hb : s.bounded) : (haltRun s).bounded := by
  unfold haltRun
  (repeat' split) <;> simp (maxDischargeDepth := 30) [hb]
@[simp] theorem invalidate_sizes (s : State) (c : AlarmClass) (src : AlarmSource) :
    (invalidate s c src).sizes = s.sizes := by
  unfold invalidate
  dsimp only
  (repeat' split) <;> simp
@[simp] theorem invalidate_bounded (s : State) (c : AlarmClass) (src : AlarmSource) (hb : s.bounded) :
    (invalidate s c src).bounded := by
  unfold invalidate
  dsimp only
  (repeat' split) <;> simp (maxDischargeDepth := 30) [hb]
@[simp] theorem stopAlarm_sizes (s : State) (c : AlarmClass) (src : AlarmSource) :
    (stopAlarm s c src).sizes = s.sizes := by
  unfold stopAlarm
  dsimp only
  (repeat' split) <;> simp
@[simp] theorem stopAlarm_bounded (s : State) (c : AlarmClass) (src : AlarmSource) (hb : s.bounded) :
    (stopAlarm s c src).bounded := by
  unfold stopAlarm
  dsimp only
  (repeat' split) <;> simp (maxDischargeDepth := 30) [hb]

/-! ### Finish -/

@[simp] theorem dropStale_sizes (s : State) : (dropStale s).sizes = s.sizes := by
  unfold dropStale
  (repeat' split) <;> simp
@[simp] theorem dropStale_bounded (s : State) (hb : s.bounded) : (dropStale s).bounded := by
  unfold dropStale
  (repeat' split) <;> simp (maxDischargeDepth := 30) [hb]
@[simp] theorem beginPositioning_sizes (s : State) (atUp : Bool) (pos : Nat) (i : ClipItem) :
    (beginPositioning s atUp pos i).sizes = s.sizes := by
  unfold beginPositioning
  dsimp only
  (repeat' split) <;> simp
@[simp] theorem beginPositioning_bounded (s : State) (atUp : Bool) (pos : Nat) (i : ClipItem) (hb : s.bounded) :
    (beginPositioning s atUp pos i).bounded := by
  unfold beginPositioning
  dsimp only
  (repeat' split) <;> simp (maxDischargeDepth := 30) [hb]
@[simp] theorem aimTable_sizes (atUp : Bool) (s : State) : (aimTable atUp s).sizes = s.sizes := by
  unfold aimTable
  dsimp only
  (repeat' split) <;> simp
@[simp] theorem aimTable_bounded (atUp : Bool) (s : State) (hb : s.bounded) : (aimTable atUp s).bounded := by
  unfold aimTable
  dsimp only
  (repeat' split) <;> simp (maxDischargeDepth := 30) [hb]
@[simp] theorem raiseCountdown_sizes (s : State) (k : ItemKey) (t : Nat) : (raiseCountdown s k t).sizes = s.sizes := by
  unfold raiseCountdown
  (repeat' split) <;> simp
@[simp] theorem raiseCountdown_bounded (s : State) (k : ItemKey) (t : Nat) (hb : s.bounded) :
    (raiseCountdown s k t).bounded := by
  unfold raiseCountdown
  (repeat' split) <;> simp (maxDischargeDepth := 30) [hb]
@[simp] theorem commandActuator_sizes (s : State) (a : Actuator) (v : Nat) :
    (commandActuator s a v).sizes = s.sizes := by simp [commandActuator]
@[simp] theorem commandActuator_bounded (s : State) (a : Actuator) (v : Nat) (hb : s.bounded) :
    (commandActuator s a v).bounded := by
  unfold commandActuator
  simp (maxDischargeDepth := 30) [hb]
@[simp] theorem aimActuator_sizes (atUp : Bool) (pos : Nat) (i : ClipItem) (s : State) (a : Actuator) :
    (aimActuator atUp pos i s a).sizes = s.sizes := by
  unfold aimActuator
  dsimp only
  (repeat' split) <;> simp
@[simp] theorem aimActuator_bounded (atUp : Bool) (pos : Nat) (i : ClipItem) (s : State) (a : Actuator) (hb : s.bounded) :
    (aimActuator atUp pos i s a).bounded := by
  unfold aimActuator
  dsimp only
  (repeat' split) <;> simp (maxDischargeDepth := 30) [hb]
@[simp] theorem keepBack_sizes (s : State) : (keepBack s).sizes = s.sizes := by
  unfold keepBack
  split <;> rfl
@[simp] theorem keepBack_bounded (s : State) (hb : s.bounded) : (keepBack s).bounded := by
  unfold keepBack
  split <;> exact hb
@[simp] theorem aimActuators_sizes (atUp : Bool) (s : State) : (aimActuators atUp s).sizes = s.sizes := by
  unfold aimActuators
  split
  · simp
  · split
    · rfl
    · exact foldl_sizes _ (fun s a => by simp) _ s
@[simp] theorem aimActuators_bounded (atUp : Bool) (s : State) (hb : s.bounded) : (aimActuators atUp s).bounded := by
  unfold aimActuators
  split
  · exact keepBack_bounded s hb
  · split
    · exact hb
    · exact foldl_bounded _ (fun s a hb => by simp [hb]) _ s hb
@[simp] theorem zeroCountdown_sizes (before s : State) : (zeroCountdown before s).sizes = s.sizes := by
  unfold zeroCountdown
  (repeat' split) <;> simp
@[simp] theorem zeroCountdown_bounded (before s : State) (hb : s.bounded) : (zeroCountdown before s).bounded := by
  unfold zeroCountdown
  (repeat' split) <;> simp (maxDischargeDepth := 30) [hb]
@[simp] theorem aim_sizes (atUp : Bool) (before s : State) : (aim atUp before s).sizes = s.sizes := by simp [aim]
@[simp] theorem aim_bounded (atUp : Bool) (before s : State) (hb : s.bounded) : (aim atUp before s).bounded := by
  unfold aim
  simp (maxDischargeDepth := 30) [hb]
@[simp] theorem releaseGate_sizes (s : State) : (releaseGate s).sizes = s.sizes := by
  unfold releaseGate
  (repeat' split) <;> simp
@[simp] theorem releaseGate_bounded (s : State) (hb : s.bounded) : (releaseGate s).bounded := by
  unfold releaseGate
  (repeat' split) <;> simp (maxDischargeDepth := 30) [hb]
@[simp] theorem completeRun_sizes (s : State) : (completeRun s).sizes = s.sizes := by
  unfold completeRun setRun
  split
  · rename_i hr _
    split <;> first | rfl | exact sizes_setJam s _ (by rw [hr]; rfl)
  · rename_i hr _
    split <;> first | rfl | exact sizes_setJam s _ (by rw [hr]; rfl)
  · rename_i hr
    split <;> first | rfl | exact sizes_setJam s _ (by rw [hr]; rfl)
  · rfl
@[simp] theorem completeRun_bounded (s : State) (hb : s.bounded) : (completeRun s).bounded := by
  unfold completeRun setRun
  (repeat' split) <;> first | exact hb
@[simp] theorem updatePull_sizes (s : State) : (updatePull s).sizes = s.sizes := by
  unfold updatePull
  dsimp only
  (repeat' split) <;> simp
@[simp] theorem updatePull_bounded (s : State) (hb : s.bounded) : (updatePull s).bounded := by
  unfold updatePull
  dsimp only
  (repeat' split) <;> simp (maxDischargeDepth := 30) [hb]
@[simp] theorem watchDownstream_sizes (s : State) : (watchDownstream s).sizes = s.sizes := by
  unfold watchDownstream
  dsimp only
  (repeat' split) <;> simp
@[simp] theorem watchDownstream_bounded (s : State) (hb : s.bounded) : (watchDownstream s).bounded := by
  unfold watchDownstream
  dsimp only
  (repeat' split) <;> simp (maxDischargeDepth := 30) [hb]
@[simp] theorem updateHold_sizes (s : State) : (updateHold s).sizes = s.sizes := by simp [updateHold]
@[simp] theorem updateHold_bounded (s : State) (hb : s.bounded) : (updateHold s).bounded := by
  unfold updateHold
  simp (maxDischargeDepth := 30) [hb]
@[simp] theorem statusOnChange_sizes (before s : State) : (statusOnChange before s).sizes = s.sizes := by
  unfold statusOnChange
  split <;> simp
@[simp] theorem statusOnChange_bounded (before s : State) (hb : s.bounded) : (statusOnChange before s).bounded := by
  unfold statusOnChange
  split <;> simp [hb]
@[simp] theorem finish_sizes (atUp : Bool) (before s : State) :
    (finish atUp before s).sizes = s.sizes := by simp [finish]
@[simp] theorem finish_bounded (atUp : Bool) (before s : State) (hb : s.bounded) : (finish atUp before s).bounded := by
  unfold finish
  simp (maxDischargeDepth := 30) [hb]

end Sys2Proof.Machine
end

