-- ==== Sys2Proof/Laws/Finish.lean ====
section
/-! SUPPORT. What the end of a command can do (log 5): it leaves the work of the command alone, it makes the hold line agree
with its conditions, and it changes the run state only out of STOPPING and HALTING. -/

namespace Sys2Proof.Machine

/-! ### The work stays (log 5) -/

/-- A slot's context read back from the slots. -/
theorem ctxAt_some {s : State} {i : Nat} {c : Context} (h : ctxAt s i = some c) : s.boards.slots[i]? = some (some c) := by
  unfold ctxAt at h
  rw [List.getD_eq_getElem?_getD] at h
  cases hs : s.boards.slots[i]? with
  | none => simp [hs] at h
  | some o => simp [hs] at h; rw [h]

/-- Replacing an entry by one that a map cannot tell apart does not change the map's list. -/
theorem map_set_same {α β : Type} (g : α → β) (l : List α) (i : Nat) (a b : α) (h : l[i]? = some a) (hg : g b = g a) :
    (l.set i b).map g = l.map g := by
  induction l generalizing i with
  | nil => rfl
  | cons x rest ih =>
    cases i with
    | zero => simp at h; subst h; simp [hg]
    | succ n => simp at h; simp [ih n h]

@[simp] theorem report_work (s : State) (k : ReportKind) : (report s k).work = s.work := by
  simp only [State.work, report]; rfl
@[simp] theorem setPositioning_work (s : State) (r : Option Positioning) : (setPositioning s r).work = s.work := by
  simp only [State.work, setPositioning]; rfl
@[simp] theorem queueStatus_work (s : State) : (queueStatus s).work = s.work := by
  simp only [State.work, queueStatus]; rfl
@[simp] theorem setActuator_work (s : State) (a : Actuator) (r : ActRecord) : (setActuator s a r).work = s.work := by
  cases a <;> rfl

theorem firstPending_spec (l : List OwnItem) (n : Nat) :
    ∃ m, firstPending l n = n + m ∧ firstPending (l.drop m) (n + m) = n + m := by
  induction l generalizing n with
  | nil => exact ⟨0, rfl, rfl⟩
  | cons o rest ih =>
    by_cases ho : o.state = .pending
    · exact ⟨0, by simp [firstPending, ho], by simp [firstPending, ho]⟩
    · obtain ⟨m, h1, h2⟩ := ih (n + 1)
      have hm : n + 1 + m = n + (m + 1) := by omega
      exact ⟨m + 1, by simp only [firstPending, ho, if_false, h1, hm], by rw [← hm]; exact h2⟩

/-- A cursor that has walked stays where it is. -/
@[simp] theorem Context.walk_walk (c : Context) : c.walk.walk = c.walk := by
  obtain ⟨m, h1, h2⟩ := firstPending_spec (c.own.drop c.cursor) c.cursor
  rw [List.drop_drop] at h2
  simp only [Context.walk, h1, h2]

/-- The finishing test's changes are none that `unjudged` can see. -/
theorem Context.unjudged_finished (c : Context) :
    ({ c.walk with finished := true, planClosed := true } : Context).unjudged = c.unjudged := by
  have h := congrArg Context.cursor c.walk_walk
  simp only [Context.walk] at h
  simp only [Context.unjudged, Context.walk, h]

@[simp] theorem testFinished_work (s : State) : (testFinished s).work = s.work := by
  unfold testFinished
  split
  · rfl
  · rename_i slot _
    split
    · rfl
    · rename_i c hc
      split
      · rw [report_work]
        have := map_set_same (fun o : Option Context => o.map Context.unjudged) s.boards.slots slot (some c)
          (some { c.walk with finished := true, planClosed := true }) (ctxAt_some hc)
          (congrArg some c.unjudged_finished)
        simp only [State.work, setSlot, State.setBoards_boards, this]
        rfl
      · rfl

@[simp] theorem dropStale_work (s : State) : (dropStale s).work = s.work := by
  unfold dropStale; (repeat' split) <;> simp
@[simp] theorem beginPositioning_work (s : State) (atUp : Bool) (pos : Nat) (i : ClipItem) :
    (beginPositioning s atUp pos i).work = s.work := by
  unfold beginPositioning; (repeat' split) <;> simp

@[simp] theorem Motion.direct_counters (m : Motion) (t : Table) :
    (m.direct t).x = t.x ∧ (m.direct t).y = t.y ∧ (m.direct t).phaseX = t.phaseX ∧ (m.direct t).phaseY = t.phaseY ∧
    (m.direct t).homeValid = t.homeValid ∧ (m.direct t).op = t.op := by
  unfold Motion.direct AxisMotion.direct
  (repeat' split) <;> simp [Table.setDir]

@[simp] theorem beginPositioning_table (s : State) (atUp : Bool) (pos : Nat) (i : ClipItem) :
    (beginPositioning s atUp pos i).table = s.table := by
  unfold beginPositioning; (repeat' split) <;> simp [setPositioning]

/-- A table changed in nothing but its direction outputs and from no operation to a MOVE leaves the work alone. -/
theorem setTable_work (s : State) (t : Table) (hx : t.x = s.table.x) (hy : t.y = s.table.y) (hp : t.phaseX = s.table.phaseX)
    (hq : t.phaseY = s.table.phaseY) (hh : t.homeValid = s.table.homeValid)
    (ho : t.op.requested = s.table.op.requested) : (s.setTable t).work = s.work := by
  simp only [State.work, State.setTable_table, hx, hy, hp, hq, hh, ho]
  rfl

theorem tableBusy_none {s : State} (h : tableBusy s = false) : s.table.op = .none := by
  unfold tableBusy at h
  cases ho : s.table.op <;> simp [ho] at h ⊢

@[simp] theorem aimTable_work (atUp : Bool) (s : State) : (aimTable atUp s).work = s.work := by
  unfold aimTable
  split
  · rfl
  · split
    · rfl
    · rename_i pos i _ hb
      have ho : s.table.op = .none := tableBusy_none (by simp at hb; exact hb.1)
      split
      · exact setTable_work s _ rfl rfl rfl rfl rfl (by simp [ho, Operation.requested])
      · dsimp only
        have hd := (freshMotion s i.pose.tx i.pose.ty).direct_counters
          { (beginPositioning s atUp pos i).table with op := .move i.key (freshMotion s i.pose.tx i.pose.ty) }
        rw [setTable_work _ _ hd.1 hd.2.1 hd.2.2.1 hd.2.2.2.1 hd.2.2.2.2.1
          (by rw [hd.2.2.2.2.2]; simp [ho, Operation.requested])]
        simp

@[simp] theorem raiseCountdown_work (s : State) (k : ItemKey) (t : Nat) : (raiseCountdown s k t).work = s.work := by
  unfold raiseCountdown; (repeat' split) <;> simp
@[simp] theorem aimActuator_work (atUp : Bool) (pos : Nat) (i : ClipItem) (s : State) (a : Actuator) :
    (aimActuator atUp pos i s a).work = s.work := by
  unfold aimActuator
  dsimp only
  split
  · rfl
  · split
    · simp only [commandActuator, setActuator_work]
      (repeat' split) <;> simp
    · rfl
@[simp] theorem keepBack_work (s : State) : (keepBack s).work = s.work := by
  unfold keepBack; split <;> rfl
@[simp] theorem aimActuators_work (atUp : Bool) (s : State) : (aimActuators atUp s).work = s.work := by
  unfold aimActuators
  split
  · simp
  · split
    · rfl
    · simp [actuators]
@[simp] theorem zeroCountdown_work (before s : State) : (zeroCountdown before s).work = s.work := by
  unfold zeroCountdown; (repeat' split) <;> simp
@[simp] theorem aim_work (atUp : Bool) (before s : State) : (aim atUp before s).work = s.work := by simp [aim]

@[simp] theorem leaveGate_work (s : State) : (leaveGate s).work = s.work := by
  have : (s.stroke.rev.map fun r => ({ r with leftGate := true } : Revolution)).map (fun r => ({ r with leftGate := false } : Revolution)) =
      s.stroke.rev.map fun r => { r with leftGate := false } := by
    cases s.stroke.rev <;> rfl
  simp only [State.work, leaveGate, State.setStroke_stroke, this]
  rfl
@[simp] theorem releaseGate_work (s : State) : (releaseGate s).work = s.work := by
  unfold releaseGate; split <;> simp
@[simp] theorem setRun_work (s : State) (r : RunState) : (setRun s r).work = s.work := rfl
@[simp] theorem completeRun_work (s : State) : (completeRun s).work = s.work := by
  unfold completeRun; (repeat' split) <;> simp
@[simp] theorem updatePull_work (s : State) : (updatePull s).work = s.work := rfl

theorem countAlarm_stops (c : AlarmClass) (src : AlarmSource) (hc : c.stop = false) (l l' : List AlarmEntry)
    (h : countAlarm c src l = some l') : l'.filter (·.cls.stop) = l.filter (·.cls.stop) := by
  induction l generalizing l' with
  | nil => simp [countAlarm] at h
  | cons e rest ih =>
    simp only [countAlarm] at h
    split at h
    · rename_i he
      simp only [Bool.and_eq_true, beq_iff_eq] at he
      cases h
      simp [he.1, hc]
    · cases hr : countAlarm c src rest with
      | none => simp [hr] at h
      | some r => simp [hr] at h; subst h; simp [List.filter_cons, ih r hr]

theorem dropAckedNote_stops (l l' : List AlarmEntry) (h : dropAckedNote l = some l') :
    l'.filter (·.cls.stop) = l.filter (·.cls.stop) := by
  induction l generalizing l' with
  | nil => simp [dropAckedNote] at h
  | cons e rest ih =>
    simp only [dropAckedNote] at h
    split at h
    · rename_i he; cases h; simp at he; simp [he.2]
    · cases hr : dropAckedNote rest with
      | none => simp [hr] at h
      | some r => simp [hr] at h; subst h; simp [List.filter_cons, ih r hr]

/-- Raising a NOTE leaves every STOP entry and the unrecorded-halt flag as they are. -/
theorem Jam.enter_note (j : Jam) (c : AlarmClass) (src : AlarmSource) (n : Nat) (hc : c.stop = false) :
    (j.enter c src n).alarms.filter (·.cls.stop) = j.alarms.filter (·.cls.stop) ∧
    (j.enter c src n).unrecordedHalt = j.unrecordedHalt := by
  have hadd : (j.add c src n).alarms.filter (·.cls.stop) = j.alarms.filter (·.cls.stop) ∧
      (j.add c src n).unrecordedHalt = j.unrecordedHalt := by
    unfold Jam.add
    split
    · simp [Jam.append, hc]
    · split
      · rename_i l hl
        simp [Jam.append, hc, dropAckedNote_stops _ _ hl]
      · simp [hc]
  unfold Jam.enter
  simp only [hc, Bool.false_eq_true, if_false]
  split
  · rename_i l hl
    exact ⟨countAlarm_stops c src hc _ _ hl, rfl⟩
  · exact hadd

/-- Raising a NOTE leaves the work alone. -/
theorem enterNote_work (s : State) (c : AlarmClass) (src : AlarmSource) (hc : c.stop = false) :
    (enterAlarm s c src).work = s.work := by
  have := s.jam.enter_note c src s.stroke.revCount hc
  simp only [State.work, enterAlarm, State.setJam_jam, this.1, this.2, Jam.enter_purgeCount]
  rfl

@[simp] theorem watchDownstream_work (s : State) : (watchDownstream s).work = s.work := by
  unfold watchDownstream
  dsimp only
  split
  · exact enterNote_work _ _ _ rfl
  · rfl
@[simp] theorem updateHold_work (s : State) : (updateHold s).work = s.work := by simp [updateHold]
@[simp] theorem statusOnChange_work (before s : State) : (statusOnChange before s).work = s.work := by
  unfold statusOnChange; split <;> simp

/-- The end of a command leaves the work of the command alone. -/
@[simp] theorem finish_work (atUp : Bool) (before s : State) : (finish atUp before s).work = s.work := by
  simp [finish]

/-! ### The run state -/

@[simp] theorem setPositioning_jam (s : State) (r : Option Positioning) : (setPositioning s r).jam = s.jam := rfl
@[simp] theorem setActuator_jam (s : State) (a : Actuator) (r : ActRecord) : (setActuator s a r).jam = s.jam := rfl
@[simp] theorem report_jam (s : State) (k : ReportKind) : (report s k).jam = s.jam := rfl
@[simp] theorem setSlot_jam (s : State) (i : Nat) (c : Option Context) : (setSlot s i c).jam = s.jam := rfl
@[simp] theorem queueStatus_jam (s : State) : (queueStatus s).jam = s.jam := rfl
@[simp] theorem testFinished_jam (s : State) : (testFinished s).jam = s.jam := by
  unfold testFinished; (repeat' split) <;> simp
@[simp] theorem dropStale_jam (s : State) : (dropStale s).jam = s.jam := by
  unfold dropStale; (repeat' split) <;> simp
@[simp] theorem beginPositioning_jam (s : State) (atUp : Bool) (pos : Nat) (i : ClipItem) :
    (beginPositioning s atUp pos i).jam = s.jam := by
  unfold beginPositioning; (repeat' split) <;> simp
@[simp] theorem aimTable_jam (atUp : Bool) (s : State) : (aimTable atUp s).jam = s.jam := by
  unfold aimTable; (repeat' split) <;> simp [setOp]
@[simp] theorem raiseCountdown_jam (s : State) (k : ItemKey) (t : Nat) : (raiseCountdown s k t).jam = s.jam := by
  unfold raiseCountdown; (repeat' split) <;> simp
@[simp] theorem aimActuator_jam (atUp : Bool) (pos : Nat) (i : ClipItem) (s : State) (a : Actuator) :
    (aimActuator atUp pos i s a).jam = s.jam := by
  unfold aimActuator commandActuator; dsimp only; (repeat' split) <;> simp
@[simp] theorem keepBack_jam (s : State) : (keepBack s).jam = s.jam := by unfold keepBack; split <;> rfl
@[simp] theorem aimActuators_jam (atUp : Bool) (s : State) : (aimActuators atUp s).jam = s.jam := by
  unfold aimActuators; (repeat' split) <;> simp [actuators]
@[simp] theorem zeroCountdown_jam (before s : State) : (zeroCountdown before s).jam = s.jam := by
  unfold zeroCountdown; (repeat' split) <;> simp
@[simp] theorem aim_jam (atUp : Bool) (before s : State) : (aim atUp before s).jam = s.jam := by simp [aim]
@[simp] theorem leaveGate_jam (s : State) : (leaveGate s).jam = s.jam := rfl
@[simp] theorem releaseGate_jam (s : State) : (releaseGate s).jam = s.jam := by
  unfold releaseGate; split <;> simp
@[simp] theorem updateHold_run (s : State) : (updateHold s).jam.run = s.jam.run := by
  unfold updateHold watchDownstream; dsimp only; split <;> simp [updatePull, enterAlarm]
@[simp] theorem updateHold_qualifier (s : State) : (updateHold s).jam.qualifier = s.jam.qualifier := by
  unfold updateHold watchDownstream; dsimp only; split <;> simp [updatePull, enterAlarm]
@[simp] theorem statusOnChange_jam (before s : State) : (statusOnChange before s).jam = s.jam := by
  unfold statusOnChange; split <;> simp

theorem completeRun_settled {s : State} (h : s.jam.run.settled = true) : completeRun s = s := by
  unfold completeRun
  split <;> first | rfl | (rename_i hr; simp_all [RunState.settled])

/-- The end of a command leaves a run state that is neither STOPPING nor HALTING, and its qualifier (R167, R168, R170). -/
theorem finish_run (atUp : Bool) (before s : State) (h : s.jam.run.settled = true) :
    (finish atUp before s).jam.run = s.jam.run ∧ (finish atUp before s).jam.qualifier = s.jam.qualifier := by
  have hr : (releaseGate (aim atUp before (testFinished s))).jam = s.jam := by simp
  rw [finish, statusOnChange_jam, updateHold_run, updateHold_qualifier, dropStale_jam,
    completeRun_settled (by rw [hr]; exact h), hr]
  exact ⟨rfl, rfl⟩

/-- The end of a command leaves a station that is HALTING in HALTING or in HALTED (R170). -/
theorem finish_halting (atUp : Bool) (before s : State) (h : s.jam.run = .halting) :
    (finish atUp before s).jam.run = .halting ∨ (finish atUp before s).jam.run = .halted := by
  have hr : (releaseGate (aim atUp before (testFinished s))).jam = s.jam := by simp
  rw [finish, statusOnChange_jam, updateHold_run, dropStale_jam]
  unfold completeRun
  rw [hr, h]
  dsimp only
  split
  · right; rfl
  · left; rw [hr, h]

/-! ### The shaft, the operation and the console -/

@[simp] theorem setPositioning_stroke (s : State) (r : Option Positioning) : (setPositioning s r).stroke = s.stroke := rfl
@[simp] theorem report_stroke (s : State) (k : ReportKind) : (report s k).stroke = s.stroke := rfl
@[simp] theorem setSlot_stroke (s : State) (i : Nat) (c : Option Context) : (setSlot s i c).stroke = s.stroke := rfl
@[simp] theorem queueStatus_stroke (s : State) : (queueStatus s).stroke = s.stroke := rfl
@[simp] theorem enterAlarm_stroke (s : State) (c : AlarmClass) (src : AlarmSource) : (enterAlarm s c src).stroke = s.stroke := rfl
@[simp] theorem setRun_stroke (s : State) (r : RunState) : (setRun s r).stroke = s.stroke := rfl
@[simp] theorem testFinished_stroke (s : State) : (testFinished s).stroke = s.stroke := by
  unfold testFinished; (repeat' split) <;> simp
@[simp] theorem dropStale_stroke (s : State) : (dropStale s).stroke = s.stroke := by
  unfold dropStale; (repeat' split) <;> simp
@[simp] theorem beginPositioning_stroke (s : State) (atUp : Bool) (pos : Nat) (i : ClipItem) :
    (beginPositioning s atUp pos i).stroke = s.stroke := by
  unfold beginPositioning; (repeat' split) <;> simp
@[simp] theorem aimTable_stroke (atUp : Bool) (s : State) : (aimTable atUp s).stroke = s.stroke := by
  unfold aimTable; (repeat' split) <;> simp [setOp]
@[simp] theorem zeroCountdown_stroke (before s : State) : (zeroCountdown before s).stroke = s.stroke := by
  unfold zeroCountdown; (repeat' split) <;> simp
@[simp] theorem completeRun_stroke (s : State) : (completeRun s).stroke = s.stroke := by
  unfold completeRun; (repeat' split) <;> simp
@[simp] theorem updateHold_stroke (s : State) : (updateHold s).stroke = s.stroke := by
  unfold updateHold watchDownstream; dsimp only; split <;> simp [updatePull]
@[simp] theorem statusOnChange_stroke (before s : State) : (statusOnChange before s).stroke = s.stroke := by
  unfold statusOnChange; split <;> simp
@[simp] theorem raiseCountdown_stroke (s : State) (k : ItemKey) (t : Nat) : (raiseCountdown s k t).stroke = s.stroke := by
  unfold raiseCountdown; (repeat' split) <;> simp

/-- Everything of the stroke controller but the actuator records and the commands kept back. -/
def Stroke.motion (k : Stroke) : Stroke :=
  { k with bearing := ActRecord.initial, headSpan := ActRecord.initial, clinchSpan := ActRecord.initial,
           clinchMode := ActRecord.initial, keptBack := [] }

@[simp] theorem setActuator_motion (s : State) (a : Actuator) (r : ActRecord) :
    (setActuator s a r).stroke.motion = s.stroke.motion := by cases a <;> rfl
@[simp] theorem aimActuator_motion (atUp : Bool) (pos : Nat) (i : ClipItem) (s : State) (a : Actuator) :
    (aimActuator atUp pos i s a).stroke.motion = s.stroke.motion := by
  unfold aimActuator commandActuator; dsimp only; (repeat' split) <;> simp
@[simp] theorem keepBack_motion (s : State) : (keepBack s).stroke.motion = s.stroke.motion := by
  unfold keepBack; split <;> rfl
@[simp] theorem aimActuators_motion (atUp : Bool) (s : State) : (aimActuators atUp s).stroke.motion = s.stroke.motion := by
  unfold aimActuators; (repeat' split) <;> simp [actuators]

theorem Stroke.motion_shaft (k : Stroke) : k.motion.shaft = k.shaft := rfl

/-- The end of a command leaves the shaft, the revolution record and their timers as they are, unless the shaft is held at
GATE (R108). -/
theorem finish_shaft (atUp : Bool) (before s : State) (h : s.stroke.shaft ≠ .gateHeld) :
    (finish atUp before s).stroke.motion = s.stroke.motion := by
  have ha : (aim atUp before (testFinished s)).stroke.motion = s.stroke.motion := by simp [aim]
  have hs : (aim atUp before (testFinished s)).stroke.shaft ≠ .gateHeld := by
    rw [← Stroke.motion_shaft, ha]; exact h
  have hr : releaseGate (aim atUp before (testFinished s)) = aim atUp before (testFinished s) := by
    unfold releaseGate; simp [hs]
  rw [finish, statusOnChange_stroke, updateHold_stroke, dropStale_stroke, completeRun_stroke, hr, ha]

@[simp] theorem setPositioning_table (s : State) (r : Option Positioning) : (setPositioning s r).table = s.table := rfl
@[simp] theorem setActuator_table (s : State) (a : Actuator) (r : ActRecord) : (setActuator s a r).table = s.table := rfl
@[simp] theorem report_table (s : State) (k : ReportKind) : (report s k).table = s.table := rfl
@[simp] theorem setSlot_table (s : State) (i : Nat) (c : Option Context) : (setSlot s i c).table = s.table := rfl
@[simp] theorem queueStatus_table (s : State) : (queueStatus s).table = s.table := rfl
@[simp] theorem enterAlarm_table (s : State) (c : AlarmClass) (src : AlarmSource) : (enterAlarm s c src).table = s.table := rfl
@[simp] theorem setRun_table (s : State) (r : RunState) : (setRun s r).table = s.table := rfl
@[simp] theorem testFinished_table (s : State) : (testFinished s).table = s.table := by
  unfold testFinished; (repeat' split) <;> simp
@[simp] theorem dropStale_table (s : State) : (dropStale s).table = s.table := by
  unfold dropStale; (repeat' split) <;> simp
@[simp] theorem raiseCountdown_table (s : State) (k : ItemKey) (t : Nat) : (raiseCountdown s k t).table = s.table := by
  unfold raiseCountdown; (repeat' split) <;> simp
@[simp] theorem aimActuator_table (atUp : Bool) (pos : Nat) (i : ClipItem) (s : State) (a : Actuator) :
    (aimActuator atUp pos i s a).table = s.table := by
  unfold aimActuator commandActuator; dsimp only; (repeat' split) <;> simp
@[simp] theorem keepBack_table (s : State) : (keepBack s).table = s.table := by unfold keepBack; split <;> rfl
@[simp] theorem aimActuators_table (atUp : Bool) (s : State) : (aimActuators atUp s).table = s.table := by
  unfold aimActuators; (repeat' split) <;> simp [actuators]
@[simp] theorem zeroCountdown_table (before s : State) : (zeroCountdown before s).table = s.table := by
  unfold zeroCountdown; (repeat' split) <;> simp
@[simp] theorem releaseGate_table (s : State) : (releaseGate s).table = s.table := by
  unfold releaseGate leaveGate; split <;> simp
@[simp] theorem completeRun_table (s : State) : (completeRun s).table = s.table := by
  unfold completeRun; (repeat' split) <;> simp
@[simp] theorem updateHold_table (s : State) : (updateHold s).table = s.table := by
  unfold updateHold watchDownstream; dsimp only; split <;> simp [updatePull]
@[simp] theorem statusOnChange_table (before s : State) : (statusOnChange before s).table = s.table := by
  unfold statusOnChange; split <;> simp

theorem aimTable_busy (atUp : Bool) (s : State) (h : s.table.op ≠ .none) : (aimTable atUp s).table = s.table := by
  have hb : tableBusy s = true := by
    unfold tableBusy
    cases ho : s.table.op <;> simp_all
  unfold aimTable
  split
  · rfl
  · simp [hb]

/-- The end of a command leaves the table drive as it is while an operation is in progress (R78, R82). -/
theorem finish_table (atUp : Bool) (before s : State) (h : s.table.op ≠ .none) :
    (finish atUp before s).table = s.table := by
  have : (aimTable atUp (dropStale (testFinished s))).table = s.table := by
    rw [aimTable_busy _ _ (by simpa using h)]; simp
  simp [finish, aim, this]

/-- With no operation in progress the end of a command leaves NONE or begins a MOVE toward the clip aimed at (R82). -/
theorem finish_idle_table (atUp : Bool) (before s : State) (h : s.table.op = .none) :
    (finish atUp before s).table.op = .none ∨ ∃ k m, (finish atUp before s).table.op = .move k m := by
  have hw := finish_work atUp before s
  have : (finish atUp before s).table.op.requested = none := by
    have := congrArg Work.requested hw
    simpa [State.work, h, Operation.requested] using this
  cases ho : (finish atUp before s).table.op with
  | none => left; rfl
  | move k m => right; exact ⟨k, m, rfl⟩
  | home h' => simp [ho, Operation.requested] at this
  | jog a c m => simp [ho, Operation.requested] at this

/-! ### The index hold line (R125) -/

/-- The conditions of R125 read the run state with its qualifier, the shaft, the operation, the transfer, the purge, the
contexts, the role with the roster, the passport to send and the entry sensor, and nothing else. -/
theorem holdConditions_congr {s t : State} (hr : t.jam.run = s.jam.run) (hq : t.jam.qualifier = s.jam.qualifier)
    (hs : t.stroke.shaft = s.stroke.shaft) (ho : tableBusy t = tableBusy s) (ht : t.boards.transfer = s.boards.transfer)
    (hp : t.chain.purgeRequired = s.chain.purgeRequired) (hc : t.boards.slots = s.boards.slots)
    (hu : t.console.setup = s.console.setup) (hl : t.line.roster = s.line.roster)
    (hf : t.boards.passOut = s.boards.passOut) (he : t.inputs.entryBoard = s.inputs.entryBoard) :
    holdConditions t = holdConditions s := by
  have hx : ctxAt t = ctxAt s := funext fun i => by simp only [ctxAt, hc]
  have h1 : currentSlot t = currentSlot s := by simp only [currentSlot, slotOf, hc]
  have h2 : arrivingSlot t = arrivingSlot s := by simp only [arrivingSlot, slotOf, hc]
  have h3 : boardUnfinished t = boardUnfinished s := by simp only [boardUnfinished, currentCtx, h1, hx]
  have hg : cfg t = cfg s := by simp only [cfg, hu]
  have ha : rosterAt t = rosterAt s := funext fun n => by unfold rosterAt; rw [hl]
  have h4 : downstreamMissing t = downstreamMissing s := by simp only [downstreamMissing, hg, ha]
  have h5 : revInProgress t = revInProgress s := by simp only [revInProgress, hs]
  simp only [holdConditions, stoppingAtBoardEnd, transferring, hr, hq, ho, ht, hp, hf, he, h1, h2, h3, h4, h5]

/-- A state with the hold line as its conditions want it. -/
theorem HoldInv.congr {s t : State} (h : HoldInv s) (hc : holdConditions t = holdConditions s)
    (hp : t.boards.pulled = s.boards.pulled) (hq : t.boards.qualify = s.boards.qualify)
    (hl : t.inputs.lineReleased = s.inputs.lineReleased) : HoldInv t :=
  ⟨by rw [hc, hp]; exact h.1, fun hb => by rw [hl, hq]; exact h.2 (by rw [← hp]; exact hb)⟩

theorem updatePull_inv (s : State) : HoldInv (updatePull s) := by
  have hc : holdConditions (updatePull s) = holdConditions s :=
    holdConditions_congr rfl rfl rfl rfl rfl rfl rfl rfl rfl rfl rfl
  refine ⟨by rw [hc]; rfl, fun h => ?_⟩
  have h : (holdConditions s).any = true := h
  simp [updatePull, h]

theorem updateHold_inv (s : State) : HoldInv (updateHold s) := by
  unfold updateHold watchDownstream
  dsimp only
  split
  · exact (updatePull_inv s).congr (holdConditions_congr (by simp [enterAlarm]) (by simp [enterAlarm]) rfl rfl rfl rfl rfl
      rfl rfl rfl rfl) rfl rfl rfl
  · exact (updatePull_inv s).congr (holdConditions_congr rfl rfl rfl rfl rfl rfl rfl rfl rfl rfl rfl) rfl rfl rfl

/-- After the end of a command the part pulls the index hold line exactly while a condition of R125 holds. -/
theorem finish_hold (atUp : Bool) (before s : State) : HoldInv (finish atUp before s) := by
  unfold finish statusOnChange
  generalize dropStale (completeRun (releaseGate (aim atUp before (testFinished s)))) = u
  split
  · exact updateHold_inv u
  · exact (updateHold_inv u).congr (holdConditions_congr rfl rfl rfl rfl rfl rfl rfl rfl rfl rfl rfl) rfl rfl rfl

end Sys2Proof.Machine
end

