-- ==== Sys2Proof/Laws/Hold.lean ====
section
/-! SUPPORT. The index hold line through the work that no end of a command follows (R125): owing and binding, a board loaded,
requests, a level of the line, a microsecond. -/

namespace Sys2Proof.Machine

/-- What the hold line reads of the context slots. -/
def State.sig (s : State) : List (Option (CtxState × Bool)) := s.boards.slots.map fun o => o.map fun c => (c.state, c.finished)

theorem setSlot_sig {s : State} {i : Nat} {c c' : Context} (h : ctxAt s i = some c) (h1 : c'.state = c.state) (h2 : c'.finished = c.finished) :
    (setSlot s i (some c')).sig = s.sig := 
  map_set_same _ _ _ _ _ (ctxAt_some h) (by simp [h1, h2])
theorem modCtx_sig (s : State) (i : Nat) (f : Context → Context) (h : ∀ c, (f c).state = c.state ∧ (f c).finished = c.finished) :
    (modCtx s i f).sig = s.sig := by
  simp only [State.sig, modCtx, State.setBoards_boards]
  apply List.ext_getElem? 
  intro n
  simp only [List.getElem?_map, List.getElem?_modify]
  cases s.boards.slots[n]? with
  | none => rfl
  | some o => 
    cases o with
    | none => simp
    | some c => by_cases hn : i = n <;> simp [hn, h]

/-- Two states agree in all that the hold line reads, but for the contents of the contexts. -/
structure HSame (s t : State) : Prop where
  jam : t.jam = s.jam
  sh : t.stroke = s.stroke
  tb : t.table = s.table
  tr : t.boards.transfer = s.boards.transfer
  pu : t.boards.pulled = s.boards.pulled
  qu : t.boards.qualify = s.boards.qualify
  po : t.boards.passOut = s.boards.passOut
  ch : t.chain = s.chain
  su : t.console.setup = s.console.setup
  ro : t.line.roster = s.line.roster
  inp : t.inputs = s.inputs
  sig : t.sig = s.sig
theorem HSame.refl (s : State) : HSame s s := ⟨rfl,rfl,rfl,rfl,rfl,rfl,rfl,rfl,rfl,rfl,rfl,rfl⟩
theorem HSame.trans {s t u : State} (h : HSame s t) (g : HSame t u) : HSame s u :=
  ⟨g.jam.trans h.jam, g.sh.trans h.sh, g.tb.trans h.tb, g.tr.trans h.tr, g.pu.trans h.pu, g.qu.trans h.qu, g.po.trans h.po, g.ch.trans h.ch, g.su.trans h.su, g.ro.trans h.ro, g.inp.trans h.inp, g.sig.trans h.sig⟩
theorem HSame.ofSig {s : State} {l : List (Option Context)} (h : (l.map fun o => o.map fun c => (c.state, c.finished)) = s.sig) : HSame s (s.setBoards { s.boards with slots := l }) :=
  ⟨rfl,rfl,rfl,rfl,rfl,rfl,rfl,rfl,rfl,rfl,rfl, h⟩
theorem HSame.setSlot {s : State} {i : Nat} {c c' : Context} (h : ctxAt s i = some c) (h1 : c'.state = c.state) (h2 : c'.finished = c.finished) : HSame s (setSlot s i (some c')) :=
  HSame.ofSig (setSlot_sig h h1 h2)
theorem HSame.modCtx (s : State) (i : Nat) (f : Context → Context) (h : ∀ c, (f c).state = c.state ∧ (f c).finished = c.finished) : HSame s (modCtx s i f) :=
  HSame.ofSig (modCtx_sig s i f h)
theorem HSame.report (s : State) (k) : HSame s (report s k) := ⟨rfl,rfl,rfl,rfl,rfl,rfl,rfl,rfl,rfl,rfl,rfl,rfl⟩
theorem HSame.joinUrgent (s : State) (k) : HSame s (joinUrgent s k) := ⟨rfl,rfl,rfl,rfl,rfl,rfl,rfl,rfl,rfl,rfl,rfl,rfl⟩
theorem HSame.queueAnnounce (s : State) (a b c d) : HSame s (queueAnnounce s a b c d) := by
  unfold Machine.queueAnnounce; dsimp only; split <;> [skip; split] <;> exact ⟨rfl,rfl,rfl,rfl,rfl,rfl,rfl,rfl,rfl,rfl,rfl,rfl⟩
theorem HSame.putBank (s : State) (b v) : HSame s (putBank s b v) := ⟨rfl,rfl,rfl,rfl,rfl,rfl,rfl,rfl,rfl,rfl,rfl,rfl⟩
theorem joinOwnRun_sf (c : Context) (d) : (c.joinOwnRun d).state = c.state ∧ (c.joinOwnRun d).finished = c.finished := by
  unfold Context.joinOwnRun; split <;> exact ⟨rfl, rfl⟩

theorem HSame.oweOwn (s slot i) : HSame s (oweOwn s slot i) := by
  unfold Machine.oweOwn
  split
  · exact .refl _
  · rename_i c hc
    split
    · exact .refl _
    · rename_i d _
      dsimp only
      split <;> [skip; exact .refl _]
      have h1 : HSame s (Machine.setSlot s slot (some (((c.modOwn i (fun o => { o with state := .owed })).countOwed).joinOwnRun d))) :=
        HSame.setSlot hc (joinOwnRun_sf _ _).1 (joinOwnRun_sf _ _).2
      split
      · exact h1.trans (.joinUrgent _ _)
      · exact (h1.trans (.report _ _)).trans (.joinUrgent _ _)
theorem HSame.dropAdopted (s slot i) : HSame s (dropAdopted s slot i) := by
  unfold Machine.dropAdopted
  split
  · exact .refl _
  · rename_i c hc
    split
    · exact .refl _
    · split
      · exact (HSame.setSlot hc (c' := _) (by rfl) (by rfl)).trans (.joinUrgent _ _)
      · exact .refl _
theorem HSame.oweItem (s slot k o) : HSame s (oweItem s slot k o) := by
  unfold Machine.oweItem
  (repeat' split)
  · exact .dropAdopted _ _ _
  · exact .oweOwn _ _ _
  · exact .refl _
theorem HSame.oweRetries (slot l) (s) : HSame s (oweRetries slot l s) := by
  induction l generalizing s with
  | nil => exact .refl _
  | cons a r ih => exact (HSame.oweItem _ _ _ _).trans (ih _)
theorem HSame.oweOwns (slot l) (s) : HSame s (oweOwns slot l s) := by
  induction l generalizing s with
  | nil => exact .refl _
  | cons a r ih => exact (HSame.oweOwn _ _ _).trans (ih _)
theorem HSame.oweAdopteds (slot l) (s) : HSame s (oweAdopteds slot l s) := by
  induction l generalizing s with
  | nil => exact .refl _
  | cons a r ih => exact (HSame.dropAdopted _ _ _).trans (ih _)
theorem HSame.oweWaiting (s slot) : HSame s (oweWaiting s slot) := by
  unfold Machine.oweWaiting
  split
  · exact .refl _
  · dsimp only
    refine HSame.trans ?_ (.oweAdopteds _ _ _)
    refine HSame.trans ?_ (HSame.modCtx _ _ _ fun c => ⟨rfl, rfl⟩)
    refine HSame.trans ?_ (.oweOwns _ _ _)
    refine HSame.trans ?_ (.oweRetries _ _ _)
    exact HSame.modCtx _ _ _ fun c => ⟨rfl, rfl⟩
theorem HSame.bindCtx (s slot b) : HSame s (bindCtx s slot b) := by
  unfold Machine.bindCtx
  split
  · exact .refl _
  · rename_i c hc
    dsimp only
    split
    · exact (HSame.setSlot hc (by rfl) (by rfl)).trans (.oweWaiting _ _)
    · exact (HSame.setSlot hc (by rfl) (by rfl))
theorem HSame.foldBind (l : List Nat) (b) (s) : HSame s (l.foldl (fun s i => Machine.bindCtx s i b) s) := by
  induction l generalizing s with
  | nil => exact .refl _
  | cons a r ih => exact (HSame.bindCtx _ _ _).trans (ih _)
theorem HSame.bindAtClose (s b p) : HSame s (bindAtClose s b p) := .foldBind _ _ _
theorem HSame.lookupCtx (s slot p) : HSame s (lookupCtx s slot p) := by
  unfold Machine.lookupCtx; split
  · exact .bindCtx _ _ _
  · exact .modCtx _ _ _ fun c => ⟨rfl, rfl⟩

theorem findSlot_sig (p : Context → Bool) (q : CtxState × Bool → Bool) (hpq : ∀ c, p c = q (c.state, c.finished)) (l m : List (Option Context)) (n : Nat)
   (h : (l.map fun o => o.map fun c => (c.state, c.finished)) = m.map fun o => o.map fun c => (c.state, c.finished)) :
   findSlot p l n = findSlot p m n := by
  induction l generalizing m n with
  | nil => cases m <;> simp_all
  | cons a r ih => 
    cases m with
    | nil => simp at h
    | cons b r' => 
      simp only [List.map_cons, List.cons.injEq] at h
      cases a <;> cases b <;> simp at h
      · simp [findSlot, ih r' (n+1) h]
      · simp [findSlot, ih r' (n+1) h.2, hpq, h.1]

theorem HSame.cond {s t : State} (h : HSame s t) : holdConditions t = holdConditions s := by
  have h1 : currentSlot t = currentSlot s := findSlot_sig _ (fun x => x.1 == .current) (fun _ => rfl) _ _ _ h.sig
  have h2 : arrivingSlot t = arrivingSlot s := findSlot_sig _ (fun x => x.1 == .arriving) (fun _ => rfl) _ _ _ h.sig
  have hx : ∀ i, (ctxAt t i).map (fun c => c.finished) = (ctxAt s i).map (fun c => c.finished) := by
    intro i
    have := congrArg (fun l => l[i]?) h.sig
    simp only [State.sig, List.getElem?_map] at this
    simp only [ctxAt, List.getD_eq_getElem?_getD]
    cases ht : t.boards.slots[i]? <;> cases hs : s.boards.slots[i]? <;> simp [ht, hs] at this ⊢
    rename_i a b
    cases a <;> cases b <;> simp at this ⊢
    exact this.2
  have h3 : boardUnfinished t = boardUnfinished s := by
    simp only [boardUnfinished, currentCtx, h1]
    cases hc : currentSlot s with
    | none => rfl
    | some i => 
      have := hx i
      simp only [Option.bind_some]
      cases ht : ctxAt t i <;> cases hs : ctxAt s i <;> simp [ht, hs] at this ⊢
      exact this
  have hg : cfg t = cfg s := by simp only [cfg, h.su]
  have ha : rosterAt t = rosterAt s := funext fun n => by unfold rosterAt; rw [h.ro]
  have h4 : downstreamMissing t = downstreamMissing s := by simp only [downstreamMissing, hg, ha]
  simp only [holdConditions, stoppingAtBoardEnd, transferring, revInProgress, tableBusy, h.jam, h.sh, h.tb, h.tr, h.ch, h.po, h.inp, h1, h2, h3, h4]
theorem HSame.hold {s t : State} (h : HSame s t) (hi : HoldInv s) : HoldInv t := hi.congr h.cond h.pu h.qu (by rw [h.inp])

theorem HoldInv.respond {s : State} (h : HoldInv s) (a b c) : HoldInv (respond s a b c) :=
  h.congr (holdConditions_congr rfl rfl rfl rfl rfl rfl rfl rfl rfl rfl rfl) rfl rfl rfl
/-- The state an answer leaves has the hold line as its conditions want it. -/
def Verdict.held : Verdict → Prop
  | .refuse _ => True
  | .answer _ _ t => HoldInv t
theorem HoldInv.request {s : State} (h : HoldInv s) (code len always bytes) (judge : List Byte → Verdict) (hj : ∀ body, (judge body).held) : HoldInv (request s code len always bytes judge) := by
  unfold Machine.request
  split
  · exact h.respond _ _ _
  · rename_i body _
    split
    · exact h.respond _ _ _
    · have := hj body
      cases hv : judge body with
      | refuse rc => exact h.respond _ _ _
      | answer rc b t => rw [hv] at this; exact HoldInv.respond this _ _ _
/-- A state that agrees in everything the hold line reads. -/
theorem HoldInv.same {s t : State} (h : HoldInv s) (h1 : t.jam.run = s.jam.run) (h2 : t.jam.qualifier = s.jam.qualifier) (h3 : t.stroke.shaft = s.stroke.shaft) (h4 : tableBusy t = tableBusy s) (h5 : t.boards = s.boards) (h6 : t.chain.purgeRequired = s.chain.purgeRequired) (h7 : t.console.setup = s.console.setup) (h8 : t.line.roster = s.line.roster) (h9 : t.inputs = s.inputs) : HoldInv t :=
  h.congr (holdConditions_congr h1 h2 h3 h4 (by rw [h5]) h6 (by rw [h5]) h7 h8 (by rw [h5]) (by rw [h9])) (by rw [h5]) (by rw [h5]) (by rw [h9])

theorem aborted_h {s : State} (h : HoldInv s) (b c) : (aborted s b c).held := HoldInv.same h rfl rfl rfl rfl rfl rfl rfl rfl rfl
theorem unlessOpen_h {s : State} (h : HoldInv s) (f : Verdict) (hf : f.held) : (unlessOpen s f).held := by
  unfold unlessOpen; split
  · exact aborted_h h _ _
  · exact hf
theorem onBank_h (body) (f : BankId → Verdict) (hf : ∀ b, (f b).held) : (onBank body f).held := by
  unfold onBank; split
  · exact hf _
  · trivial
theorem onDisp_h {s : State} (body) (f : Nat → Dispenser → Verdict) (hf : ∀ d r, (f d r).held) : (onDispenser s body f).held := by
  unfold onDispenser; dsimp only; split
  · trivial
  · split
    · trivial
    · exact hf _ _

theorem findSlot_set (p : Context → Bool) (l : List (Option Context)) (i n : Nat) (c : Context) (h : l[i]? = some none) (hp : p c = false) :
   findSlot p (l.set i (some c)) n = findSlot p l n := by
  induction l generalizing i n with
  | nil => rfl
  | cons a r ih =>
    cases i with
    | zero => simp at h; subst h; simp [findSlot, hp]
    | succ k => simp at h; cases a <;> simp [findSlot, ih k (n+1) h]
theorem firstEmpty_get (l : List (Option Context)) (n i : Nat) (h : firstEmpty l n = some i) : n ≤ i ∧ l[i - n]? = some none := by
  induction l generalizing n with
  | nil => simp [firstEmpty] at h
  | cons a r ih =>
    cases a with
    | none => simp [firstEmpty] at h; subst h; simp
    | some c => 
      simp [firstEmpty] at h
      have := ih (n+1) h
      refine ⟨by omega, ?_⟩
      have h2 : i - n = (i - (n+1)) + 1 := by omega
      rw [h2]; simpa using this.2
theorem findSlot_get (p : Context → Bool) (l : List (Option Context)) (n i : Nat) (h : findSlot p l n = some i) : n ≤ i ∧ ∃ c, l[i - n]? = some (some c) := by
  induction l generalizing n with
  | nil => simp [findSlot] at h
  | cons a r ih =>
    have step : ∀ (h : findSlot p r (n+1) = some i), n ≤ i ∧ ∃ c, (a :: r)[i - n]? = some (some c) := by
      intro h
      have := ih (n+1) h
      refine ⟨by omega, ?_⟩
      have h2 : i - n = (i - (n+1)) + 1 := by omega
      rw [h2]; simpa using this.2
    cases a with
    | none => simp [findSlot] at h; exact step h
    | some c => 
      simp only [findSlot] at h
      split at h
      · simp at h; subst h; simp
      · exact step h

theorem takeBoard_h {s : State} (h : HoldInv s) (slot n p m) (he : emptySlot s = some slot) : HoldInv (takeBoard s slot n p m) := by
  unfold takeBoard
  refine (HSame.queueAnnounce _ _ _ _ _).hold ?_
  unfold createCtx
  refine (HSame.lookupCtx _ _ _).hold ?_
  have hg := (firstEmpty_get _ _ _ he).2
  simp at hg
  have h1 : ∀ q : CtxState, q ≠ .expected → findSlot (fun c => c.state == q) (s.boards.slots.set slot (some (Context.created n (some p) 0 m))) 0 = findSlot (fun c => c.state == q) s.boards.slots 0 := by
    intro q hq
    refine findSlot_set _ _ _ _ _ hg ?_
    cases q <;> simp_all [Context.created]
  generalize hu : setSlot (s.setBoards { s.boards with load := some { serial := n, programId := p, mask := m } }) slot (some (Context.created n (some p) 0 m)) = u
  have hsl : u.boards.slots = s.boards.slots.set slot (some (Context.created n (some p) 0 m)) := by rw [← hu]; rfl
  have hc : currentSlot u = currentSlot s := by simp only [currentSlot, slotOf, hsl]; exact h1 _ (by decide)
  have ha : arrivingSlot u = arrivingSlot s := by simp only [arrivingSlot, slotOf, hsl]; exact h1 _ (by decide)
  have hb : boardUnfinished u = boardUnfinished s := by
    simp only [boardUnfinished, currentCtx, hc]
    cases hcs : currentSlot s with
    | none => rfl
    | some i => 
      obtain ⟨c, hci⟩ := (findSlot_get _ _ _ _ hcs).2
      simp at hci
      have hne : slot ≠ i := by rintro rfl; rw [hg] at hci; simp at hci
      have : ctxAt u i = ctxAt s i := by simp [ctxAt, hsl, List.getD_eq_getElem?_getD, List.getElem?_set_ne hne]
      simp only [Option.bind_some, this]
  have hcond : holdConditions u = holdConditions s := by
    have e1 : u.jam = s.jam := by rw [← hu]; rfl
    have e2 : u.stroke = s.stroke := by rw [← hu]; rfl
    have e3 : u.table = s.table := by rw [← hu]; rfl
    have e4 : u.boards.transfer = s.boards.transfer := by rw [← hu]; rfl
    have e5 : u.boards.passOut = s.boards.passOut := by rw [← hu]; rfl
    have e6 : u.chain = s.chain := by rw [← hu]; rfl
    have e7 : u.inputs = s.inputs := by rw [← hu]; rfl
    have hd : downstreamMissing u = downstreamMissing s := by rw [← hu]; rfl
    simp only [holdConditions, stoppingAtBoardEnd, transferring, revInProgress, tableBusy, e1, e2, e3, e4, e5, e6, e7, hc, ha, hb, hd]
  exact h.congr hcond (by rw [← hu]; rfl) (by rw [← hu]; rfl) (by rw [← hu]; rfl)

theorem withMark_h {s : State} (h : HoldInv s) (m w) : HoldInv (withMark s m w) := by
  unfold withMark; (repeat' split) <;> first | exact finish_hold _ _ _ | exact h
theorem hear_h {s : State} (h : HoldInv s) (k f act) : HoldInv (hear s k f act) := by
  unfold hear; split
  · exact HoldInv.same h rfl rfl rfl rfl rfl rfl rfl rfl rfl
  · exact finish_hold _ _ _

theorem tick_h {s : State} (h : HoldInv s) : HoldInv (tick s) := by
  have hl : (s.line.roster.map fun e => { e with silence := Timer.down e.silence }).map (·.present) = s.line.roster.map (·.present) := by
    simp
  have hd : downstreamMissing (tick s) = downstreamMissing s := by
    have : ∀ n, (rosterAt (tick s) n).present = (rosterAt s n).present := by
      intro n; unfold rosterAt; split
      · rfl
      · simp only [tick, State.setLine_line, Line.tick, List.getD_eq_getElem?_getD, List.getElem?_map]
        cases s.line.roster[n-1]? <;> rfl
    unfold downstreamMissing
    rw [this]; rfl
  have hc : holdConditions (tick s) = holdConditions s := by
    have e1 : revInProgress (tick s) = revInProgress s := rfl
    have e2 : tableBusy (tick s) = tableBusy s := by
      unfold tableBusy; simp only [tick]; cases ho : s.table.op <;> simp [Operation.tick]
    have e3 : transferring (tick s) = transferring s := by
      simp only [transferring, tick, tickBoards]; cases s.boards.transfer <;> rfl
    have e4 : (tick s).boards.slots = s.boards.slots := rfl
    have e5 : boardUnfinished (tick s) = boardUnfinished s := rfl
    simp only [holdConditions, stoppingAtBoardEnd, e1, e2, e3, e5, hd]; rfl
  refine ⟨by rw [hc]; exact h.1, fun hp => ?_⟩
  have := h.2 hp
  exact ⟨this.1, by simp [tick, tickBoards, this.2, Timer.down]⟩

theorem idle_h {s : State} (h : HoldInv s) : HoldInv (idle s) := by
  unfold idle; split
  · exact h.congr (holdConditions_congr rfl rfl rfl rfl rfl rfl rfl rfl rfl rfl rfl) rfl rfl rfl
  · exact tick_h h
theorem noteLine_h {s : State} (h : HoldInv s) (b) : HoldInv (noteLine s b) := by
  have hc : holdConditions (noteLine s b) = holdConditions s := holdConditions_congr rfl rfl rfl rfl rfl rfl rfl rfl rfl rfl rfl
  refine ⟨by rw [hc]; exact h.1, fun hp => ?_⟩
  have hp : s.boards.pulled = true := hp
  simp [noteLine, hp]

end Sys2Proof.Machine
end

