-- ==== Sys2Proof/Laws/PerInstr.lean ====
section
/-! SUPPORT. Statements made for each command of the part. Transaction: the bytes of the transaction that carries a
well-formed command give the command back; the events of the other pins have no transaction (R183, R195). -/

namespace Sys2Proof

/-- A byte that is no known code falls to none of the decoder's rows. -/
theorem decodeTransaction_unknown (c : Byte) (rest : List Byte) (h : knownCode c = false) :
    decodeTransaction (c :: rest) = .unknownRequest c rest := by
  simp only [knownCode, Bool.or_eq_false_iff, beq_eq_false_iff_ne, requestCodes, List.contains_eq_mem, decide_eq_false_iff_not,
    List.mem_cons, not_or] at h
  obtain ⟨h0, h⟩ := h
  have h0 : c.toNat ≠ 0 := fun hc => h0 (by apply BitVec.eq_of_toNat_eq; simpa using hc)
  simp only [decodeTransaction]
  split <;> first | rfl | (exfalso; simp_all)

end Sys2Proof

namespace Sys2Proof.Laws.Transaction

/-- The transaction of a well-formed command decodes to the command. -/
def Statement (i : Instr) : Prop :=
  ∀ bytes : List Byte, i.wf = true → encodeTransaction i = some bytes → decodeTransaction bytes = i

theorem pinReset : Statement .pinReset := fun _ _ h => by cases h
theorem readTransaction (bytes : List Byte) : Statement (.readTransaction bytes) := by
  intro out hw h
  cases h
  match bytes, hw with
  | [], _ => rfl
  | b :: rest, hw => have hb : b = 0 := by simpa [Instr.wf] using hw
                     subst hb; rfl
theorem unknownRequest (code : Byte) (bytes : List Byte) : Statement (.unknownRequest code bytes) := by
  intro out hw h
  cases h
  exact decodeTransaction_unknown code bytes (by simpa [Instr.wf] using hw)
theorem setup (bytes : List Byte) : Statement (.setup bytes) := fun _ _ h => by cases h; rfl
theorem readStatus (bytes : List Byte) : Statement (.readStatus bytes) := fun _ _ h => by cases h; rfl
theorem readReports (bytes : List Byte) : Statement (.readReports bytes) := fun _ _ h => by cases h; rfl
theorem bankOpen (bytes : List Byte) : Statement (.bankOpen bytes) := fun _ _ h => by cases h; rfl
theorem blockBegin (bytes : List Byte) : Statement (.blockBegin bytes) := fun _ _ h => by cases h; rfl
theorem stepRecord (bytes : List Byte) : Statement (.stepRecord bytes) := fun _ _ h => by cases h; rfl
theorem blockCommit (bytes : List Byte) : Statement (.blockCommit bytes) := fun _ _ h => by cases h; rfl
theorem bankClose (bytes : List Byte) : Statement (.bankClose bytes) := fun _ _ h => by cases h; rfl
theorem bankClearAbort (bytes : List Byte) : Statement (.bankClearAbort bytes) := fun _ _ h => by cases h; rfl
theorem bankErase (bytes : List Byte) : Statement (.bankErase bytes) := fun _ _ h => by cases h; rfl
theorem partEntry (bytes : List Byte) : Statement (.partEntry bytes) := fun _ _ h => by cases h; rfl
theorem reelLoad (bytes : List Byte) : Statement (.reelLoad bytes) := fun _ _ h => by cases h; rfl
theorem serviceBegin (bytes : List Byte) : Statement (.serviceBegin bytes) := fun _ _ h => by cases h; rfl
theorem serviceEnd (bytes : List Byte) : Statement (.serviceEnd bytes) := fun _ _ h => by cases h; rfl
theorem lock (bytes : List Byte) : Statement (.lock bytes) := fun _ _ h => by cases h; rfl
theorem unlock (bytes : List Byte) : Statement (.unlock bytes) := fun _ _ h => by cases h; rfl
theorem releaseGroup (bytes : List Byte) : Statement (.releaseGroup bytes) := fun _ _ h => by cases h; rfl
theorem readDispenser (bytes : List Byte) : Statement (.readDispenser bytes) := fun _ _ h => by cases h; rfl
theorem home (bytes : List Byte) : Statement (.home bytes) := fun _ _ h => by cases h; rfl
theorem jog (bytes : List Byte) : Statement (.jog bytes) := fun _ _ h => by cases h; rfl
theorem readPosition (bytes : List Byte) : Statement (.readPosition bytes) := fun _ _ h => by cases h; rfl
theorem boardLoad (bytes : List Byte) : Statement (.boardLoad bytes) := fun _ _ h => by cases h; rfl
theorem imageSkip (bytes : List Byte) : Statement (.imageSkip bytes) := fun _ _ h => by cases h; rfl
theorem boardWithdraw (bytes : List Byte) : Statement (.boardWithdraw bytes) := fun _ _ h => by cases h; rfl
theorem withdrawClampOpen : Statement .withdrawClampOpen := fun _ _ h => by cases h
theorem readBoard (bytes : List Byte) : Statement (.readBoard bytes) := fun _ _ h => by cases h; rfl
theorem start (bytes : List Byte) : Statement (.start bytes) := fun _ _ h => by cases h; rfl
theorem stop (bytes : List Byte) : Statement (.stop bytes) := fun _ _ h => by cases h; rfl
theorem runReset (bytes : List Byte) : Statement (.runReset bytes) := fun _ _ h => by cases h; rfl
theorem alarmAck (bytes : List Byte) : Statement (.alarmAck bytes) := fun _ _ h => by cases h; rfl
theorem alarmClear (bytes : List Byte) : Statement (.alarmClear bytes) := fun _ _ h => by cases h; rfl
theorem readAlarms (bytes : List Byte) : Statement (.readAlarms bytes) := fun _ _ h => by cases h; rfl
theorem revolutionStart : Statement .revolutionStart := fun _ _ h => by cases h
theorem restoringTurnStart : Statement .restoringTurnStart := fun _ _ h => by cases h
theorem restMark : Statement .restMark := fun _ _ h => by cases h
theorem transferMark : Statement .transferMark := fun _ _ h => by cases h
theorem advanceMark : Statement .advanceMark := fun _ _ h => by cases h
theorem leadSenseConfirm : Statement .leadSenseConfirm := fun _ _ h => by cases h
theorem pitchConfirm : Statement .pitchConfirm := fun _ _ h => by cases h
theorem dropMark : Statement .dropMark := fun _ _ h => by cases h
theorem verifyMark : Statement .verifyMark := fun _ _ h => by cases h
theorem verifyWord (bits : List Bool) : Statement (.verifyWord bits) := fun _ _ h => by cases h
theorem gateMark : Statement .gateMark := fun _ _ h => by cases h
theorem downMark : Statement .downMark := fun _ _ h => by cases h
theorem clinchMark : Statement .clinchMark := fun _ _ h => by cases h
theorem clinchConfirm : Statement .clinchConfirm := fun _ _ h => by cases h
theorem upMark : Statement .upMark := fun _ _ h => by cases h
theorem markTimeoutExpiry : Statement .markTimeoutExpiry := fun _ _ h => by cases h
theorem chainTimerExpiry : Statement .chainTimerExpiry := fun _ _ h => by cases h
theorem actuatorInPosition (a : Actuator) : Statement (.actuatorInPosition a) := fun _ _ h => by cases h
theorem actuatorTimerExpiry (a : Actuator) : Statement (.actuatorTimerExpiry a) := fun _ _ h => by cases h
theorem gateHoldLimitExpiry : Statement .gateHoldLimitExpiry := fun _ _ h => by cases h
theorem axisStep (ax : Axis) : Statement (.axisStep ax) := fun _ _ h => by cases h
theorem settleExpiry : Statement .settleExpiry := fun _ _ h => by cases h
theorem indexMark (ax : Axis) : Statement (.indexMark ax) := fun _ _ h => by cases h
theorem homeInput (ax : Axis) : Statement (.homeInput ax) := fun _ _ h => by cases h
theorem homeLimitExpiry : Statement .homeLimitExpiry := fun _ _ h => by cases h
theorem guardOpen : Statement .guardOpen := fun _ _ h => by cases h
theorem guardClose : Statement .guardClose := fun _ _ h => by cases h
theorem tapeEnd (d : Fin 64) (active : Bool) : Statement (.tapeEnd d active) := fun _ _ h => by cases h
theorem dropConfirm (d : Fin 64) : Statement (.dropConfirm d) := fun _ _ h => by cases h
theorem indexHoldLevelChange (released : Bool) : Statement (.indexHoldLevelChange released) := fun _ _ h => by cases h
theorem lineIndex : Statement .lineIndex := fun _ _ h => by cases h
theorem entrySensor : Statement .entrySensor := fun _ _ h => by cases h
theorem exitSensor : Statement .exitSensor := fun _ _ h => by cases h
theorem clampClosed : Statement .clampClosed := fun _ _ h => by cases h
theorem transferLimitExpiry : Statement .transferLimitExpiry := fun _ _ h => by cases h
theorem passportWaitExpiry : Statement .passportWaitExpiry := fun _ _ h => by cases h
theorem silenceExpiry (station : Nat) : Statement (.silenceExpiry station) := fun _ _ h => by cases h
theorem statusIntervalExpiry : Statement .statusIntervalExpiry := fun _ _ h => by cases h
theorem frameBegin : Statement .frameBegin := fun _ _ h => by cases h
theorem frameSent : Statement .frameSent := fun _ _ h => by cases h
theorem frameAttemptFailed : Statement .frameAttemptFailed := fun _ _ h => by cases h
theorem frameDropped : Statement .frameDropped := fun _ _ h => by cases h
theorem withdrawFrame (f : HeardFrame) : Statement (.withdrawFrame f) := fun _ _ h => by cases h
theorem claimFrame (f : HeardFrame) : Statement (.claimFrame f) := fun _ _ h => by cases h
theorem oweFrame (f : HeardFrame) : Statement (.oweFrame f) := fun _ _ h => by cases h
theorem announceFrame (f : HeardFrame) : Statement (.announceFrame f) := fun _ _ h => by cases h
theorem passportHead (f : HeardFrame) : Statement (.passportHead f) := fun _ _ h => by cases h
theorem passportEntry (f : HeardFrame) : Statement (.passportEntry f) := fun _ _ h => by cases h
theorem statusFrame (f : HeardFrame) : Statement (.statusFrame f) := fun _ _ h => by cases h
theorem entrySensorEmpty : Statement .entrySensorEmpty := fun _ _ h => by cases h

end Sys2Proof.Laws.Transaction
end

