-- ==== Sys2Proof/Laws/SizesWork.lean ====
section
/-! SUPPORT. The work of the commands changes no size and keeps every capacity. -/

namespace Sys2Proof.Machine

/-! ### Console -/

@[simp] theorem takeReports_sizes (s : State) (n : Nat) : (takeReports s n).sizes = s.sizes := by simp [takeReports]
@[simp] theorem takeReports_bounded (s : State) (n : Nat) (hb : s.bounded) : (takeReports s n).bounded := by
  refine ⟨hb.1, hb.2.1, ?_, hb.2.2.2.1, hb.2.2.2.2⟩
  simp only [takeReports, State.setConsole_console, List.length_drop]
  have := hb.2.2.1
  omega

/-! ### Dispensers -/

@[simp] theorem noteTapeEnd_sizes (s : State) (d : Nat) (active : Bool) : (noteTapeEnd s d active).sizes = s.sizes := by
  unfold noteTapeEnd
  dsimp only
  (repeat' split) <;> simp
@[simp] theorem noteTapeEnd_bounded (s : State) (d : Nat) (active : Bool) (hb : s.bounded) :
    (noteTapeEnd s d active).bounded := by
  unfold noteTapeEnd
  dsimp only
  (repeat' split) <;> simp (maxDischargeDepth := 30) [hb]

/-! ### Motion -/

@[simp] theorem takeHome_sizes (s : State) : (takeHome s).sizes = s.sizes := by
  unfold takeHome
  dsimp only
  (repeat' split) <;> simp
@[simp] theorem takeHome_bounded (s : State) (hb : s.bounded) : (takeHome s).bounded := by
  unfold takeHome
  dsimp only
  (repeat' split) <;> simp (maxDischargeDepth := 30) [hb]
@[simp] theorem takeJog_sizes (s : State) (ax : Axis) (target : Nat) (check : Bool) :
    (takeJog s ax target check).sizes = s.sizes := by
  unfold takeJog
  dsimp only
  (repeat' split) <;> simp
@[simp] theorem takeJog_bounded (s : State) (ax : Axis) (target : Nat) (check : Bool) (hb : s.bounded) :
    (takeJog s ax target check).bounded := by
  unfold takeJog
  dsimp only
  (repeat' split) <;> simp (maxDischargeDepth := 30) [hb]
@[simp] theorem reachHome_sizes (s : State) (ax : Axis) : (reachHome s ax).sizes = s.sizes := by
  unfold reachHome
  (repeat' split) <;> simp
@[simp] theorem reachHome_bounded (s : State) (ax : Axis) (hb : s.bounded) : (reachHome s ax).bounded := by
  unfold reachHome
  (repeat' split) <;> simp (maxDischargeDepth := 30) [hb]
@[simp] theorem reportPosition_sizes (s : State) (a : Actuator) (v : Nat) : (reportPosition s a v).sizes = s.sizes := by
  unfold reportPosition
  dsimp only
  (repeat' split) <;> simp
@[simp] theorem reportPosition_bounded (s : State) (a : Actuator) (v : Nat) (hb : s.bounded) :
    (reportPosition s a v).bounded := by
  unfold reportPosition
  dsimp only
  (repeat' split) <;> simp (maxDischargeDepth := 30) [hb]
@[simp] theorem openGuard_sizes (s : State) : (openGuard s).sizes = s.sizes := by simp [openGuard]
@[simp] theorem openGuard_bounded (s : State) (hb : s.bounded) : (openGuard s).bounded := by
  unfold openGuard
  simp (maxDischargeDepth := 30) [hb]
@[simp] theorem resumeShaft_sizes (s : State) : (resumeShaft s).sizes = s.sizes := by
  unfold resumeShaft
  (repeat' split) <;> simp
@[simp] theorem resumeShaft_bounded (s : State) (hb : s.bounded) : (resumeShaft s).bounded := by
  unfold resumeShaft
  (repeat' split) <;> simp (maxDischargeDepth := 30) [hb]
@[simp] theorem commandWanted_sizes (p : Pose) (flip : Bool) (s : State) (a : Actuator) :
    (commandWanted p flip s a).sizes = s.sizes := by
  unfold commandWanted
  split <;> simp
@[simp] theorem commandWanted_bounded (p : Pose) (flip : Bool) (s : State) (a : Actuator) (hb : s.bounded) :
    (commandWanted p flip s a).bounded := by
  unfold commandWanted
  split <;> simp [hb]
@[simp] theorem commandKept_sizes (s : State) : (commandKept s).sizes = s.sizes := by
  unfold commandKept
  dsimp only
  split
  · split
    · exact foldl_sizes _ (fun s a => by simp) _ _
    · rfl
  all_goals rfl
@[simp] theorem commandKept_bounded (s : State) (hb : s.bounded) : (commandKept s).bounded := by
  unfold commandKept
  dsimp only
  split
  · split
    · exact foldl_bounded _ (fun s a hb => by simp [hb]) _ _ hb
    · exact hb
  all_goals exact hb
@[simp] theorem closeGuard_sizes (s : State) : (closeGuard s).sizes = s.sizes := by simp [closeGuard]
@[simp] theorem closeGuard_bounded (s : State) (hb : s.bounded) : (closeGuard s).bounded := by
  unfold closeGuard
  simp (maxDischargeDepth := 30) [hb]

/-! ### Shaft -/

@[simp] theorem openJaws_sizes (s : State) : (openJaws s).sizes = s.sizes := by
  unfold openJaws
  dsimp only
  (repeat' split) <;> simp
@[simp] theorem openJaws_bounded (s : State) (hb : s.bounded) : (openJaws s).bounded := by
  unfold openJaws
  dsimp only
  (repeat' split) <;> simp (maxDischargeDepth := 30) [hb]
@[simp] theorem restoreStep_sizes (s : State) (m : Mark) : (restoreStep s m).sizes = s.sizes := by
  unfold restoreStep
  dsimp only
  (repeat' split) <;> simp
@[simp] theorem restoreStep_bounded (s : State) (m : Mark) (hb : s.bounded) : (restoreStep s m).bounded := by
  unfold restoreStep
  dsimp only
  (repeat' split) <;> simp (maxDischargeDepth := 30) [hb]
@[simp] theorem advanceWork_sizes (s : State) (r : Revolution) : (advanceWork s r).sizes = s.sizes := by
  unfold advanceWork
  dsimp only
  (repeat' split) <;> simp
@[simp] theorem advanceWork_bounded (s : State) (r : Revolution) (hb : s.bounded) : (advanceWork s r).bounded := by
  unfold advanceWork
  dsimp only
  (repeat' split) <;> simp (maxDischargeDepth := 30) [hb]
@[simp] theorem dropMarkWork_sizes (s : State) (_r : Revolution) : (dropMarkWork s _r).sizes = s.sizes := by
  unfold dropMarkWork
  (repeat' split) <;> simp
@[simp] theorem dropMarkWork_bounded (s : State) (_r : Revolution) (hb : s.bounded) : (dropMarkWork s _r).bounded := by
  unfold dropMarkWork
  (repeat' split) <;> simp (maxDischargeDepth := 30) [hb]
@[simp] theorem gateWork_sizes (s : State) (r : Revolution) : (gateWork s r).sizes = s.sizes := by
  unfold gateWork
  dsimp only
  (repeat' split) <;> simp
@[simp] theorem gateWork_bounded (s : State) (r : Revolution) (hb : s.bounded) : (gateWork s r).bounded := by
  unfold gateWork
  dsimp only
  (repeat' split) <;> simp (maxDischargeDepth := 30) [hb]
@[simp] theorem downWork_sizes (s : State) (r : Revolution) : (downWork s r).sizes = s.sizes := by
  unfold downWork
  dsimp only
  (repeat' split) <;> simp
@[simp] theorem downWork_bounded (s : State) (r : Revolution) (hb : s.bounded) : (downWork s r).bounded := by
  unfold downWork
  dsimp only
  (repeat' split) <;> simp (maxDischargeDepth := 30) [hb]
@[simp] theorem clinchWork_sizes (s : State) (r : Revolution) : (clinchWork s r).sizes = s.sizes := by
  unfold clinchWork
  (repeat' split) <;> simp
@[simp] theorem clinchWork_bounded (s : State) (r : Revolution) (hb : s.bounded) : (clinchWork s r).bounded := by
  unfold clinchWork
  (repeat' split) <;> simp (maxDischargeDepth := 30) [hb]
@[simp] theorem upWork_sizes (s : State) (r : Revolution) : (upWork s r).sizes = s.sizes := by
  unfold upWork
  dsimp only
  (repeat' split) <;> simp
@[simp] theorem upWork_bounded (s : State) (r : Revolution) (hb : s.bounded) : (upWork s r).bounded := by
  unfold upWork
  dsimp only
  (repeat' split) <;> simp (maxDischargeDepth := 30) [hb]
@[simp] theorem measurePeriod_sizes (s : State) (r : Revolution) : (measurePeriod s r).sizes = s.sizes := by
  unfold measurePeriod
  (repeat' split) <;> simp
@[simp] theorem measurePeriod_bounded (s : State) (r : Revolution) (hb : s.bounded) : (measurePeriod s r).bounded := by
  unfold measurePeriod
  (repeat' split) <;> simp (maxDischargeDepth := 30) [hb]
@[simp] theorem creditUp_sizes (s : State) : (creditUp s).sizes = s.sizes := by
  unfold creditUp
  (repeat' split) <;> simp
@[simp] theorem creditUp_bounded (s : State) (hb : s.bounded) : (creditUp s).bounded := by
  unfold creditUp
  (repeat' split) <;> simp (maxDischargeDepth := 30) [hb]
@[simp] theorem endPurge_sizes (s : State) : (endPurge s).sizes = s.sizes := by
  simp [State.sizes, endPurge]
@[simp] theorem endPurge_bounded (s : State) (hb : s.bounded) : (endPurge s).bounded := hb
@[simp] theorem countPurge_sizes (s : State) (r : Revolution) : (countPurge s r).sizes = s.sizes := by
  unfold countPurge
  (repeat' split) <;> simp
@[simp] theorem countPurge_bounded (s : State) (r : Revolution) (hb : s.bounded) : (countPurge s r).bounded := by
  unfold countPurge
  (repeat' split) <;> simp (maxDischargeDepth := 30) [hb]
@[simp] theorem standAtRest_sizes (s : State) : (standAtRest s).sizes = s.sizes := by simp [standAtRest]
@[simp] theorem standAtRest_bounded (s : State) (hb : s.bounded) : (standAtRest s).bounded := by
  unfold standAtRest
  simp (maxDischargeDepth := 30) [hb]
@[simp] theorem endRevolution_sizes (s : State) (r : Revolution) :
    (endRevolution s r).sizes = s.sizes := by simp [endRevolution]
@[simp] theorem endRevolution_bounded (s : State) (r : Revolution) (hb : s.bounded) : (endRevolution s r).bounded := by
  unfold endRevolution
  simp (maxDischargeDepth := 30) [hb]
@[simp] theorem releasePitch_sizes (s : State) : (releasePitch s).sizes = s.sizes := by
  unfold releasePitch
  dsimp only
  (repeat' split) <;> simp
@[simp] theorem releasePitch_bounded (s : State) (hb : s.bounded) : (releasePitch s).bounded := by
  unfold releasePitch
  dsimp only
  (repeat' split) <;> simp (maxDischargeDepth := 30) [hb]
@[simp] theorem confirmPitch_sizes (s : State) : (confirmPitch s).sizes = s.sizes := by simp [confirmPitch]
@[simp] theorem confirmPitch_bounded (s : State) (hb : s.bounded) : (confirmPitch s).bounded := by
  unfold confirmPitch
  simp (maxDischargeDepth := 30) [hb]

/-! ### Station -/

@[simp] theorem takeBoard_sizes (s : State) (slot serial programId : Nat) (mask : BitVec 8) :
    (takeBoard s slot serial programId mask).sizes = s.sizes := by simp [takeBoard]
@[simp] theorem takeBoard_bounded (s : State) (slot serial programId : Nat) (mask : BitVec 8) (hb : s.bounded) :
    (takeBoard s slot serial programId mask).bounded := by
  unfold takeBoard
  simp (maxDischargeDepth := 30) [hb]
@[simp] theorem noteLine_sizes (s : State) (released : Bool) :
    (noteLine s released).sizes = s.sizes := by simp [State.sizes, noteLine]
@[simp] theorem noteLine_bounded (s : State) (released : Bool) (hb : s.bounded) : (noteLine s released).bounded := hb
@[simp] theorem takeIndex_sizes (s : State) : (takeIndex s).sizes = s.sizes := by simp [takeIndex]
@[simp] theorem takeIndex_bounded (s : State) (hb : s.bounded) : (takeIndex s).bounded := by
  unfold takeIndex
  simp (maxDischargeDepth := 30) [hb]
@[simp] theorem boardAtStop_sizes (s : State) (t : Transfer) : (boardAtStop s t).sizes = s.sizes := by
  unfold boardAtStop
  dsimp only
  (repeat' split) <;> simp
@[simp] theorem boardAtStop_bounded (s : State) (t : Transfer) (hb : s.bounded) : (boardAtStop s t).bounded := by
  unfold boardAtStop
  dsimp only
  (repeat' split) <;> simp (maxDischargeDepth := 30) [hb]
@[simp] theorem jamTransfer_sizes (s : State) (t : Transfer) :
    (jamTransfer s t).sizes = s.sizes := by simp [jamTransfer]
@[simp] theorem jamTransfer_bounded (s : State) (t : Transfer) (hb : s.bounded) : (jamTransfer s t).bounded := by
  unfold jamTransfer
  simp (maxDischargeDepth := 30) [hb]

/-! ### RunControl -/

@[simp] theorem resumeTransfer_sizes (s : State) : (resumeTransfer s).sizes = s.sizes := by simp [resumeTransfer]
@[simp] theorem resumeTransfer_bounded (s : State) (hb : s.bounded) : (resumeTransfer s).bounded := by
  unfold resumeTransfer
  simp (maxDischargeDepth := 30) [hb]
@[simp] theorem takeStart_bounded (s : State) (hb : s.bounded) : (takeStart s).bounded := by
  have hr : (setRun s .running).bounded := hb
  simp (maxDischargeDepth := 30) [takeStart, hr]
@[simp] theorem setStopping_bounded (s : State) (q : StopQualifier) (hb : s.bounded) : (setStopping s q).bounded := by
  unfold setStopping
  simp (maxDischargeDepth := 30) [hb]
@[simp] theorem closeCurrent_sizes (s : State) : (closeCurrent s).sizes = s.sizes := by
  unfold closeCurrent
  (repeat' split) <;> simp
@[simp] theorem closeCurrent_bounded (s : State) (hb : s.bounded) : (closeCurrent s).bounded := by
  unfold closeCurrent
  (repeat' split) <;> simp (maxDischargeDepth := 30) [hb]
@[simp] theorem takeReset_bounded (s : State) (hb : s.bounded) :
    (takeReset s).bounded := ⟨hb.1, Nat.zero_le _, hb.2.2.1, hb.2.2.2.1, hb.2.2.2.2⟩
@[simp] theorem ackAlarm_sizes (s : State) (n : Nat) : (ackAlarm s n).sizes = s.sizes := by
  unfold ackAlarm
  (repeat' split) <;> simp
@[simp] theorem ackAlarm_bounded (s : State) (n : Nat) (hb : s.bounded) : (ackAlarm s n).bounded := by
  refine ⟨hb.1, ?_, hb.2.2.1, hb.2.2.2.1, hb.2.2.2.2⟩
  simpa [ackAlarm] using hb.2.1
@[simp] theorem leaveHalted_sizes (s : State) : (leaveHalted s).sizes = s.sizes := by
  unfold leaveHalted setRun
  split
  · rename_i hr
    refine sizes_setJam s _ ?_
    rw [hr.1]
    dsimp only
    split <;> rfl
  · rfl
@[simp] theorem leaveHalted_bounded (s : State) (hb : s.bounded) : (leaveHalted s).bounded := by
  unfold leaveHalted setRun
  split <;> exact hb
@[simp] theorem dropAlarm_sizes (s : State) (e : AlarmEntry) : (dropAlarm s e).sizes = s.sizes := by
  unfold dropAlarm
  dsimp only
  split
  · rw [leaveHalted_sizes]; rfl
  · rfl
@[simp] theorem dropAlarm_bounded (s : State) (e : AlarmEntry) (hb : s.bounded) : (dropAlarm s e).bounded := by
  have h1 : (s.setJam { s.jam with alarms := s.jam.alarms.filter (·.number != e.number) }).bounded :=
    ⟨hb.1, le_trans (List.length_filter_le _ _) hb.2.1, hb.2.2.1, hb.2.2.2.1, hb.2.2.2.2⟩
  unfold dropAlarm
  dsimp only
  split
  · exact leaveHalted_bounded _ h1
  · exact h1

/-! ### LineFrames -/

@[simp] theorem leaveSource_sizes (s : State) (o : Option Source) : (leaveSource s o).sizes = s.sizes := by
  unfold leaveSource
  split <;> simp
@[simp] theorem leaveSource_bounded (s : State) (o : Option Source) (hb : s.bounded) : (leaveSource s o).bounded := by
  unfold leaveSource
  split
  · refine ⟨?_, hb.2⟩
    have := hb.1
    simp only [State.setLine_line, List.length_drop]
    omega
  all_goals exact hb
@[simp] theorem sentFrame_sizes (s : State) (x : Sending) : (sentFrame s x).sizes = s.sizes := by simp [sentFrame]
@[simp] theorem sentFrame_bounded (s : State) (x : Sending) (hb : s.bounded) : (sentFrame s x).bounded := by
  unfold sentFrame
  simp (maxDischargeDepth := 30) [hb]
@[simp] theorem failedFrame_sizes (s : State) (x : Sending) : (failedFrame s x).sizes = s.sizes := by
  unfold failedFrame
  (repeat' split) <;> simp
@[simp] theorem failedFrame_bounded (s : State) (x : Sending) (hb : s.bounded) : (failedFrame s x).bounded := by
  refine ⟨?_, hb.2⟩
  have := hb.1
  simp only [failedFrame, State.setLine_line]
  split
  · simp only [List.length_drop]; omega
  · exact hb.1
@[simp] theorem dropFrame_sizes (s : State) : (dropFrame s).sizes = s.sizes := by simp [dropFrame]
@[simp] theorem dropFrame_bounded (s : State) (hb : s.bounded) : (dropFrame s).bounded := by
  unfold dropFrame
  simp (maxDischargeDepth := 30) [hb]
@[simp] theorem markSender_sizes (s : State) (sender : Nat) (f : Frame) : (markSender s sender f).sizes = s.sizes := by
  unfold markSender
  (repeat' split) <;> simp
@[simp] theorem markSender_bounded (s : State) (sender : Nat) (f : Frame) (hb : s.bounded) :
    (markSender s sender f).bounded := by
  unfold markSender
  (repeat' split) <;> simp (maxDischargeDepth := 30) [hb]
@[simp] theorem checkDuplicate_sizes (s : State) (sender : Nat) : (checkDuplicate s sender).sizes = s.sizes := by
  unfold checkDuplicate
  (repeat' split) <;> simp
@[simp] theorem checkDuplicate_bounded (s : State) (sender : Nat) (hb : s.bounded) :
    (checkDuplicate s sender).bounded := by
  unfold checkDuplicate
  (repeat' split) <;> simp (maxDischargeDepth := 30) [hb]
@[simp] theorem hearWithdraw_sizes (s : State) (serial : Nat) : (hearWithdraw s serial).sizes = s.sizes := by
  unfold hearWithdraw
  dsimp only
  (repeat' split) <;> simp
@[simp] theorem hearWithdraw_bounded (s : State) (serial : Nat) (hb : s.bounded) : (hearWithdraw s serial).bounded := by
  unfold hearWithdraw
  dsimp only
  (repeat' split) <;> simp (maxDischargeDepth := 30) [hb]
@[simp] theorem withdrawClaim_sizes (s : State) (k : ItemKey) : (withdrawClaim s k).sizes = s.sizes := by
  unfold withdrawClaim
  (repeat' split) <;> simp
@[simp] theorem withdrawClaim_bounded (s : State) (k : ItemKey) (hb : s.bounded) : (withdrawClaim s k).bounded := by
  have hf := List.length_filter_le (fun f => !Frame.claims k f) s.line.urgent
  have hg := List.length_filter_le (fun f => !Frame.claims k f) (s.line.urgent.drop 1)
  have := hb.1
  unfold withdrawClaim
  split
  · split
    · refine ⟨?_, hb.2⟩
      simp only [State.setLine_line, List.length_append, List.length_take, List.length_drop] at hg ⊢
      omega
    · exact ⟨le_trans hf hb.1, hb.2⟩
  · exact ⟨le_trans hf hb.1, hb.2⟩
@[simp] theorem hearClaim_sizes (s : State) (sender : Nat) (k : ItemKey) : (hearClaim s sender k).sizes = s.sizes := by
  unfold hearClaim
  dsimp only
  (repeat' split) <;> simp
@[simp] theorem hearClaim_bounded (s : State) (sender : Nat) (k : ItemKey) (hb : s.bounded) :
    (hearClaim s sender k).bounded := by
  unfold hearClaim
  dsimp only
  (repeat' split) <;> simp (maxDischargeDepth := 30) [hb]
@[simp] theorem hearOwe_sizes (s : State) (sender : Nat) (d : ItemData) : (hearOwe s sender d).sizes = s.sizes := by
  unfold hearOwe
  dsimp only
  (repeat' split) <;> simp
@[simp] theorem hearOwe_bounded (s : State) (sender : Nat) (d : ItemData) (hb : s.bounded) :
    (hearOwe s sender d).bounded := by
  unfold hearOwe
  dsimp only
  (repeat' split) <;> simp (maxDischargeDepth := 30) [hb]
@[simp] theorem removeStale_sizes (s : State) (serial p : Nat) :
    (removeStale s serial p).sizes = s.sizes := by simp [removeStale]
@[simp] theorem removeStale_bounded (s : State) (serial p : Nat) (hb : s.bounded) :
    (removeStale s serial p).bounded := by
  unfold removeStale
  simp (maxDischargeDepth := 30) [hb]
@[simp] theorem announceCreate_sizes (s : State) (serial programId p : Nat) (mask : BitVec 8) :
    (announceCreate s serial programId p mask).sizes = s.sizes := by
  unfold announceCreate
  dsimp only
  (repeat' split) <;> simp
@[simp] theorem announceCreate_bounded (s : State) (serial programId p : Nat) (mask : BitVec 8) (hb : s.bounded) :
    (announceCreate s serial programId p mask).bounded := by
  unfold announceCreate
  dsimp only
  (repeat' split) <;> simp (maxDischargeDepth := 30) [hb]
@[simp] theorem announceUpdate_sizes (s : State) (slot serial programId p : Nat) (mask : BitVec 8) :
    (announceUpdate s slot serial programId p mask).sizes = s.sizes := by
  unfold announceUpdate
  dsimp only
  (repeat' split) <;> simp
@[simp] theorem announceUpdate_bounded (s : State) (slot serial programId p : Nat) (mask : BitVec 8) (hb : s.bounded) :
    (announceUpdate s slot serial programId p mask).bounded := by
  unfold announceUpdate
  dsimp only
  (repeat' split) <;> simp (maxDischargeDepth := 30) [hb]
@[simp] theorem hearAnnounce_sizes (s : State) (serial programId p : Nat) (mask : BitVec 8) :
    (hearAnnounce s serial programId p mask).sizes = s.sizes := by
  unfold hearAnnounce
  (repeat' split) <;> simp
@[simp] theorem hearAnnounce_bounded (s : State) (serial programId p : Nat) (mask : BitVec 8) (hb : s.bounded) :
    (hearAnnounce s serial programId p mask).bounded := by
  unfold hearAnnounce
  (repeat' split) <;> simp (maxDischargeDepth := 30) [hb]

end Sys2Proof.Machine
end

