-- ==== Sys2Proof/Laws/Requests.lean ====
section
/-! SUPPORT. What the port makes of a request (R183 to R185): a well-formed frame reaches its judge with its body, a refusal
changes the response alone. And the sizes of the part's storage through a request, a mark, a frame heard and a
microsecond. -/

namespace Sys2Proof.Machine

/-! ### The frame of a request (R183) -/

/-- A body behind its length byte, with bytes after it that are ignored, is read back. -/
theorem requestBody_framed (body extra : List Byte) (h : body.length < 256) :
    requestBody body.length (framed body extra) = some body := by
  have hn : (BitVec.ofNat 8 body.length).toNat = body.length := by simp [Nat.mod_eq_of_lt h]
  simp [requestBody, framed, requestBytes, hn]

/-- A well-formed request that the run state admits is judged by its owning rule. -/
theorem request_framed (s : State) (code : Byte) {len : Nat} (always : Bool) {body : List Byte} (extra : List Byte)
    (judge : List Byte → Verdict) (hl : body.length = len) (h : len < 256)
    (ha : always = true ∨ s.jam.run ≠ .unconfigured) :
    request s code len always (framed body extra) judge = (judge body).conclude s code := by
  subst hl
  have hr : (!always && s.jam.run == .unconfigured) = false := by
    cases ha with
    | inl h => simp [h]
    | inr h => simp [h]
  simp [request, requestBody_framed body extra h, hr]

/-- Everything a request can do: a malformed frame and a station not set up are refused, else the judgement is carried
out (R183, R185). -/
theorem request_spec (s : State) (code : Byte) (len : Nat) (always : Bool) (bytes : List Byte) (judge : List Byte → Verdict) :
    (requestBody len bytes = none ∧ request s code len always bytes judge = respond s .refusedRange code .empty) ∨
    (always = false ∧ s.jam.run = .unconfigured ∧ request s code len always bytes judge = respond s .refusedState code .empty) ∨
    ((always = true ∨ s.jam.run ≠ .unconfigured) ∧ ∃ body, requestBody len bytes = some body ∧
      request s code len always bytes judge = (judge body).conclude s code) := by
  unfold request
  cases hb : requestBody len bytes with
  | none => exact .inl ⟨rfl, rfl⟩
  | some body =>
    right
    cases always with
    | true => exact .inr ⟨.inl rfl, body, rfl, by simp⟩
    | false =>
      by_cases hu : s.jam.run = .unconfigured
      · exact .inl ⟨rfl, hu, by simp [hu]⟩
      · exact .inr ⟨.inr hu, body, rfl, by simp [hu]⟩

@[simp] theorem respond_work (s : State) (rc : ResultCode) (code : Byte) (body : Body) :
    (respond s rc code body).work =
      { s.work with response := { result := rc, code := code, number := (s.console.response.number + 1) % 256, body := body } } :=
  rfl
@[simp] theorem respond_jam (s : State) (rc : ResultCode) (code : Byte) (body : Body) :
    (respond s rc code body).jam = s.jam := rfl
@[simp] theorem respond_table (s : State) (rc : ResultCode) (code : Byte) (body : Body) :
    (respond s rc code body).table = s.table := rfl
@[simp] theorem respond_stroke (s : State) (rc : ResultCode) (code : Byte) (body : Body) :
    (respond s rc code body).stroke = s.stroke := rfl

/-- The response survives the end of a command. -/
theorem finish_response (atUp : Bool) (before s : State) :
    (finish atUp before s).console.response = s.console.response :=
  congrArg Sizes.response (finish_sizes atUp before s)

/-! ### The sizes of the storage -/

theorem Sized.bounded {s : State} (h : Sized s) : s.bounded := ⟨h.urgent, h.alarms, h.reports, h.reportNumber, h.tag⟩

/-- Sizes and capacities kept keep it all. -/
theorem Sized.of {s t : State} (h : Sized s) (hs : t.sizes = s.sizes) (hb : s.bounded → t.bounded) : Sized t := by
  have hb := hb h.bounded
  simp only [State.sizes, Sizes.mk.injEq] at hs
  obtain ⟨h1, h2, h3, h4, h5, h6, h7, h8, h9, h10⟩ := hs
  refine ⟨by rw [h1]; exact h.parts, by rw [h5]; exact h.dispensers, by rw [h6]; exact h.groups, by rw [h7, h2]; exact h.clips,
    by rw [h8]; exact h.slots, by rw [h9]; exact h.roster, hb.1, hb.2.1, hb.2.2.1, hb.2.2.2.1, by rw [h3]; exact h.responseNumber, hb.2.2.2.2, ?_⟩
  rw [h2, ← h.configured]
  have : (t.jam.run = .unconfigured) = (s.jam.run = .unconfigured) := by
    simpa using h10
  rw [this]

theorem Sized.respond {s : State} (h : Sized s) (rc : ResultCode) (code : Byte) (body : Body) : Sized (respond s rc code body) :=
  ⟨h.parts, h.dispensers, h.groups, h.clips, h.slots, h.roster, h.urgent, h.alarms, h.reports, h.reportNumber,
    Nat.mod_lt _ (by decide), h.tag, h.configured⟩

/-- The state an answer leaves has the sizes. -/
def Verdict.sized : Verdict → Prop
  | .refuse _ => True
  | .answer _ _ t => Sized t

/-- A request keeps the sizes when every answer of its judge does. -/
theorem Sized.request {s : State} (h : Sized s) (code : Byte) (len : Nat) (always : Bool) (bytes : List Byte)
    (judge : List Byte → Verdict) (hj : ∀ body, (always = true ∨ s.jam.run ≠ .unconfigured) → (judge body).sized) :
    Sized (request s code len always bytes judge) := by
  unfold Machine.request
  split
  · exact h.respond _ _ _
  · rename_i body _
    split
    · exact h.respond _ _ _
    · rename_i hn
      have := hj body (by simp at hn; cases always <;> simp_all)
      cases hv : judge body with
      | refuse rc => exact h.respond _ _ _
      | answer rc b t => rw [hv] at this; exact Sized.respond this _ _ _

theorem Sized.setStore {s : State} (h : Sized s) (v : Store) (hv : v.parts.length = s.store.parts.length) : Sized (s.setStore v) :=
  ⟨hv.trans h.parts, h.dispensers, h.groups, h.clips, h.slots, h.roster, h.urgent, h.alarms, h.reports, h.reportNumber,
    h.responseNumber, h.tag, h.configured⟩
theorem Sized.setPending {s : State} (h : Sized s) (v : List Instr) : Sized (s.setPending v) :=
  ⟨h.parts, h.dispensers, h.groups, h.clips, h.slots, h.roster, h.urgent, h.alarms, h.reports, h.reportNumber,
    h.responseNumber, h.tag, h.configured⟩

@[simp] theorem setBank_parts (st : Store) (b : BankId) (v : Bank) : (st.setBank b v).parts = st.parts := by cases b <;> rfl
theorem Sized.fin {s u : State} (h : Sized u) (b : Bool) : Sized (finish b s u) :=
  h.of (by simp) (fun hb => by simp [hb])

theorem setRun_sized {s : State} (h : Sized s) (r : RunState) (hr : s.jam.run ≠ .unconfigured) (hr' : r ≠ .unconfigured) : Sized (setRun s r) :=
  h.of (by refine sizes_setJam s _ ?_; simp [hr, hr']) (fun hb => hb)
theorem setStopping_sized {s : State} (h : Sized s) (q) (hr : s.jam.run ≠ .unconfigured)  : Sized (setStopping s q) :=
  h.of (by refine sizes_setJam s _ ?_; simp [hr]) (fun hb => hb)

theorem aborted_sized {s : State} (h : Sized s) (b c) : (aborted s b c).sized :=
  h.setStore _ (by simp)
theorem unlessOpen_sized {s : State} (h : Sized s) (f : Verdict) (hf : f.sized) : (unlessOpen s f).sized := by
  unfold unlessOpen; split
  · exact aborted_sized h _ _
  · exact hf
theorem onBank_sized (body) (f : BankId → Verdict) (hf : ∀ b, (f b).sized) : (onBank body f).sized := by
  unfold onBank; split
  · exact hf _
  · trivial
theorem onDisp_sized {s : State} (body) (f : Nat → Dispenser → Verdict) (hf : ∀ d r, (f d r).sized) : (onDispenser s body f).sized := by
  unfold onDispenser; dsimp only; split
  · trivial
  · split
    · trivial
    · exact hf _ _
theorem changeDisp_sized {s : State} (h : Sized s) (d r) : (changeDispenser s d r).sized := h.of (by simp) (fun hb => by simp [hb])

theorem placeAll_length (l : List Dispenser) (ps : List Nat) : (placeAll l ps).length = l.length := by
  induction l generalizing ps with
  | nil => cases ps <;> rfl
  | cons a r ih => cases ps <;> simp [placeAll, ih]
theorem configure_sized {s : State} (h : Sized s) (c : Setup) : Sized (configure s c) := by
  refine ⟨h.parts, ?_, h.groups, ?_, h.slots, ?_, Nat.zero_le _, h.alarms, h.reports, h.reportNumber, h.responseNumber, h.tag, ?_⟩
  · simpa [configure, placeAll_length] using h.dispensers
  · simp [configure]
  · simpa [configure, ownPresent] using h.roster
  · simp [configure]

theorem withMark_sized {s : State} (h : Sized s) (m) (w : State → Revolution → State) (hw : ∀ s r, Sized s → Sized (w s r)) : Sized (withMark s m w) := by
  unfold withMark
  split
  · exact (h.of (by simp) (fun hb => by simp [hb])).fin _
  · split
    · split
      · exact Sized.fin (hw _ _ (h.of (by simp) (fun hb => by simp [hb]))) _
      · exact h
    · exact h
theorem hear_sized {s : State} (h : Sized s) (k f) (act : State → Nat → Frame → State) (ha : ∀ s n f, Sized s → Sized (act s n f)) : Sized (hear s k f act) := by
  unfold hear
  split
  · exact h.of (by simp) (fun hb => by simp [hb])
  · rename_i n c _
    dsimp only
    refine Sized.fin ?_ _
    have h1 := h.of (t := checkDuplicate (markSender s n c) n) (by simp) (fun hb => by simp [hb])
    split
    · exact ha _ _ _ h1
    · exact h1

theorem tick_sized {s : State} (h : Sized s) : Sized (tick s) := by
  refine ⟨h.parts, h.dispensers, h.groups, h.clips, h.slots, ?_, h.urgent, h.alarms, h.reports, h.reportNumber,
    h.responseNumber, h.tag, h.configured⟩
  simpa [tick, Line.tick] using h.roster
theorem idle_sized {s : State} (h : Sized s) : Sized (idle s) := by
  unfold idle; split
  · exact h.setPending _
  · exact tick_sized h

end Sys2Proof.Machine
end

