-- ==== Sys2Proof/Laws/Sound.lean ====
section
/-! SUPPORT. What every operation inside a command keeps of the boards and the line: each context stays within its capacities and
its bank READY (R2, R55, R120), and the normal queue in its form (R147). -/

namespace Sys2Proof.Machine

/-- A context within its capacities, whose bank is READY (R2, R55, R120). -/
def Context.sound (st : Store) (c : Context) : Prop :=
  c.adopted.length ≤ 16 ∧ c.retry.length ≤ 8 ∧ c.entryCount ≤ 32 ∧ ∀ b, c.bank = some b → (st.bank b).state = .ready

theorem Context.sound_iff (st : Store) (c : Context) :
    c.sound st ↔ c.fits = true ∧ ∀ b, c.bank = some b → (st.bank b).state = .ready := by
  simp [Context.sound, Context.fits, and_assoc]

/-- The normal queue in its form (R147). -/
def Line.orderly (l : Line) : Prop :=
  l.normal.all (fun f => f.isAnnounce || f.isStatus) = true ∧ (l.normal.filter Frame.isAnnounce).length ≤ 7 ∧
  (l.openNormal.filter Frame.isStatus).length ≤ 1

/-- Every context sound and the normal queue in its form. -/
def State.sound (s : State) : Prop :=
  (∀ o ∈ s.boards.slots, ∀ c, o = some c → c.sound s.store) ∧ s.line.orderly

/-! ### Updates -/

@[simp] theorem sound_setPlanner (s : State) (v : PassSummary) : (s.setPlanner v).sound = s.sound := (rfl)
@[simp] theorem sound_setPose (s : State) (v : PoseUnit) : (s.setPose v).sound = s.sound := (rfl)
@[simp] theorem sound_setTable (s : State) (v : Table) : (s.setTable v).sound = s.sound := (rfl)
@[simp] theorem sound_setStroke (s : State) (v : Stroke) : (s.setStroke v).sound = s.sound := (rfl)
@[simp] theorem sound_setInputs (s : State) (v : Inputs) : (s.setInputs v).sound = s.sound := (rfl)
@[simp] theorem sound_setDisp (s : State) (v : DispUnit) : (s.setDisp v).sound = s.sound := (rfl)
@[simp] theorem sound_setChain (s : State) (v : Chain) : (s.setChain v).sound = s.sound := (rfl)
@[simp] theorem sound_setJam (s : State) (v : Jam) : (s.setJam v).sound = s.sound := (rfl)
@[simp] theorem sound_setConsole (s : State) (v : Console) : (s.setConsole v).sound = s.sound := (rfl)
@[simp] theorem sound_setPending (s : State) (v : List Instr) : (s.setPending v).sound = s.sound := (rfl)
@[simp] theorem sound_setBoards (s : State) (v : Boards) (h : v.slots = s.boards.slots) :
    (s.setBoards v).sound = s.sound := by simp [State.sound, h]
@[simp] theorem sound_setLine (s : State) (v : Line) (h : v.normal = s.line.normal) (h' : v.begunNormal = s.line.begunNormal) :
    (s.setLine v).sound = s.sound := by simp [State.sound, Line.orderly, Line.openNormal, h, h']

/-! ### Contexts -/

@[simp] theorem Context.sound_modOwn (st : Store) (c : Context) (i : Nat) (f : OwnItem → OwnItem) :
    (c.modOwn i f).sound st = c.sound st := (rfl)
@[simp] theorem Context.sound_countOwed (st : Store) (c : Context) : c.countOwed.sound st = c.sound st := (rfl)
@[simp] theorem Context.sound_modAdopted (st : Store) (c : Context) (k : ItemKey) (f : Adopted → Adopted) :
    (c.modAdopted k f).sound st = c.sound st := by
  simp only [Context.sound, Context.entryCount, Context.modAdopted, List.length_map]
@[simp] theorem Context.sound_setEntry (st : Store) (c : Context) (k : ItemKey) (e : EntryState) :
    (c.setEntry k e).sound st = c.sound st := by
  simp only [Context.sound, Context.entryCount, Context.setEntry, List.length_map]

/-- A context that keeps the bank and the lists of one that is sound, or shorter ones, is sound. -/
theorem Context.sound.of {st : Store} {c c' : Context} (h : c.sound st) (hb : c'.bank = c.bank ∨ c'.bank = none)
    (ha : c'.adopted.length ≤ c.adopted.length) (hr : c'.retry.length ≤ c.retry.length)
    (he : c'.entryCount ≤ c.entryCount) : c'.sound st := by
  obtain ⟨h1, h2, h3, hk⟩ := h
  refine ⟨by omega, by omega, by omega, fun b e => ?_⟩
  rcases hb with hb | hb
  · exact hk b (hb ▸ e)
  · rw [hb] at e; cases e

@[simp] theorem Context.sound_offRetry {st : Store} {c : Context} (h : c.sound st) (k : ItemKey) : (c.offRetry k).sound st :=
  h.of (.inl rfl) (le_refl _) (List.length_filter_le _ _) (le_refl _)
@[simp] theorem Context.sound_joinOwnRun {st : Store} {c : Context} (h : c.sound st) (d : ItemData) : (c.joinOwnRun d).sound st := by
  unfold Context.joinOwnRun
  split
  · rename_i hroom
    refine ⟨h.1, h.2.1, ?_, h.2.2.2⟩
    simp only [Context.entryCount, Config.entriesMax, List.length_append, List.length_cons, List.length_nil] at hroom ⊢
    omega
  · exact h

@[simp] theorem Context.sound_walk (st : Store) (c : Context) : c.walk.sound st = c.sound st := (rfl)
@[simp] theorem Context.sound_stepped (st : Store) (c : Context) : c.stepped.sound st = c.sound st := by
  unfold Context.stepped; split <;> rfl
theorem Context.sound_taken {st : Store} {c : Context} (h : c.sound st) (src : TakenFrom) : (c.taken src).sound st := by
  cases src with
  | retry => exact h.of (.inl rfl) (le_refl _) (by simp [Context.taken]) (le_refl _)
  | cursor i => exact h
  | adoptedList => exact h
theorem Context.sound_joinRetry {st : Store} {c : Context} (h : c.sound st) (place : Nat) (k : ItemKey) (hl : c.retry.length < 8) :
    (c.joinRetry place k).sound st := by
  unfold Context.joinRetry
  split
  · exact h
  · refine ⟨h.1, ?_, h.2.2⟩
    simp only [List.length_append, List.length_take, List.length_cons, List.length_drop]
    omega
@[simp] theorem Context.sound_intoChain (st : Store) (c : Context) (i : Option Nat) (k : ItemKey) (o : Origin) :
    (c.intoChain i k o).sound st = c.sound st := by
  cases o with
  | own => cases i <;> rfl
  | adopted => exact Context.sound_modAdopted st c k _
theorem Context.sound_skipImages {st : Store} {c : Context} (h : c.sound st) (steps : List StepRecord) (keys : List ItemKey)
    (new : BitVec 8) : (c.skipImages steps keys new).sound st := by
  refine h.of (.inl rfl) (by simp [Context.skipImages]) (List.length_filter_le _ _) ?_
  have h1 := List.length_filter_le (keepEntry new) c.upstream
  have h2 := List.length_filter_le (keepEntry new) c.ownRun
  simp only [Context.entryCount, Context.skipImages]
  omega
@[simp] theorem Context.sound_insertOwn (st : Store) (c : Context) (i : Nat) : (c.insertOwn i).sound st = c.sound st := by
  unfold Context.insertOwn; split <;> rfl
theorem Context.sound_madeUpBy {st : Store} {c : Context} (h : c.sound st) (station : Nat) (k : ItemKey) :
    (c.madeUpBy station k).sound st := by
  unfold Context.madeUpBy
  split
  · simpa using h
  · split
    · exact h
    · split
      · rename_i hroom
        refine ⟨h.1, h.2.1, ?_, h.2.2.2⟩
        simp only [Context.entryCount, Config.entriesMax, List.length_append, List.length_cons, List.length_nil] at hroom ⊢
        omega
      · exact h
theorem Context.sound_insertAdopted {st : Store} {c : Context} (h : c.sound st) (station : Nat) (k : ItemKey) :
    (c.insertAdopted station k).sound st := by
  unfold Context.insertAdopted
  split
  · exact h
  · refine Context.sound_madeUpBy ?_ _ _
    have h' := (Context.sound_modAdopted st c k fun a =>
      if a.state = .inChain ∨ a.state = .pending then { a with state := .inserted } else a).mpr h
    exact h'
@[simp] theorem Context.sound_recordClaim (st : Store) (c : Context) (k : ItemKey) (n : Nat) :
    (c.recordClaim k n).sound st = c.sound st := by
  simp only [Context.sound, Context.entryCount, Context.recordClaim, List.length_map]
theorem Context.sound_recordOwe {st : Store} {c : Context} (h : c.sound st) (station sender : Nat) (d : ItemData) :
    (c.recordOwe station sender d).sound st := by
  unfold Context.recordOwe
  split
  · split
    · split
      · rename_i hroom
        refine ⟨h.1, h.2.1, ?_, h.2.2.2⟩
        simp only [Context.entryCount, Config.entriesMax, List.length_append, List.length_cons, List.length_nil] at hroom ⊢
        omega
      · exact h
    · exact h
  · split
    · simpa using h
    · exact h
  · exact h
theorem Context.sound_rebuilt {st : Store} {c : Context} (h : c.sound st) (run : List Entry) : (c.rebuilt run).sound st := by
  refine ⟨h.1, h.2.1, ?_, h.2.2.2⟩
  simp only [Context.entryCount, Context.rebuilt, Config.entriesMax, List.length_take]
  omega
theorem Context.sound_created (st : Store) (serial : Nat) (p : Option Nat) (position : Nat) (mask : BitVec 8) :
    (Context.created serial p position mask).sound st :=
  ⟨Nat.zero_le _, Nat.zero_le _, Nat.zero_le _, fun _ h => by cases h⟩

/-- The context read from a slot of a sound state is sound. -/
theorem State.sound.ctx {s : State} (h : s.sound) {i : Nat} {c : Context} (e : ctxAt s i = some c) : c.sound s.store := by
  rw [ctxAt, List.getD_eq_getElem?_getD] at e
  cases g : s.boards.slots[i]? with
  | none => simp [g] at e
  | some o => exact h.1 o (List.mem_of_getElem? g) c (by simpa [g] using e)

@[simp] theorem setSlot_sound (s : State) (i : Nat) (c : Option Context) (hb : s.sound)
    (hc : ∀ x, c = some x → x.sound s.store) : (setSlot s i c).sound := by
  refine ⟨fun o ho => ?_, hb.2⟩
  rcases List.mem_or_eq_of_mem_set ho with h | h
  · exact hb.1 o h
  · exact h ▸ hc
/-- The context of a slot changed to one that is sound too. -/
theorem modCtx_sound_at (s : State) (i : Nat) (f : Context → Context) (hb : s.sound)
    (hf : ∀ c, ctxAt s i = some c → c.sound s.store → (f c).sound s.store) : (modCtx s i f).sound := by
  refine ⟨fun o ho c e => ?_, hb.2⟩
  simp only [modCtx, State.setBoards_boards, List.mem_iff_getElem?, List.getElem?_modify] at ho
  obtain ⟨j, hj⟩ := ho
  cases g : s.boards.slots[j]? with
  | none => simp [g] at hj
  | some p =>
    have hp := hb.1 p (List.mem_of_getElem? g)
    rw [g] at hj
    subst e
    by_cases hij : i = j
    · subst hij
      cases p with
      | none => simp at hj
      | some x =>
        simp at hj
        rw [← hj]; exact hf x (by simp [ctxAt, List.getD_eq_getElem?_getD, g]) (hp x rfl)
    · simp [hij] at hj
      exact hp c hj
@[simp] theorem modCtx_sound (s : State) (i : Nat) (f : Context → Context) (hb : s.sound)
    (hf : ∀ st c, c.sound st → (f c).sound st) : (modCtx s i f).sound :=
  modCtx_sound_at s i f hb fun c _ h => hf _ c h
/-- The context of a slot replaced by one made of it. -/
theorem setSlot_sound_of {s : State} {i : Nat} {c c' : Context} (hb : s.sound) (e : ctxAt s i = some c)
    (h : ∀ st, c.sound st → c'.sound st) : (setSlot s i (some c')).sound :=
  setSlot_sound s i (some c') hb fun x hx => by cases hx; exact h _ (hb.ctx e)
@[simp] theorem setClip_sound (s : State) (p : Nat) (c : Clip) : (setClip s p c).sound = s.sound := (rfl)
@[simp] theorem modDisp_sound (s : State) (d : Nat) (f : Dispenser → Dispenser) : (modDisp s d f).sound = s.sound := (rfl)
@[simp] theorem modGroup_sound (s : State) (g : Nat) (f : Group → Group) : (modGroup s g f).sound = s.sound := (rfl)
@[simp] theorem modRoster_sound (s : State) (n : Nat) (f : RosterEntry → RosterEntry) : (modRoster s n f).sound = s.sound := by
  unfold modRoster; split <;> rfl
@[simp] theorem enterAlarm_sound (s : State) (c : AlarmClass) (src : AlarmSource) : (enterAlarm s c src).sound = s.sound := (rfl)
@[simp] theorem report_sound (s : State) (k : ReportKind) : (report s k).sound = s.sound := (rfl)
@[simp] theorem joinUrgent_sound (s : State) (f : Frame) : (joinUrgent s f).sound = s.sound := (rfl)

/-! ### The normal queue (R147) -/

@[simp] theorem Frame.status_isStatus (c : StatusContent) : (Frame.status c).isStatus = true := rfl
@[simp] theorem Frame.status_isAnnounce (c : StatusContent) : (Frame.status c).isAnnounce = false := rfl
@[simp] theorem Frame.announce_isAnnounce (n p q : Nat) (m : BitVec 8) : (Frame.announce n p q m).isAnnounce = true := rfl
@[simp] theorem Frame.announce_isStatus (n p q : Nat) (m : BitVec 8) : (Frame.announce n p q m).isStatus = false := rfl

/-- Replacing a frame by one of its kind keeps every count by kind. -/
theorem replaceFirst_filter {p r : Frame → Bool} {f : Frame} (hp : ∀ g, p g = true → r g = r f) :
    ∀ {q q' : List Frame}, replaceFirst p f q = some q' → (q'.filter r).length = (q.filter r).length ∧ q'.all r = q.all r := by
  intro q
  induction q with
  | nil => intro q' h; cases h
  | cons a rest ih =>
    intro q' h
    simp only [replaceFirst] at h
    split at h
    · rename_i ha
      cases h
      cases hf : r f <;> simp [List.filter_cons, hp a ha, hf]
    · cases hr : replaceFirst p f rest with
      | none => simp [hr] at h
      | some l =>
        simp only [hr, Option.map_some, Option.some.injEq] at h
        subst h
        have := ih hr
        simp only [List.filter_cons, List.all_cons, this.2, and_true]
        split <;> simp [this.1]

/-- Where no frame passes, none is replaced. -/
theorem replaceFirst_none {p : Frame → Bool} {f : Frame} : ∀ {q : List Frame}, replaceFirst p f q = none → q.filter p = [] := by
  intro q
  induction q with
  | nil => intro _; rfl
  | cons a rest ih =>
    intro h
    simp only [replaceFirst] at h
    split at h
    · cases h
    · rename_i ha
      rw [List.filter_cons_of_neg (by simpa using ha)]
      exact ih (by cases hr : replaceFirst p f rest <;> simp_all)

/-- The frames closed to replacement and the open ones make up the queue. -/
theorem Line.split_normal (l : Line) :
    (if l.begunNormal then l.normal.take 1 else []) ++ l.openNormal = l.normal := by
  unfold Line.openNormal
  split
  · exact List.take_append_drop 1 l.normal
  · rfl

/-- A queue of which the frames open to replacement are renewed stays in its form. -/
theorem Line.orderly.renew {l : Line} (h : l.orderly) {x : List Frame}
    (hall : x.all (fun f => f.isAnnounce || f.isStatus) = true)
    (hann : (x.filter Frame.isAnnounce).length ≤ 7 - ((if l.begunNormal then l.normal.take 1 else []).filter Frame.isAnnounce).length)
    (hst : (x.filter Frame.isStatus).length ≤ 1) :
    ({ l with normal := (if l.begunNormal then l.normal.take 1 else []) ++ x } : Line).orderly := by
  obtain ⟨h1, h2, h3⟩ := h
  have hs := l.split_normal
  have hfix : (if l.begunNormal then l.normal.take 1 else []).all (fun f => f.isAnnounce || f.isStatus) = true := by
    rw [← hs, List.all_append, Bool.and_eq_true] at h1
    exact h1.1
  have hle : ((if l.begunNormal then l.normal.take 1 else []).filter Frame.isAnnounce).length ≤ 7 := by
    rw [← hs, List.filter_append, List.length_append] at h2
    omega
  refine ⟨by simp only [List.all_append, hfix, hall, Bool.and_self], ?_, ?_⟩
  · rw [List.filter_append, List.length_append]; omega
  · unfold Line.openNormal
    dsimp only
    cases hb : l.begunNormal with
    | false => simpa using hst
    | true =>
      cases hn : l.normal with
      | nil => exact le_trans (List.Sublist.length_le ((List.drop_sublist 1 x).filter _)) (by simpa using hst)
      | cons a r => simpa using hst

/-- A STATUS queued renews the open frames alone (R147). -/
theorem withStatus_eq (l : Line) (f : Frame) :
    withStatus l.begunNormal l.normal f = (if l.begunNormal then l.normal.take 1 else []) ++
      (match replaceFirst Frame.isStatus f l.openNormal with
       | some q => q
       | none => l.openNormal ++ [f]) := by
  have h : withStatus l.begunNormal l.normal f =
      (match replaceFirst Frame.isStatus f l.openNormal with
       | some q => (if l.begunNormal then l.normal.take 1 else []) ++ q
       | none => (if l.begunNormal then l.normal.take 1 else []) ++ l.openNormal ++ [f]) := rfl
  rw [h]
  cases replaceFirst Frame.isStatus f l.openNormal <;> simp

@[simp] theorem queueStatus_sound (s : State) (hb : s.sound) : (queueStatus s).sound := by
  refine ⟨hb.1, ?_⟩
  have hs := s.line.split_normal
  obtain ⟨h1, h2, h3⟩ := hb.2
  rw [← hs, List.all_append, Bool.and_eq_true] at h1
  rw [← hs, List.filter_append, List.length_append] at h2
  by_cases hd : setupDone s = true
  · have hq : (queueStatus s).line = { s.line with normal :=
        (if s.line.begunNormal then s.line.normal.take 1 else []) ++
          (match replaceFirst Frame.isStatus (.status (statusContent s)) s.line.openNormal with
            | some q => q
            | none => s.line.openNormal ++ [.status (statusContent s)]) } := by
      simp only [queueStatus, hd, if_true, normalBegun, State.setLine_line, withStatus_eq]
    rw [hq]
    cases hr : replaceFirst Frame.isStatus (.status (statusContent s)) s.line.openNormal with
    | some q =>
      have hkind : ∀ g : Frame, g.isStatus = true → g.isAnnounce = false := fun g hg => by cases g <;> simp_all [Frame.isStatus, Frame.isAnnounce]
      have a1 := replaceFirst_filter (r := fun f => f.isAnnounce || f.isStatus) (fun g hg => by simp [hg]) hr
      have a2 := replaceFirst_filter (r := Frame.isAnnounce) (fun g hg => by rw [hkind g hg]; rfl) hr
      have a3 := replaceFirst_filter (r := Frame.isStatus) (fun g hg => by rw [hg]; rfl) hr
      exact hb.2.renew (by dsimp only; rw [a1.2]; exact h1.2) (by dsimp only; rw [a2.1]; omega) (by dsimp only; rw [a3.1]; exact h3)
    | none =>
      have a := replaceFirst_none hr
      refine hb.2.renew (by simp [h1.2]) ?_ (by simp [a, List.filter_cons])
      simp only [List.filter_append, List.length_append]
      simp [List.filter_cons]
      omega
  · simpa [queueStatus, hd] using hb.2
@[simp] theorem queueAnnounce_sound (s : State) (n p q : Nat) (m : BitVec 8) (hb : s.sound) : (queueAnnounce s n p q m).sound := by
  have hs := s.line.split_normal
  obtain ⟨h1, h2, h3⟩ := hb.2
  have h1' := h1
  have h2' := h2
  rw [← hs, List.all_append, Bool.and_eq_true] at h1'
  rw [← hs, List.filter_append, List.length_append] at h2'
  have ho : (if normalBegun s then s.line.normal.drop 1 else s.line.normal) = s.line.openNormal := rfl
  unfold queueAnnounce
  dsimp only
  rw [ho]
  cases hr : replaceFirst (Frame.announces n) (.announce n p q m) s.line.openNormal with
  | some x =>
    have hkind : ∀ g : Frame, g.announces n = true → g.isAnnounce = true ∧ g.isStatus = false :=
      fun g hg => by cases g <;> simp_all [Frame.announces, Frame.isStatus, Frame.isAnnounce]
    have a1 := replaceFirst_filter (r := fun f => f.isAnnounce || f.isStatus) (fun g hg => by simp [hkind g hg]) hr
    have a2 := replaceFirst_filter (r := Frame.isAnnounce) (fun g hg => by rw [(hkind g hg).1]; rfl) hr
    have a3 := replaceFirst_filter (r := Frame.isStatus) (fun g hg => by rw [(hkind g hg).2]; rfl) hr
    exact ⟨hb.1, hb.2.renew (by rw [a1.2]; exact h1'.2) (by rw [a2.1]; omega) (by rw [a3.1]; exact h3)⟩
  | none =>
    dsimp only
    split
    · rename_i hroom
      refine ⟨hb.1, ?_⟩
      simp only [Config.announceMax] at hroom
      have hx : s.line.normal ++ [Frame.announce n p q m] =
          (if s.line.begunNormal then s.line.normal.take 1 else []) ++ (s.line.openNormal ++ [Frame.announce n p q m]) := by
        rw [← List.append_assoc, hs]
      simp only [State.setLine_line, hx]
      refine hb.2.renew (by simp [h1'.2]) ?_ ?_
      · rw [← hs, List.filter_append, List.length_append] at hroom
        simp only [List.filter_append, List.length_append]
        simp [List.filter_cons]
        omega
      · simp only [List.filter_append, List.length_append]
        simpa [List.filter_cons] using h3
    · exact ⟨hb.1, hb.2⟩
/-! ### Planner -/
@[simp] theorem oweOwn_sound (s : State) (slot i : Nat) (hb : s.sound) : (oweOwn s slot i).sound := by
  unfold oweOwn
  split
  · exact hb
  · rename_i c e
    split
    · exact hb
    · rename_i d _
      split
      · have h := setSlot_sound_of (c' := ((c.modOwn i fun o => { o with state := .owed }).countOwed).joinOwnRun d) hb e
          fun st h => Context.sound_joinOwnRun (by simpa using h) d
        dsimp only
        split <;> simpa using h
      · exact hb
@[simp] theorem dropAdopted_sound (s : State) (slot : Nat) (k : ItemKey) (hb : s.sound) :
    (dropAdopted s slot k).sound := by
  unfold dropAdopted
  split
  · exact hb
  · rename_i c e
    split
    · exact hb
    · split
      · rw [joinUrgent_sound]
        exact setSlot_sound_of hb e fun st h => by simpa using h
      · exact hb
@[simp] theorem oweItem_sound (s : State) (slot : Nat) (k : ItemKey) (o : Origin) (hb : s.sound) :
    (oweItem s slot k o).sound := by
  unfold oweItem
  (repeat' split) <;> simp (maxDischargeDepth := 30) [hb]
@[simp] theorem oweRetries_sound (slot : Nat) (l : List ItemKey) (s : State) (hb : s.sound) :
    (oweRetries slot l s).sound := by
  induction l generalizing s with
  | nil => exact hb
  | cons a rest ih => simp only [oweRetries]; apply ih; (repeat' split) <;> simp (maxDischargeDepth := 30) [hb]
@[simp] theorem oweOwns_sound (slot : Nat) (l : List Nat) (s : State) (hb : s.sound) :
    (oweOwns slot l s).sound := by
  induction l generalizing s with
  | nil => exact hb
  | cons a rest ih => simp only [oweOwns]; apply ih; (repeat' split) <;> simp (maxDischargeDepth := 30) [hb]
@[simp] theorem oweAdopteds_sound (slot : Nat) (l : List ItemKey) (s : State) (hb : s.sound) :
    (oweAdopteds slot l s).sound := by
  induction l generalizing s with
  | nil => exact hb
  | cons a rest ih => simp only [oweAdopteds]; apply ih; (repeat' split) <;> simp (maxDischargeDepth := 30) [hb]
@[simp] theorem oweWaiting_sound (s : State) (slot : Nat) (hb : s.sound) : (oweWaiting s slot).sound := by
  unfold oweWaiting
  split
  · exact hb
  · have h1 : (modCtx s slot fun c => { c with retry := [] }).sound :=
      modCtx_sound _ _ _ hb fun st c h => h.of (.inl rfl) (le_refl _) (Nat.zero_le _) (le_refl _)
    exact oweAdopteds_sound _ _ _ (modCtx_sound _ _ _ (oweOwns_sound _ _ _ (oweRetries_sound _ _ _ h1)) fun _ _ h => h)
@[simp] theorem planClose_sound (s : State) (slot : Nat) (hb : s.sound) : (planClose s slot).sound := by
  unfold planClose
  split
  · exact hb
  · split
    · exact hb
    · exact oweWaiting_sound _ _ (modCtx_sound _ _ _ hb fun _ _ h => h)
@[simp] theorem makePending_sound (s : State) (slot : Nat) (k : ItemKey) (o : Origin) (retries : Nat) (hb : s.sound) :
    (makePending s slot k o retries).sound := by
  unfold makePending
  split
  · exact hb
  · rename_i c e
    split
    · split
      · exact setSlot_sound_of hb e fun _ h => h
      · exact hb
    · exact setSlot_sound_of hb e fun st h => by simpa using h
@[simp] theorem queueRetry_sound (s : State) (slot : Nat) (k : ItemKey) (o : Origin) (place : Nat) (hb : s.sound) :
    (queueRetry s slot k o place).sound := by
  unfold queueRetry
  split
  · exact hb
  · rename_i c e
    split
    · exact oweItem_sound _ _ _ _ hb
    · rename_i hn
      simp only [Config.retryMax, Bool.or_eq_true, decide_eq_true_eq, not_or, not_le] at hn
      exact setSlot_sound_of hb e fun st h => Context.sound_joinRetry h place k hn.2
@[simp] theorem handReturned_sound (s : State) (slot : Nat) (k : ItemKey) (o : Origin) (hb : s.sound) :
    (handReturned s slot k o).sound := by
  unfold handReturned
  (repeat' split) <;> simp (maxDischargeDepth := 30) [hb]
@[simp] theorem handCounted_sound (s : State) (slot : Nat) (k : ItemKey) (o : Origin) (hb : s.sound) :
    (handCounted s slot k o).sound := by
  unfold handCounted
  (repeat' split) <;> simp (maxDischargeDepth := 30) [hb]
@[simp] theorem handReverted_sound (l : List ClipItem) (front : List Nat) (s : State) (hb : s.sound) :
    (handReverted s l front).sound := by
  induction l generalizing s front with
  | nil => exact hb
  | cons a rest ih =>
    unfold handReverted
    split
    · exact ih _ _ hb
    · exact ih _ _ (by simp (maxDischargeDepth := 30) [hb])
@[simp] theorem closeAhead_sound (slot : Nat) (l : List Nat) (s : State) (hb : s.sound) :
    (closeAhead slot l s).sound := by
  induction l generalizing s with
  | nil => exact hb
  | cons a rest ih => unfold closeAhead; split <;> [exact hb; exact ih _ (by simp (maxDischargeDepth := 30) [hb])]
@[simp] theorem enterBoard_sound (s : State) (slot : Nat) (hb : s.sound) : (enterBoard s slot).sound := by
  unfold enterBoard
  split
  · exact hb
  · split
    · exact hb
    · exact closeAhead_sound _ _ _ (modCtx_sound _ _ _ hb fun _ _ h => h)
@[simp] theorem assign_sound (s : State) (slot d : Nat) (x : ItemData) (o : Origin) (pose : Pose) (hb : s.sound) :
    (assign s slot d x o pose).sound := by
  unfold assign
  dsimp only
  split
  · split
    · rename_i c e
      refine setSlot_sound _ _ _ hb fun x hx => ?_
      cases hx
      exact (Context.sound_intoChain _ _ _ _ _).mpr (hb.ctx e)
    · exact hb
  · exact hb
@[simp] theorem planningBoard_sound (l : List Nat) (s : State) (hb : s.sound) : (planningBoard s l).1.sound := by
  induction l generalizing s with
  | nil => exact hb
  | cons a rest ih =>
    unfold planningBoard
    split
    · exact ih s hb
    · rename_i c e
      have h1 : (if openForPlan s c then setSlot s a (some c.walk) else s).sound := by
        split
        · exact setSlot_sound_of hb e fun _ h => h
        · exact hb
      dsimp only
      split
      · exact h1
      · exact ih _ h1
@[simp] theorem planItem_sound (s : State) (p : Pass) (slot : Nat) (x : ItemData) (o : Origin) (src : TakenFrom)
    (hb : s.sound) : (planItem s p slot x o src).1.sound := by
  have h1 : (modCtx s slot (·.taken src)).sound := modCtx_sound _ _ _ hb fun _ _ h => Context.sound_taken h src
  unfold planItem
  dsimp only
  split <;> [split; skip] <;> [skip; split; skip] <;> simp (maxDischargeDepth := 30) [hb, h1]
theorem planLoop_sound (fuel : Nat) (s : State) (p : Pass) (hb : s.sound) : (planLoop fuel s p).1.sound := by
  induction fuel generalizing s p with
  | zero => exact hb
  | succ n ih =>
    have h1 := planningBoard_sound (lineOrder s) s hb
    unfold planLoop
    split
    · rename_i s1 hs; rw [hs] at h1; exact h1
    · rename_i s1 slot hs
      rw [hs] at h1
      have h2 := enterBoard_sound s1 slot h1
      dsimp only
      split
      · exact h2
      · rename_i x o src _
        have h3 := planItem_sound (enterBoard s1 slot) p slot x o src h2
        split
        · rename_i s3 p' cause hc; rw [hc] at h3; exact h3
        · rename_i s3 p' hc; rw [hc] at h3; exact ih s3 p' h3
@[simp] theorem planPass_sound (s : State) (hb : s.sound) : (planPass s).sound := by
  have h := planLoop_sound passFuel s { frontier := frontier s, assignments := 0, owed := 0, groups := [] } hb
  unfold planPass
  split
  rename_i hl
  rw [hl] at h
  exact h
/-! ### Chain -/
@[simp] theorem cancelKeys_sound (s : State) (keys : List ItemKey) (hb : s.sound) :
    (cancelKeys s keys).sound := by
  unfold cancelKeys
  simp (maxDischargeDepth := 30) [hb]
@[simp] theorem cancelBoard_sound (s : State) (slot : Nat) (hb : s.sound) : (cancelBoard s slot).sound := by
  unfold cancelBoard
  dsimp only
  (repeat' split) <;> simp (maxDischargeDepth := 30) [hb]
@[simp] theorem countEjected_sound (s : State) (board : Option Nat) (hb : s.sound) :
    (countEjected s board).sound := by
  unfold countEjected
  split
  · exact modCtx_sound _ _ _ hb fun _ _ h => h
  · exact hb
@[simp] theorem countSuspect_sound (s : State) (board : Option Nat) (hb : s.sound) :
    (countSuspect s board).sound := by
  unfold countSuspect
  split
  · exact modCtx_sound _ _ _ hb fun _ _ h => h
  · exact hb
@[simp] theorem countDispenser_sound (s : State) (d : Nat) (hb : s.sound) : (countDispenser s d).sound := by
  unfold countDispenser
  dsimp only
  (repeat' split) <;> simp (maxDischargeDepth := 30) [hb]
@[simp] theorem countGroup_sound (s : State) (d : Nat) (hb : s.sound) : (countGroup s d).sound := by
  unfold countGroup
  dsimp only
  (repeat' split) <;> simp (maxDischargeDepth := 30) [hb]
@[simp] theorem countFault_sound (s : State) (d : Nat) (hb : s.sound) : (countFault s d).sound := by
  unfold countFault
  simp (maxDischargeDepth := 30) [hb]
@[simp] theorem clearFaults_sound (s : State) (d : Nat) (hb : s.sound) : (clearFaults s d).sound := by
  unfold clearFaults
  simp (maxDischargeDepth := 30) [hb]
theorem foldl_sound {α : Type} (f : State → α → State) (hf : ∀ s a, s.sound → (f s a).sound) (l : List α)
    (s : State) (hb : s.sound) : (l.foldl f s).sound := by
  induction l generalizing s with
  | nil => exact hb
  | cons a rest ih => exact ih _ (hf _ _ hb)
theorem fireClips_sound (l : List (Nat × ClipItem)) (s : State) (hb : s.sound) : (fireClips l s).1.sound := by
  induction l generalizing s with
  | nil => exact hb
  | cons a rest ih =>
    unfold fireClips
    split
    · exact ih _ hb
    · exact ih _ hb
@[simp] theorem dropWork_sound (s : State) (hb : s.sound) : (dropWork s).sound := by
  have h := fireClips_sound (plannedClips s.chain.clips 0) s hb
  unfold dropWork
  split
  rename_i hl
  rw [hl] at h
  exact handReverted_sound _ _ _ h
@[simp] theorem endDrop_sound (s : State) (pos d : Nat) (hb : s.sound) : (endDrop s pos d).sound := by
  unfold endDrop
  simp (maxDischargeDepth := 30) [hb]
@[simp] theorem missDrop_sound (s : State) (pos d : Nat) (hb : s.sound) : (missDrop s pos d).sound := by
  unfold missDrop
  dsimp only
  (repeat' split) <;> simp (maxDischargeDepth := 30) [hb]
@[simp] theorem missDrops_sound (s : State) (hb : s.sound) :
    (missDrops s).sound := foldl_sound _ (fun s x hb => by simp [hb]) _ s hb
@[simp] theorem abandonDrop_sound (s : State) (pos d : Nat) (hb : s.sound) : (abandonDrop s pos d).sound := by
  unfold abandonDrop
  dsimp only
  (repeat' split) <;> simp (maxDischargeDepth := 30) [hb]
@[simp] theorem abandonDrops_sound (s : State) (hb : s.sound) : (abandonDrops s).sound := by
  unfold abandonDrops
  exact handReverted_sound _ _ _ (foldl_sound _ (fun s x hb => by simp [hb]) _ _
    (foldl_sound _ (fun s x hb => by simp [hb]) _ s hb))
@[simp] theorem confirmDrop_sound (s : State) (pos d : Nat) (hb : s.sound) : (confirmDrop s pos d).sound := by
  unfold confirmDrop
  dsimp only
  (repeat' split) <;> simp (maxDischargeDepth := 30) [hb]
@[simp] theorem lateConfirm_sound (s : State) (pos d : Nat) (hb : s.sound) : (lateConfirm s pos d).sound := by
  unfold lateConfirm
  dsimp only
  (repeat' split) <;> simp (maxDischargeDepth := 30) [hb]
@[simp] theorem acceptClip_sound (s : State) (pos : Nat) (i : ClipItem) (flip : Bool) (hb : s.sound) :
    (acceptClip s pos i flip).sound := by
  unfold acceptClip
  simp (maxDischargeDepth := 30) [hb]
@[simp] theorem rejectClip_sound (s : State) (pos : Nat) (i : ClipItem) (hb : s.sound) :
    (rejectClip s pos i).sound := by
  unfold rejectClip
  simp (maxDischargeDepth := 30) [hb]
@[simp] theorem verifyReject_sound (s : State) (pos : Nat) (i : ClipItem) (hb : s.sound) :
    (verifyReject s pos i).sound := by
  unfold verifyReject
  simp (maxDischargeDepth := 30) [hb]
@[simp] theorem clearMeasurement_sound (s : State) (hb : s.sound) : (clearMeasurement s).sound := by
  unfold clearMeasurement
  simp (maxDischargeDepth := 30) [hb]
@[simp] theorem verifyMissing_sound (s : State) (m : Measurement) (hb : s.sound) : (verifyMissing s m).sound := by
  unfold verifyMissing
  dsimp only
  (repeat' split) <;> simp (maxDischargeDepth := 30) [hb]
@[simp] theorem beginMeasurement_sound (s : State) (pos : Nat) (i : ClipItem) (hb : s.sound) :
    (beginMeasurement s pos i).sound := by
  unfold beginMeasurement
  dsimp only
  split
  · simp [hb]
  · exact hb
@[simp] theorem verifyWork_sound (s : State) (hb : s.sound) : (verifyWork s).sound := by
  unfold verifyWork
  dsimp only
  (repeat' split) <;> simp (maxDischargeDepth := 30) [hb]
@[simp] theorem applyResult_sound (s : State) (m : Measurement) (r : VerifyResult) (hb : s.sound) :
    (applyResult s m r).sound := by
  unfold applyResult
  dsimp only
  (repeat' split) <;> simp (maxDischargeDepth := 30) [hb]
@[simp] theorem shiftChain_sound (s : State) (hb : s.sound) : (shiftChain s).sound := by
  simpa [shiftChain, Chain.shift] using hb
@[simp] theorem chainAdvance_sound (s : State) (hb : s.sound) : (chainAdvance s).sound := by
  unfold chainAdvance
  dsimp only
  (repeat' split) <;> simp (maxDischargeDepth := 30) [hb]
@[simp] theorem makeUnknown_sound (s : State) (hb : s.sound) : (makeUnknown s).sound := by
  exact hb
@[simp] theorem stallChain_sound (s : State) (hb : s.sound) :
    (stallChain s).sound := foldl_sound _ (fun s x hb => by simp [hb]) _ _ (by simp [hb])
/-! ### Boards -/
@[simp] theorem removeCtx_sound (s : State) (slot : Nat) (hb : s.sound) : (removeCtx s slot).sound := by
  unfold removeCtx
  simp (maxDischargeDepth := 30) [hb]
@[simp] theorem removeAt_sound (s : State) (o : Option Nat) (hb : s.sound) : (removeAt s o).sound := by
  cases o <;> simp [removeAt, hb]
theorem bindCtx_sound (s : State) (slot : Nat) (b : BankId) (hb : s.sound) (hr : (s.store.bank b).state = .ready) :
    (bindCtx s slot b).sound := by
  unfold bindCtx
  split
  · exact hb
  · rename_i c e
    have hc := hb.ctx e
    have h1 : ∀ own, (setSlot s slot (some { c with bank := some b, noProgram := false, own, cursor := 0, retry := [] })).sound :=
      fun own => setSlot_sound _ _ _ hb fun x hx => by
        cases hx
        exact ⟨hc.1, Nat.zero_le _, hc.2.2.1, fun b' e => by cases e; exact hr⟩
    dsimp only
    split
    · exact oweWaiting_sound _ _ (h1 _)
    · exact h1 _
/-- The bank that the lookup of R15 finds is READY. -/
theorem lookupBank_ready {s : State} {programId : Nat} {b : BankId} (h : lookupBank s programId = some b) :
    (s.store.bank b).state = .ready := by
  unfold lookupBank at h
  split at h
  · rename_i hr; cases h; exact hr.1
  · split at h
    · rename_i hr; cases h; exact hr.1
    · cases h
@[simp] theorem lookupCtx_sound (s : State) (slot programId : Nat) (hb : s.sound) :
    (lookupCtx s slot programId).sound := by
  unfold lookupCtx
  split
  · rename_i b hl; exact bindCtx_sound s slot b hb (lookupBank_ready hl)
  · exact modCtx_sound _ _ _ hb fun _ _ h => h
@[simp] theorem createCtx_sound (s : State) (slot serial programId position : Nat) (mask : BitVec 8) (hb : s.sound) :
    (createCtx s slot serial programId position mask).sound :=
  lookupCtx_sound _ _ _ (setSlot_sound _ _ _ hb fun x hx => by cases hx; exact Context.sound_created _ _ _ _ _)
@[simp] theorem closeIfAhead_sound (s : State) (slot : Nat) (hb : s.sound) : (closeIfAhead s slot).sound := by
  unfold closeIfAhead
  (repeat' split) <;> simp (maxDischargeDepth := 30) [hb]
@[simp] theorem closeAllAhead_sound (s : State) (hb : s.sound) : (closeAllAhead s).sound :=
  foldl_sound _ (fun s i hb => by simp [hb]) _ s hb
theorem bindAtClose_sound (s : State) (b : BankId) (programId : Nat) (hb : s.sound) (hr : (s.store.bank b).state = .ready) :
    (bindAtClose s b programId).sound := by
  have h : ∀ (l : List Nat) (t : State), t.sound → t.store = s.store → (l.foldl (fun s i => bindCtx s i b) t).sound := by
    intro l
    induction l with
    | nil => exact fun t h _ => h
    | cons a rest ih =>
      intro t ht hs
      exact ih _ (bindCtx_sound t a b ht (by rw [hs]; exact hr)) ((congrArg Sizes.store (bindCtx_sizes t a b)).trans hs)
  exact h _ s hb rfl
@[simp] theorem joinMask_sound (s : State) (slot : Nat) (mask : BitVec 8) (hb : s.sound) :
    (joinMask s slot mask).sound := by
  unfold joinMask
  split
  · exact hb
  · rename_i c e
    dsimp only
    split
    · exact hb
    · exact cancelKeys_sound _ _ (setSlot_sound_of hb e fun st h => Context.sound_skipImages h _ _ _)
@[simp] theorem withdrawAdopted_sound (s : State) (slot : Nat) (k : ItemKey) (hb : s.sound) :
    (withdrawAdopted s slot k).sound :=
  cancelKeys_sound _ _ (modCtx_sound _ _ _ hb fun st c h => Context.sound_offRetry (by simpa using h) k)
@[simp] theorem reportInserted_sound (s : State) (board : Option Nat) (k : ItemKey) (o : Origin) (hb : s.sound) :
    (reportInserted s board k o).sound := by
  unfold reportInserted
  split
  · exact hb
  · split
    · exact hb
    · rename_i c e
      split
      · exact setSlot_sound_of hb e fun st h => Context.sound_insertAdopted h _ _
      · split
        · exact setSlot_sound_of hb e fun st h => by simpa using h
        · exact hb
@[simp] theorem setClamp_sound (s : State) (closed : Bool) (hb : s.sound) : (setClamp s closed).sound := by
  unfold setClamp
  (repeat' split) <;> simp (maxDischargeDepth := 30) [hb]
theorem claim_sound (s : State) (slot : Nat) (d : ItemData) (hb : s.sound)
    (hl : ∀ c, ctxAt s slot = some c → c.adopted.length < 16) : (claim s slot d).sound := by
  unfold claim
  rw [joinUrgent_sound]
  refine modCtx_sound_at s slot _ hb fun c e h => ?_
  rw [Context.sound_setEntry]
  refine ⟨?_, h.2⟩
  have := hl c e
  simp only [List.length_append, List.length_cons, List.length_nil]
  omega
/-- A claim is allowed only with room in the adopted list (R156). -/
theorem claimAllowed_room {s : State} {c : Context} {d : ItemData} (h : claimAllowed s c d = true) : c.adopted.length < 16 := by
  simp only [claimAllowed, Config.adoptedMax, Bool.and_eq_true, decide_eq_true_eq] at h
  exact h.1.1.1.2
@[simp] theorem reportLost_sound (s : State) (serial : Nat) (l : List Entry) (hb : s.sound) :
    (reportLost s serial l).sound := by
  induction l generalizing s with
  | nil => exact hb
  | cons a rest ih => simp only [reportLost]; apply ih; (repeat' split) <;> simp (maxDischargeDepth := 30) [hb]
@[simp] theorem lateAdopt_sound (slot : Nat) (l : List Entry) (s : State) (hb : s.sound) :
    (lateAdopt slot l s).sound := by
  induction l generalizing s with
  | nil => exact hb
  | cons a rest ih =>
    unfold lateAdopt
    refine ih _ ?_
    split
    · exact hb
    · rename_i c e
      split
      · rename_i hc
        exact claim_sound s slot _ hb fun x hx => by rw [e] at hx; cases hx; exact claimAllowed_room hc.2
      · exact hb
@[simp] theorem dropMadeUp_sound (slot : Nat) (l : List Entry) (s : State) (hb : s.sound) :
    (dropMadeUp slot l s).sound := by
  induction l generalizing s with
  | nil => exact hb
  | cons a rest ih => simp only [dropMadeUp]; apply ih; (repeat' split) <;> simp (maxDischargeDepth := 30) [hb]
@[simp] theorem applyPassport_sound (s : State) (slot : Nat) (h : PassHead) (es : List Entry) (hb : s.sound) :
    (applyPassport s slot h es).sound := by
  have h1 := joinMask_sound s slot h.mask hb
  unfold applyPassport
  dsimp only
  split
  · exact h1
  · rename_i c e
    exact lateAdopt_sound _ _ _ (reportLost_sound _ _ _ (dropMadeUp_sound _ _ _
      (setSlot_sound_of h1 e fun st hc => Context.sound_rebuilt hc _)))
@[simp] theorem announceCtx_sound (s : State) (slot : Nat) (hb : s.sound) : (announceCtx s slot).sound := by
  unfold announceCtx
  (repeat' split) <;> simp (maxDischargeDepth := 30) [hb]
@[simp] theorem removeOthers_sound (s : State) (slot serial : Nat) (hb : s.sound) :
    (removeOthers s slot serial).sound := foldl_sound _ (fun s i hb => by simp [hb]) _ s hb
@[simp] theorem identify_sound (s : State) (slot : Nat) (h : PassHead) (hb : s.sound) :
    (identify s slot h).sound := by
  have h1 : (if h.serial = 0 then s else removeOthers s slot h.serial).sound := by
    split
    · exact hb
    · exact removeOthers_sound _ _ _ hb
  unfold identify
  split
  · exact hb
  · split
    · exact hb
    · dsimp only
      split
      · exact modCtx_sound _ _ _ h1 fun _ _ h => h
      · exact closeAllAhead_sound _ (setSlot_sound _ _ _ (removeCtx_sound _ _ h1) fun x hx => by
          cases hx; exact ⟨Nat.zero_le _, Nat.zero_le _, Nat.zero_le _, fun _ h => by cases h⟩)
@[simp] theorem clearPassIn_sound (s : State) (hb : s.sound) : (clearPassIn s).sound := by
  unfold clearPassIn
  simp (maxDischargeDepth := 30) [hb]
@[simp] theorem settlePairing_sound (s : State) (slot : Nat) (hb : s.sound) : (settlePairing s slot).sound :=
  modCtx_sound s slot _ hb fun _ _ h => h
@[simp] theorem pairWith_sound (s : State) (slot : Nat) (b : PassIn) (hb : s.sound) :
    (pairWith s slot b).sound := by
  unfold pairWith
  dsimp only
  (repeat' split) <;> simp (maxDischargeDepth := 30) [hb]
@[simp] theorem tryPair_sound (s : State) (hb : s.sound) : (tryPair s).sound := by
  unfold tryPair
  dsimp only
  (repeat' split) <;> simp (maxDischargeDepth := 30) [hb]
@[simp] theorem reportUnknown_sound (s : State) (slot : Nat) (hb : s.sound) : (reportUnknown s slot).sound := by
  unfold reportUnknown
  (repeat' split) <;> simp (maxDischargeDepth := 30) [hb]
@[simp] theorem expireWait_sound (s : State) (hb : s.sound) : (expireWait s).sound := by
  unfold expireWait
  split
  · exact hb
  · dsimp only
    split
    · exact settlePairing_sound _ _ (reportUnknown_sound _ _ (modCtx_sound _ _ _ (pairWith_sound _ _ _ hb) fun _ _ h => h))
    · exact settlePairing_sound _ _ (reportUnknown_sound _ _ (modCtx_sound _ _ _ hb fun _ _ h => h))
@[simp] theorem takeHead_sound (s : State) (sender : Nat) (h : PassHead) (hb : s.sound) :
    (takeHead s sender h).sound := by
  unfold takeHead
  (repeat' split) <;> simp (maxDischargeDepth := 30) [hb]
@[simp] theorem takeEntry_sound (s : State) (sender index : Nat) (e : Entry) (hb : s.sound) :
    (takeEntry s sender index e).sound := by
  unfold takeEntry
  (repeat' split) <;> simp (maxDischargeDepth := 30) [hb]
@[simp] theorem testFinished_sound (s : State) (hb : s.sound) : (testFinished s).sound := by
  unfold testFinished
  split
  · exact hb
  · split
    · exact hb
    · rename_i c e
      split
      · exact setSlot_sound_of hb e fun _ h => h
      · exact hb
@[simp] theorem depart_sound (s : State) (hb : s.sound) : (depart s).sound := by
  unfold depart
  split
  · exact hb
  · rename_i slot _
    split
    · exact hb
    · rename_i c e
      have h1 : (setSlot s slot (some { c with state := .departing })).sound := setSlot_sound_of hb e fun _ h => h
      dsimp only
      split
      · exact setClamp_sound _ _ h1
      · exact setClamp_sound _ _ h1
@[simp] theorem stepPositions_sound (s : State) (hb : s.sound) : (stepPositions s).sound := by
  refine ⟨fun o ho c e => ?_, hb.2⟩
  simp only [stepPositions, State.setBoards_boards, List.mem_map] at ho
  obtain ⟨p, hp, rfl⟩ := ho
  cases p with
  | none => cases e
  | some x =>
    cases e
    exact (Context.sound_stepped _ _).mpr (hb.1 _ hp x rfl)
@[simp] theorem arrive_sound (s : State) (slot : Nat) (hb : s.sound) : (arrive s slot).sound :=
  modCtx_sound s slot _ hb fun _ _ h => h
@[simp] theorem beginTransfer_sound (s : State) (hb : s.sound) : (beginTransfer s).sound := by
  unfold beginTransfer
  dsimp only
  (repeat' split) <;> simp (maxDischargeDepth := 30) [hb]
@[simp] theorem reportResult_sound (s : State) (hb : s.sound) : (reportResult s).sound := by
  unfold reportResult
  (repeat' split) <;> simp (maxDischargeDepth := 30) [hb]
@[simp] theorem becomeCurrent_sound (s : State) (hb : s.sound) : (becomeCurrent s).sound := by
  unfold becomeCurrent
  split
  · exact hb
  · exact announceCtx_sound _ _ (modCtx_sound _ _ _ hb fun _ _ h => h)
@[simp] theorem stopAtTransferEnd_sound (s : State) (hb : s.sound) : (stopAtTransferEnd s).sound := by
  unfold stopAtTransferEnd
  (repeat' split) <;> simp (maxDischargeDepth := 30) [hb]
@[simp] theorem completeTransfer_sound (s : State) (hb : s.sound) : (completeTransfer s).sound := by
  unfold completeTransfer
  simp (maxDischargeDepth := 30) [hb]
@[simp] theorem tryComplete_sound (s : State) (hb : s.sound) : (tryComplete s).sound := by
  unfold tryComplete
  (repeat' split) <;> simp (maxDischargeDepth := 30) [hb]
@[simp] theorem unexpectedBoard_sound (s : State) (hb : s.sound) : (unexpectedBoard s).sound := by
  have h1 : (if (emptySlot s).isSome then s else removeAt s (lowestExpected s)).sound := by
    split
    · exact hb
    · exact removeAt_sound _ _ hb
  unfold unexpectedBoard
  dsimp only
  split
  · exact h1
  · exact tryPair_sound _ (closeAllAhead_sound _ (setSlot_sound _ _ _ h1 fun x hx => by
      cases hx; exact ⟨Nat.zero_le _, Nat.zero_le _, Nat.zero_le _, fun _ h => by cases h⟩))
/-! ### Table -/
@[simp] theorem setPositioning_sound (s : State) (r : Option Positioning) (hb : s.sound) :
    (setPositioning s r).sound := by
  unfold setPositioning
  simp (maxDischargeDepth := 30) [hb]
@[simp] theorem rePredict_sound (s : State) (k : ItemKey) (hb : s.sound) : (rePredict s k).sound := by
  unfold rePredict
  dsimp only
  (repeat' split) <;> simp (maxDischargeDepth := 30) [hb]
@[simp] theorem rePredictJog_sound (s : State) (ax : Axis) (target : Nat) (hb : s.sound) :
    (rePredictJog s ax target).sound := by
  unfold rePredictJog
  dsimp only
  (repeat' split) <;> simp (maxDischargeDepth := 30) [hb]
@[simp] theorem setOp_sound (s : State) (op : Operation) (hb : s.sound) : (setOp s op).sound := by
  unfold setOp
  simp (maxDischargeDepth := 30) [hb]
@[simp] theorem setLast_sound (s : State) (l : LastPose) (hb : s.sound) : (setLast s l).sound := by
  unfold setLast
  simp (maxDischargeDepth := 30) [hb]
@[simp] theorem endJog_sound (s : State) (ax : Axis) (m : Motion) (o : JogOutcome) (hb : s.sound) :
    (endJog s ax m o).sound := by
  unfold endJog
  simp (maxDischargeDepth := 30) [hb]
@[simp] theorem completeMotion_sound (s : State) (hb : s.sound) : (completeMotion s).sound := by
  unfold completeMotion
  dsimp only
  (repeat' split) <;> simp (maxDischargeDepth := 30) [hb]
@[simp] theorem endMotion_sound (s : State) (o : JogOutcome) (hb : s.sound) : (endMotion s o).sound := by
  unfold endMotion
  (repeat' split) <;> simp (maxDischargeDepth := 30) [hb]
@[simp] theorem runFresh_sound (s : State) (hb : s.sound) : (runFresh s).sound := by
  unfold runFresh
  dsimp only
  (repeat' split) <;> simp (maxDischargeDepth := 30) [hb]
@[simp] theorem axesStand_sound (s : State) (hb : s.sound) : (axesStand s).sound := by
  unfold axesStand
  (repeat' split) <;> simp (maxDischargeDepth := 30) [hb]
@[simp] theorem testStand_sound (s : State) (hb : s.sound) : (testStand s).sound := by
  unfold testStand
  (repeat' split) <;> simp (maxDischargeDepth := 30) [hb]
@[simp] theorem stepMotion_sound (s : State) (ax : Axis) (m : Motion) (hb : s.sound) :
    (stepMotion s ax m).sound := by
  unfold stepMotion
  simp (maxDischargeDepth := 30) [hb]
@[simp] theorem guardTable_sound (s : State) (hb : s.sound) : (guardTable s).sound := by
  unfold guardTable
  (repeat' split) <;> simp (maxDischargeDepth := 30) [hb]
@[simp] theorem haltTable_sound (s : State) (slip : Bool) (hb : s.sound) : (haltTable s slip).sound := by
  unfold haltTable
  (repeat' split) <;> simp (maxDischargeDepth := 30) [hb]
@[simp] theorem setActuator_sound (s : State) (a : Actuator) (r : ActRecord) (hb : s.sound) :
    (setActuator s a r).sound := by
  unfold setActuator
  simp (maxDischargeDepth := 30) [hb]
@[simp] theorem takeValue_sound (s : State) (a : Actuator) (v : Nat) (hb : s.sound) :
    (takeValue s a v).sound := by
  unfold takeValue
  (repeat' split) <;> simp (maxDischargeDepth := 30) [hb]
@[simp] theorem settleActuator_sound (s : State) (a : Actuator) (v : Nat) (hb : s.sound) :
    (settleActuator s a v).sound := by
  unfold settleActuator
  simp (maxDischargeDepth := 30) [hb]
@[simp] theorem setHomeAxis_sound (s : State) (ax : Axis) (v : HomeAxis) (hb : s.sound) :
    (setHomeAxis s ax v).sound := by
  unfold setHomeAxis
  (repeat' split) <;> simp (maxDischargeDepth := 30) [hb]
@[simp] theorem homeZero_sound (s : State) (ax : Axis) (hb : s.sound) : (homeZero s ax).sound := by
  unfold homeZero
  dsimp only
  (repeat' split) <;> simp (maxDischargeDepth := 30) [hb]
@[simp] theorem homeApproach_sound (s : State) (ax : Axis) (hb : s.sound) : (homeApproach s ax).sound := by
  unfold homeApproach
  (repeat' split) <;> simp (maxDischargeDepth := 30) [hb]
@[simp] theorem markHome_sound (s : State) (a : Actuator) (hb : s.sound) : (markHome s a).sound := by
  unfold markHome
  (repeat' split) <;> simp (maxDischargeDepth := 30) [hb]
@[simp] theorem homeActuator_sound (s : State) (a : Actuator) (hb : s.sound) : (homeActuator s a).sound := by
  unfold homeActuator
  (repeat' split) <;> simp (maxDischargeDepth := 30) [hb]
@[simp] theorem testHome_sound (s : State) (hb : s.sound) : (testHome s).sound := by
  unfold testHome
  split
  · dsimp only
    split
    · split <;> exact hb
    · exact hb
  · exact hb
@[simp] theorem beginHome_sound (s : State) (hb : s.sound) : (beginHome s).sound := by
  unfold beginHome
  split
  · exact testHome_sound _ (foldl_sound _ (fun s a hb => by simp [hb]) _ _ (by simp (maxDischargeDepth := 30) [hb]))
  · exact hb
@[simp] theorem resumeHome_sound (s : State) (h : HomeRun) (hb : s.sound) : (resumeHome s h).sound := by
  unfold resumeHome
  (repeat' split) <;> simp (maxDischargeDepth := 30) [hb]
@[simp] theorem stepHome_sound (s : State) (ax : Axis) (h : HomeRun) (hb : s.sound) :
    (stepHome s ax h).sound := by
  unfold stepHome
  dsimp only
  (repeat' split) <;> simp (maxDischargeDepth := 30) [hb]
@[simp] theorem resumeTable_sound (s : State) (hb : s.sound) : (resumeTable s).sound := by
  unfold resumeTable
  (repeat' split) <;> simp (maxDischargeDepth := 30) [hb]
@[simp] theorem homeIndex_sound (s : State) (ax : Axis) (hb : s.sound) : (homeIndex s ax).sound := by
  unfold homeIndex
  (repeat' split) <;> simp (maxDischargeDepth := 30) [hb]
/-! ### Stroke -/
@[simp] theorem setRev_sound (s : State) (r : Option Revolution) (hb : s.sound) : (setRev s r).sound := by
  unfold setRev
  simp (maxDischargeDepth := 30) [hb]
@[simp] theorem restartMarks_sound (s : State) (hb : s.sound) : (restartMarks s).sound := by
  unfold restartMarks
  simp (maxDischargeDepth := 30) [hb]
@[simp] theorem takeMark_sound (s : State) (r : Revolution) (m : Mark) (hb : s.sound) :
    (takeMark s r m).sound := by
  unfold takeMark
  simp (maxDischargeDepth := 30) [hb]
@[simp] theorem restoreMark_sound (s : State) (m : Mark) (hb : s.sound) : (restoreMark s m).sound := by
  unfold restoreMark
  simp (maxDischargeDepth := 30) [hb]
@[simp] theorem setHold_sound (s : State) (hb : s.sound) : (setHold s).sound := by
  unfold setHold
  simp (maxDischargeDepth := 30) [hb]
@[simp] theorem holdAtGate_sound (s : State) (hb : s.sound) : (holdAtGate s).sound := by
  unfold holdAtGate
  (repeat' split) <;> simp (maxDischargeDepth := 30) [hb]
@[simp] theorem leaveGate_sound (s : State) (hb : s.sound) : (leaveGate s).sound := by
  unfold leaveGate
  simp (maxDischargeDepth := 30) [hb]
@[simp] theorem startRevolution_sound (s : State) (kind : RevKind) (hb : s.sound) :
    (startRevolution s kind).sound := by
  unfold startRevolution
  simp (maxDischargeDepth := 30) [hb]
@[simp] theorem dropCancelled_sound (s : State) (slot : Nat) (k : ItemKey) (o : Origin) (hb : s.sound) :
    (dropCancelled s slot k o).sound := by
  unfold dropCancelled
  split
  · exact modCtx_sound _ _ _ hb fun st c h => Context.sound_offRetry (by simpa using h) k
  · exact hb
@[simp] theorem tryStart_sound (s : State) (hb : s.sound) : (tryStart s).sound := by
  unfold tryStart
  (repeat' split) <;> simp (maxDischargeDepth := 30) [hb]
@[simp] theorem startRestoring_sound (s : State) (hb : s.sound) : (startRestoring s).sound := by
  unfold startRestoring
  simp (maxDischargeDepth := 30) [hb]
@[simp] theorem takeWaste_sound (s : State) (r : Revolution) (board : Option Nat) (hb : s.sound) :
    (takeWaste s r board).sound := by
  unfold takeWaste
  simp (maxDischargeDepth := 30) [hb]
@[simp] theorem transferIndex_sound (s : State) (r : Revolution) (hb : s.sound) : (transferIndex s r).sound := by
  unfold transferIndex
  (repeat' split) <;> simp (maxDischargeDepth := 30) [hb]
@[simp] theorem transferWork_sound (s : State) (r : Revolution) (hb : s.sound) : (transferWork s r).sound := by
  unfold transferWork
  (repeat' split) <;> simp (maxDischargeDepth := 30) [hb]
@[simp] theorem wasteJaw_sound (s : State) (hb : s.sound) : (wasteJaw s).sound := by
  unfold wasteJaw
  (repeat' split) <;> simp (maxDischargeDepth := 30) [hb]
@[simp] theorem setLead_sound (s : State) (l : LeadState) (hb : s.sound) : (setLead s l).sound := by
  unfold setLead
  simp (maxDischargeDepth := 30) [hb]
@[simp] theorem missLead_sound (s : State) (hb : s.sound) : (missLead s).sound := by
  unfold missLead
  dsimp only
  (repeat' split) <;> simp (maxDischargeDepth := 30) [hb]
@[simp] theorem startChainStep_sound (s : State) (hb : s.sound) : (startChainStep s).sound := by
  unfold startChainStep
  simp (maxDischargeDepth := 30) [hb]
@[simp] theorem returnJaw_sound (s : State) (hb : s.sound) : (returnJaw s).sound := by
  unfold returnJaw
  (repeat' split) <;> simp (maxDischargeDepth := 30) [hb]
@[simp] theorem jawAtBrake_sound (s : State) (r : Revolution) (hb : s.sound) : (jawAtBrake s r).sound := by
  unfold jawAtBrake
  dsimp only
  (repeat' split) <;> simp (maxDischargeDepth := 30) [hb]
@[simp] theorem jawAtHalt_sound (s : State) (r : Revolution) (slip : Bool) (hb : s.sound) :
    (jawAtHalt s r slip).sound := by
  unfold jawAtHalt
  (repeat' split) <;> simp (maxDischargeDepth := 30) [hb]
@[simp] theorem brakeShaft_sound (s : State) (hb : s.sound) : (brakeShaft s).sound := by
  unfold brakeShaft
  simp (maxDischargeDepth := 30) [hb]
@[simp] theorem haltShaft_sound (s : State) (c : AlarmClass) (hb : s.sound) : (haltShaft s c).sound := by
  unfold haltShaft
  dsimp only
  (repeat' split) <;> simp (maxDischargeDepth := 30) [hb]
@[simp] theorem haltRun_sound (s : State) (hb : s.sound) : (haltRun s).sound := by
  unfold haltRun
  (repeat' split) <;> simp (maxDischargeDepth := 30) [hb]
@[simp] theorem invalidate_sound (s : State) (c : AlarmClass) (src : AlarmSource) (hb : s.sound) :
    (invalidate s c src).sound := by
  unfold invalidate
  dsimp only
  (repeat' split) <;> simp (maxDischargeDepth := 30) [hb]
@[simp] theorem stopAlarm_sound (s : State) (c : AlarmClass) (src : AlarmSource) (hb : s.sound) :
    (stopAlarm s c src).sound := by
  unfold stopAlarm
  dsimp only
  (repeat' split) <;> simp (maxDischargeDepth := 30) [hb]
/-! ### Finish -/
@[simp] theorem dropStale_sound (s : State) (hb : s.sound) : (dropStale s).sound := by
  unfold dropStale
  (repeat' split) <;> simp (maxDischargeDepth := 30) [hb]
@[simp] theorem beginPositioning_sound (s : State) (atUp : Bool) (pos : Nat) (i : ClipItem) (hb : s.sound) :
    (beginPositioning s atUp pos i).sound := by
  unfold beginPositioning
  dsimp only
  (repeat' split) <;> simp (maxDischargeDepth := 30) [hb]
@[simp] theorem aimTable_sound (atUp : Bool) (s : State) (hb : s.sound) : (aimTable atUp s).sound := by
  unfold aimTable
  dsimp only
  (repeat' split) <;> simp (maxDischargeDepth := 30) [hb]
@[simp] theorem raiseCountdown_sound (s : State) (k : ItemKey) (t : Nat) (hb : s.sound) :
    (raiseCountdown s k t).sound := by
  unfold raiseCountdown
  (repeat' split) <;> simp (maxDischargeDepth := 30) [hb]
@[simp] theorem commandActuator_sound (s : State) (a : Actuator) (v : Nat) (hb : s.sound) :
    (commandActuator s a v).sound := by
  unfold commandActuator
  simp (maxDischargeDepth := 30) [hb]
@[simp] theorem aimActuator_sound (atUp : Bool) (pos : Nat) (i : ClipItem) (s : State) (a : Actuator) (hb : s.sound) :
    (aimActuator atUp pos i s a).sound := by
  unfold aimActuator
  dsimp only
  (repeat' split) <;> simp (maxDischargeDepth := 30) [hb]
@[simp] theorem keepBack_sound (s : State) (hb : s.sound) : (keepBack s).sound := by
  unfold keepBack
  split <;> exact hb
@[simp] theorem aimActuators_sound (atUp : Bool) (s : State) (hb : s.sound) : (aimActuators atUp s).sound := by
  unfold aimActuators
  split
  · exact keepBack_sound s hb
  · split
    · exact hb
    · exact foldl_sound _ (fun s a hb => by simp [hb]) _ s hb
@[simp] theorem zeroCountdown_sound (before s : State) (hb : s.sound) : (zeroCountdown before s).sound := by
  unfold zeroCountdown
  (repeat' split) <;> simp (maxDischargeDepth := 30) [hb]
@[simp] theorem aim_sound (atUp : Bool) (before s : State) (hb : s.sound) : (aim atUp before s).sound := by
  unfold aim
  simp (maxDischargeDepth := 30) [hb]
@[simp] theorem releaseGate_sound (s : State) (hb : s.sound) : (releaseGate s).sound := by
  unfold releaseGate
  (repeat' split) <;> simp (maxDischargeDepth := 30) [hb]
@[simp] theorem completeRun_sound (s : State) (hb : s.sound) : (completeRun s).sound := by
  unfold completeRun setRun
  (repeat' split) <;> first | exact hb
@[simp] theorem updatePull_sound (s : State) (hb : s.sound) : (updatePull s).sound := by
  unfold updatePull
  dsimp only
  (repeat' split) <;> simp (maxDischargeDepth := 30) [hb]
@[simp] theorem watchDownstream_sound (s : State) (hb : s.sound) : (watchDownstream s).sound := by
  unfold watchDownstream
  dsimp only
  (repeat' split) <;> simp (maxDischargeDepth := 30) [hb]
@[simp] theorem updateHold_sound (s : State) (hb : s.sound) : (updateHold s).sound := by
  unfold updateHold
  simp (maxDischargeDepth := 30) [hb]
@[simp] theorem statusOnChange_sound (before s : State) (hb : s.sound) : (statusOnChange before s).sound := by
  unfold statusOnChange
  split <;> simp [hb]
@[simp] theorem finish_sound (atUp : Bool) (before s : State) (hb : s.sound) : (finish atUp before s).sound := by
  unfold finish
  simp (maxDischargeDepth := 30) [hb]
/-! ### Console -/
@[simp] theorem takeReports_sound (s : State) (n : Nat) (hb : s.sound) : (takeReports s n).sound := hb
/-! ### Dispensers -/
@[simp] theorem noteTapeEnd_sound (s : State) (d : Nat) (active : Bool) (hb : s.sound) :
    (noteTapeEnd s d active).sound := by
  unfold noteTapeEnd
  dsimp only
  (repeat' split) <;> simp (maxDischargeDepth := 30) [hb]
/-! ### Motion -/
@[simp] theorem takeHome_sound (s : State) (hb : s.sound) : (takeHome s).sound := by
  unfold takeHome
  dsimp only
  (repeat' split) <;> simp (maxDischargeDepth := 30) [hb]
@[simp] theorem takeJog_sound (s : State) (ax : Axis) (target : Nat) (check : Bool) (hb : s.sound) :
    (takeJog s ax target check).sound := by
  unfold takeJog
  dsimp only
  (repeat' split) <;> simp (maxDischargeDepth := 30) [hb]
@[simp] theorem reachHome_sound (s : State) (ax : Axis) (hb : s.sound) : (reachHome s ax).sound := by
  unfold reachHome
  (repeat' split) <;> simp (maxDischargeDepth := 30) [hb]
@[simp] theorem reportPosition_sound (s : State) (a : Actuator) (v : Nat) (hb : s.sound) :
    (reportPosition s a v).sound := by
  unfold reportPosition
  dsimp only
  (repeat' split) <;> simp (maxDischargeDepth := 30) [hb]
@[simp] theorem openGuard_sound (s : State) (hb : s.sound) : (openGuard s).sound := by
  unfold openGuard
  simp (maxDischargeDepth := 30) [hb]
@[simp] theorem resumeShaft_sound (s : State) (hb : s.sound) : (resumeShaft s).sound := by
  unfold resumeShaft
  (repeat' split) <;> simp (maxDischargeDepth := 30) [hb]
@[simp] theorem commandWanted_sound (p : Pose) (flip : Bool) (s : State) (a : Actuator) (hb : s.sound) :
    (commandWanted p flip s a).sound := by
  unfold commandWanted
  split <;> simp [hb]
@[simp] theorem commandKept_sound (s : State) (hb : s.sound) : (commandKept s).sound := by
  unfold commandKept
  dsimp only
  split
  · split
    · exact foldl_sound _ (fun s a hb => by simp [hb]) _ _ hb
    · exact hb
  all_goals exact hb
@[simp] theorem closeGuard_sound (s : State) (hb : s.sound) : (closeGuard s).sound := by
  unfold closeGuard
  simp (maxDischargeDepth := 30) [hb]
/-! ### Shaft -/
@[simp] theorem openJaws_sound (s : State) (hb : s.sound) : (openJaws s).sound := by
  unfold openJaws
  dsimp only
  (repeat' split) <;> simp (maxDischargeDepth := 30) [hb]
@[simp] theorem restoreStep_sound (s : State) (m : Mark) (hb : s.sound) : (restoreStep s m).sound := by
  unfold restoreStep
  dsimp only
  (repeat' split) <;> simp (maxDischargeDepth := 30) [hb]
@[simp] theorem advanceWork_sound (s : State) (r : Revolution) (hb : s.sound) : (advanceWork s r).sound := by
  unfold advanceWork
  dsimp only
  (repeat' split) <;> simp (maxDischargeDepth := 30) [hb]
@[simp] theorem dropMarkWork_sound (s : State) (_r : Revolution) (hb : s.sound) : (dropMarkWork s _r).sound := by
  unfold dropMarkWork
  (repeat' split) <;> simp (maxDischargeDepth := 30) [hb]
@[simp] theorem gateWork_sound (s : State) (r : Revolution) (hb : s.sound) : (gateWork s r).sound := by
  unfold gateWork
  dsimp only
  (repeat' split) <;> simp (maxDischargeDepth := 30) [hb]
@[simp] theorem downWork_sound (s : State) (r : Revolution) (hb : s.sound) : (downWork s r).sound := by
  unfold downWork
  dsimp only
  (repeat' split) <;> simp (maxDischargeDepth := 30) [hb]
@[simp] theorem clinchWork_sound (s : State) (r : Revolution) (hb : s.sound) : (clinchWork s r).sound := by
  unfold clinchWork
  (repeat' split) <;> simp (maxDischargeDepth := 30) [hb]
@[simp] theorem upWork_sound (s : State) (r : Revolution) (hb : s.sound) : (upWork s r).sound := by
  unfold upWork
  dsimp only
  (repeat' split) <;> simp (maxDischargeDepth := 30) [hb]
@[simp] theorem measurePeriod_sound (s : State) (r : Revolution) (hb : s.sound) : (measurePeriod s r).sound := by
  unfold measurePeriod
  (repeat' split) <;> simp (maxDischargeDepth := 30) [hb]
@[simp] theorem creditUp_sound (s : State) (hb : s.sound) : (creditUp s).sound := by
  unfold creditUp
  (repeat' split) <;> simp (maxDischargeDepth := 30) [hb]
@[simp] theorem endPurge_sound (s : State) (hb : s.sound) : (endPurge s).sound := hb
@[simp] theorem countPurge_sound (s : State) (r : Revolution) (hb : s.sound) : (countPurge s r).sound := by
  unfold countPurge
  (repeat' split) <;> simp (maxDischargeDepth := 30) [hb]
@[simp] theorem standAtRest_sound (s : State) (hb : s.sound) : (standAtRest s).sound := by
  unfold standAtRest
  simp (maxDischargeDepth := 30) [hb]
@[simp] theorem endRevolution_sound (s : State) (r : Revolution) (hb : s.sound) : (endRevolution s r).sound := by
  unfold endRevolution
  simp (maxDischargeDepth := 30) [hb]
@[simp] theorem releasePitch_sound (s : State) (hb : s.sound) : (releasePitch s).sound := by
  unfold releasePitch
  dsimp only
  (repeat' split) <;> simp (maxDischargeDepth := 30) [hb]
@[simp] theorem confirmPitch_sound (s : State) (hb : s.sound) : (confirmPitch s).sound := by
  unfold confirmPitch
  simp (maxDischargeDepth := 30) [hb]
/-! ### Station -/
@[simp] theorem takeBoard_sound (s : State) (slot serial programId : Nat) (mask : BitVec 8) (hb : s.sound) :
    (takeBoard s slot serial programId mask).sound := by
  unfold takeBoard
  simp (maxDischargeDepth := 30) [hb]
@[simp] theorem noteLine_sound (s : State) (released : Bool) (hb : s.sound) : (noteLine s released).sound := hb
@[simp] theorem takeIndex_sound (s : State) (hb : s.sound) : (takeIndex s).sound := by
  unfold takeIndex
  simp (maxDischargeDepth := 30) [hb]
@[simp] theorem boardAtStop_sound (s : State) (t : Transfer) (hb : s.sound) : (boardAtStop s t).sound := by
  unfold boardAtStop
  dsimp only
  (repeat' split) <;> simp (maxDischargeDepth := 30) [hb]
@[simp] theorem jamTransfer_sound (s : State) (t : Transfer) (hb : s.sound) : (jamTransfer s t).sound := by
  unfold jamTransfer
  simp (maxDischargeDepth := 30) [hb]
/-! ### RunControl -/
@[simp] theorem resumeTransfer_sound (s : State) (hb : s.sound) : (resumeTransfer s).sound := by
  unfold resumeTransfer
  simp (maxDischargeDepth := 30) [hb]
@[simp] theorem takeStart_sound (s : State) (hb : s.sound) : (takeStart s).sound := by
  have hr : (setRun s .running).sound := hb
  simp (maxDischargeDepth := 30) [takeStart, hr]
@[simp] theorem setStopping_sound (s : State) (q : StopQualifier) (hb : s.sound) : (setStopping s q).sound := by
  unfold setStopping
  simp (maxDischargeDepth := 30) [hb]
@[simp] theorem closeCurrent_sound (s : State) (hb : s.sound) : (closeCurrent s).sound := by
  unfold closeCurrent
  (repeat' split) <;> simp (maxDischargeDepth := 30) [hb]
@[simp] theorem takeReset_sound (s : State) (hb : s.sound) : (takeReset s).sound := by
  refine ⟨fun o ho c e => ?_, hb.2⟩
  have : o = none := List.eq_of_mem_replicate (n := 5) ho
  rw [this] at e; cases e
@[simp] theorem ackAlarm_sound (s : State) (n : Nat) (hb : s.sound) : (ackAlarm s n).sound := hb
@[simp] theorem leaveHalted_sound (s : State) (hb : s.sound) : (leaveHalted s).sound := by
  unfold leaveHalted setRun
  split <;> exact hb
@[simp] theorem dropAlarm_sound (s : State) (e : AlarmEntry) (hb : s.sound) : (dropAlarm s e).sound := by
  unfold dropAlarm
  dsimp only
  split
  · exact leaveHalted_sound _ hb
  · exact hb
/-! ### LineFrames -/
@[simp] theorem leaveSource_sound (s : State) (o : Option Source) (hb : s.sound) : (leaveSource s o).sound := by
  unfold leaveSource
  split
  · exact hb
  · exact hb
  · obtain ⟨h1, h2, h3⟩ := hb.2
    refine ⟨hb.1, ?_, ?_, ?_⟩
    · rw [List.all_eq_true] at h1 ⊢
      exact fun f hf => h1 f (List.mem_of_mem_drop hf)
    · exact le_trans (List.Sublist.length_le ((List.drop_sublist 1 _).filter _)) h2
    · refine le_trans ?_ h3
      simp only [State.setLine_line, Line.openNormal, Bool.false_eq_true, if_false]
      split
      · exact le_refl _
      · exact List.Sublist.length_le ((List.drop_sublist 1 _).filter _)
  · exact hb
@[simp] theorem sentFrame_sound (s : State) (x : Sending) (hb : s.sound) : (sentFrame s x).sound := by
  unfold sentFrame
  simp (maxDischargeDepth := 30) [hb]
@[simp] theorem failedFrame_sound (s : State) (x : Sending) (hb : s.sound) : (failedFrame s x).sound := hb
@[simp] theorem dropFrame_sound (s : State) (hb : s.sound) : (dropFrame s).sound := by
  unfold dropFrame
  simp (maxDischargeDepth := 30) [hb]
@[simp] theorem markSender_sound (s : State) (sender : Nat) (f : Frame) (hb : s.sound) :
    (markSender s sender f).sound := by
  unfold markSender
  (repeat' split) <;> simp (maxDischargeDepth := 30) [hb]
@[simp] theorem checkDuplicate_sound (s : State) (sender : Nat) (hb : s.sound) :
    (checkDuplicate s sender).sound := by
  unfold checkDuplicate
  (repeat' split) <;> simp (maxDischargeDepth := 30) [hb]
@[simp] theorem hearWithdraw_sound (s : State) (serial : Nat) (hb : s.sound) : (hearWithdraw s serial).sound := by
  unfold hearWithdraw
  dsimp only
  (repeat' split) <;> simp (maxDischargeDepth := 30) [hb]
@[simp] theorem withdrawClaim_sound (s : State) (k : ItemKey) (hb : s.sound) : (withdrawClaim s k).sound := by
  unfold withdrawClaim
  split
  · split <;> exact hb
  · exact hb
@[simp] theorem hearClaim_sound (s : State) (sender : Nat) (k : ItemKey) (hb : s.sound) :
    (hearClaim s sender k).sound := by
  unfold hearClaim
  split
  · exact hb
  · refine modCtx_sound _ _ _ ?_ fun st c h => by simpa using h
    generalize (_ && decide (sender < (cfg s).station)) = own
    cases own
    · exact hb
    · exact withdrawClaim_sound _ _ (withdrawAdopted_sound _ _ _ hb)
@[simp] theorem hearOwe_sound (s : State) (sender : Nat) (d : ItemData) (hb : s.sound) :
    (hearOwe s sender d).sound := by
  unfold hearOwe
  split
  · exact hb
  · rename_i slot _
    have h1 : (modCtx s slot fun c => c.recordOwe (cfg s).station sender d).sound :=
      modCtx_sound _ _ _ hb fun st c h => Context.sound_recordOwe h _ _ _
    dsimp only
    split
    · rename_i c e
      split
      · rename_i ht
        refine claim_sound _ _ _ h1 fun x hx => ?_
        rw [e] at hx; cases hx
        simp only [claimTest, Bool.and_eq_true] at ht
        exact claimAllowed_room ht.2
      · exact h1
    · exact h1
@[simp] theorem removeStale_sound (s : State) (serial p : Nat) (hb : s.sound) :
    (removeStale s serial p).sound := by
  unfold removeStale
  simp (maxDischargeDepth := 30) [hb]
@[simp] theorem announceCreate_sound (s : State) (serial programId p : Nat) (mask : BitVec 8) (hb : s.sound) :
    (announceCreate s serial programId p mask).sound := by
  unfold announceCreate
  dsimp only
  (repeat' split) <;> simp (maxDischargeDepth := 30) [hb]
@[simp] theorem announceUpdate_sound (s : State) (slot serial programId p : Nat) (mask : BitVec 8) (hb : s.sound) :
    (announceUpdate s slot serial programId p mask).sound := by
  have h1 := joinMask_sound _ slot mask (modCtx_sound (removeStale s serial p) slot (fun c => { c with position := p })
    (removeStale_sound s serial p hb) fun _ _ h => h)
  unfold announceUpdate
  refine closeAllAhead_sound _ ?_
  split
  · split
    · exact lookupCtx_sound _ _ _ h1
    · exact h1
  · exact h1
@[simp] theorem hearAnnounce_sound (s : State) (serial programId p : Nat) (mask : BitVec 8) (hb : s.sound) :
    (hearAnnounce s serial programId p mask).sound := by
  unfold hearAnnounce
  (repeat' split) <;> simp (maxDischargeDepth := 30) [hb]

end Sys2Proof.Machine
end

