-- ==== Sys2Proof/Machine/Reply.lean ====
section
/-! DEFINITION. The bytes of the response frame that a transaction shifts out (R182, R195). The places of the fields, the
codes of an enumeration and a list's count follow R195; the widths it does not give, the code of an absent value and a count
above 255: log 23; three layouts of READ_STATUS and READ_BOARD: log 66. -/

namespace Sys2Proof.Machine

/-! ### Fields -/

/-- An unsigned field of a width in bytes. -/
def field (w n : Nat) : List Byte := beBytes w n

/-- A field whose value may be absent (log 23). -/
def optField (w : Nat) (o : Option Nat) : List Byte := beBytes w (o.getD (Config.absentField w))

/-- The serial of a place that may hold no board: 0 then, which stands for "no board" (chapter 0, the units). -/
def serialField (o : Option Nat) : List Byte := field 4 (o.getD 0)

/-- A flag: 1 when set (chapter 11). -/
def flagByte (b : Bool) : List Byte := [if b then 1 else 0]

/-- The 1-byte count of a list (R195; log 23). -/
def countByte (n : Nat) : Byte := if n ≤ 255 then BitVec.ofNat 8 n else Config.longListCount n

/-- A list preceded by its count (R195). -/
def listBytes {α : Type} (f : α → List Byte) (l : List α) : List Byte := countByte l.length :: l.flatMap f

/-- Flags in one byte, the first listed in bit 0 (log 23). -/
def flagBits (fs : List Bool) : List Byte :=
  [BitVec.ofNat 8 (fs.foldr (fun b n => 2 * n + (if b then 1 else 0)) 0)]

/-! ### Codes (R195: from 0 in the order of the owning rule) -/

/-- Code of a result (R195). -/
def ResultCode.code : ResultCode → Nat
  | .done => 0
  | .started => 1
  | .refusedState => 2
  | .refusedRange => 3
  | .refusedInUse => 4
  | .refusedFull => 5
  | .blockAborted => 6
  | .unknownRequest => 7

/-- Code of an abort cause: 1..12 (R195). -/
def AbortCause.code : AbortCause → Nat
  | .blockSize => 1
  | .blockExcess => 2
  | .wrongBank => 3
  | .stepExcess => 4
  | .sequence => 5
  | .field => 6
  | .image => 7
  | .partZero => 8
  | .geometry => 9
  | .span => 10
  | .duplicateId => 11
  | .shortClose => 12

/-- Number of a bank. -/
def BankId.code : BankId → Nat
  | .zero => 0
  | .one => 1

/-- Code of a bank state (R1). -/
def BankState.code : BankState → Nat
  | .empty => 0
  | .loading => 1
  | .aborted => 2
  | .ready => 3

/-- Code of a dispenser state (R19). -/
def DispState.code : DispState → Nat
  | .absent => 0
  | .unloaded => 1
  | .ready => 2
  | .out => 3
  | .service => 4
  | .locked => 5
  | .jammed => 6

/-- Code of a stop qualifier (R195). -/
def StopQualifier.code : StopQualifier → Nat
  | .atRest => 0
  | .atBoardEnd => 1

/-- Code of a role (R195). -/
def Role.code : Role → Nat
  | .first => 0
  | .middle => 1
  | .last => 2
  | .single => 3

/-- Code of an axis (R195). -/
def axisCode : Axis → Nat
  | .x => 0
  | .y => 1

/-- Code of an actuator (R163). -/
def actuatorCode : Actuator → Nat
  | .bearing => 0
  | .headSpan => 1
  | .clinchSpan => 2
  | .clinchMode => 3

/-- Code of an alarm class (section 9.6). -/
def AlarmClass.code : AlarmClass → Nat
  | .strokeStall => 0
  | .chainStall => 1
  | .dropMiss => 2
  | .verifyReject => 3
  | .verifyFault => 4
  | .transferMiss => 5
  | .headJam => 6
  | .clinchFault => 7
  | .tableSlip => 8
  | .tableLate => 9
  | .actuatorFault => 10
  | .boardJam => 11
  | .homeFault => 12
  | .duplicateStation => 13
  | .dispenserJam => 14
  | .groupQuarantine => 15
  | .downstreamAbsent => 16

/-- The source of an alarm: its kind in the order of R163, then its number (log 23). -/
def AlarmSource.bytes : AlarmSource → List Byte
  | .none => field 1 0 ++ optField 1 Option.none
  | .dispenser d => field 1 1 ++ field 1 d
  | .group g => field 1 2 ++ field 1 g
  | .axis a => field 1 3 ++ field 1 (axisCode a)
  | .actuator a => field 1 4 ++ field 1 (actuatorCode a)

/-- Code of an operation (R78). -/
def OpName.code : OpName → Nat
  | .none => 0
  | .move => 1
  | .home => 2
  | .jog => 3

/-- Code of a move state (R78). -/
def MoveState.code : MoveState → Nat
  | .waiting => 0
  | .stepping => 1
  | .decelerating => 2
  | .held => 3
  | .settling => 4

/-- Code of a JOG's outcome (R191). -/
def JogOutcome.code : JogOutcome → Nat
  | .reached => 0
  | .stopped => 1
  | .slipped => 2

/-- Code of a context state (R118). -/
def CtxState.code : CtxState → Nat
  | .expected => 0
  | .arriving => 1
  | .current => 2
  | .departing => 3

/-- Code of a pairing (R118). -/
def Pairing.code : Pairing → Nat
  | .none => 0
  | .awaited => 1
  | .settled => 2

/-- Code of an own item state (R118). -/
def OwnState.code : OwnState → Nat
  | .pending => 0
  | .inChain => 1
  | .inserted => 2
  | .owed => 3
  | .skipped => 4

/-- Code of an adopted entry's state (R122). -/
def AdoptedState.code : AdoptedState → Nat
  | .pending => 0
  | .inChain => 1
  | .inserted => 2
  | .dropped => 3

/-- Code of the end cause of a pass (R43). -/
def EndCause.code : EndCause → Nat
  | .budget => 0
  | .waiting => 1
  | .exhausted => 2
  | .none => 3

/-- Code of a shaft state (R96). -/
def Shaft.code : Shaft → Nat
  | .atRest => 0
  | .turning => 1
  | .pitchHeld => 2
  | .gateHeld => 3
  | .stopped => 4
  | .restoring => 5

/-- Code of a revolution's kind (R96). -/
def RevKind.code : RevKind → Nat
  | .insert => 0
  | .index => 1
  | .purge => 2

/-! ### Bodies -/

/-- An item key: serial, owner station, step id (R143, R194). -/
def ItemKey.bytes (k : ItemKey) : List Byte := field 4 k.serial ++ field 1 k.owner ++ field 2 k.step

/-- The key fields when a key may be absent. -/
def optKey : Option ItemKey → List Byte
  | some k => k.bytes
  | none => optField 4 none ++ optField 1 none ++ optField 2 none

/-- The eight flags of a context in the order of R118. -/
def ctxFlags (entered planClosed noProgram finished : Bool) (f : PassFlags) : List Byte :=
  flagBits [entered, planClosed, noProgram, f.noPassport, f.partialPassport, f.unidentified, finished, f.passportFull]

/-- A report's kind code and content (R191, R195). -/
def ReportKind.bytes : ReportKind → List Byte
  | .boardDone serial programId own madeUp owed ejected suspect skipped entered closed noProgram finished flags =>
    field 1 0 ++ field 4 serial ++ optField 2 programId ++ field 2 own ++ field 2 madeUp ++ field 2 owed ++
    field 2 ejected ++ field 2 suspect ++ field 2 skipped ++ ctxFlags entered closed noProgram finished flags
  | .boardResult serial notMadeUp complete =>
    field 1 1 ++ field 4 serial ++ field 1 notMadeUp ++ field 1 (if complete then 0 else 1)
  | .lostItem serial key part => field 1 2 ++ field 4 serial ++ key.bytes ++ field 1 part
  | .unknownBoard station => field 1 3 ++ field 1 station
  | .reelOut d part totalDrops => field 1 4 ++ field 1 d ++ optField 1 part ++ field 4 totalDrops
  | .homeDone x y => field 1 5 ++ optField 2 x ++ optField 2 y
  | .jogDone ax target counter outcome =>
    field 1 6 ++ field 1 (axisCode ax) ++ field 2 target ++ field 2 counter ++ field 1 outcome.code

/-- A report: number, kind, content (R195). -/
def Report.bytes (r : Report) : List Byte := field 2 r.number ++ r.kind.bytes

/-- The READ_DISPENSER body (R25); the tape-end level is coded in the order of R19, ACTIVE 0 and INACTIVE 1 (R195). -/
def DispenserReply.bytes (r : DispenserReply) : List Byte :=
  field 1 r.position ++ field 1 r.state.code ++ optField 1 r.part ++ field 2 r.quantity ++ field 1 r.faults ++
  field 4 r.totalDrops ++ field 1 (if r.tapeEnd then 0 else 1) ++ flagByte r.dropOutstanding ++ flagByte r.available ++
  field 1 r.groupFaults ++ flagByte r.groupQuarantined

/-- The READ_POSITION body (R94). -/
def PositionReply.bytes (r : PositionReply) : List Byte :=
  field 2 r.x ++ field 2 r.y ++ flagByte r.moving ++ flagByte r.settled ++ flagByte r.homeValid ++ optField 2 r.phaseX ++
  optField 2 r.phaseY ++ field 1 r.op.code ++ optField 1 (r.moveState.map MoveState.code)

/-- An alarm list entry (R163). -/
def AlarmEntry.bytes (e : AlarmEntry) : List Byte :=
  field 2 e.number ++ field 1 e.cls.code ++ e.source.bytes ++ field 1 (if e.cls.stop then 0 else 1) ++ field 4 e.firstRev ++
  field 1 e.count ++ field 1 (if e.acked then 1 else 0)

/-- The READ_ALARMS body (R180). -/
def AlarmsReply.bytes (r : AlarmsReply) : List Byte :=
  field 1 r.run.code ++ optField 1 (r.qualifier.map StopQualifier.code) ++ flagByte r.listOverflow ++
  flagByte r.unrecordedHalt ++ flagByte r.purgeRequired ++ field 1 r.purgeCount ++ flagByte r.guardHold ++ flagByte r.lamp ++
  flagByte r.horn ++ listBytes AlarmEntry.bytes r.alarms

/-- A passport entry in READ_BOARD: its run (upstream 0, own 1) first (log 66), serial, and the entry's 17 bytes (R140, R194). -/
def Entry.bytes (run : Nat) (e : Entry) : List Byte :=
  field 1 run ++ field 4 e.item.key.serial ++ e.item.bytes ++ e.state.bytes

/-- The READ_BOARD body: every field of R118 in order (R140). -/
def Context.bytes (c : Context) : List Byte :=
  field 4 c.serial ++ optField 2 c.programId ++ optField 1 (c.bank.map BankId.code) ++ field 1 c.position ++
  field 1 c.state.code ++ ctxFlags c.entered c.planClosed c.noProgram c.finished c.flags ++ field 1 c.pairing.code ++
  [c.history.byte] ++ field 2 c.skippedStations.toNat ++ field 1 c.skipMask.toNat ++
  listBytes (fun o => field 1 o.state.code ++ field 1 o.retries) c.own ++ field 2 c.cursor ++
  listBytes ItemKey.bytes c.retry ++
  listBytes (fun a => field 4 a.item.key.serial ++ a.item.bytes ++ field 1 a.retries ++ field 1 a.state.code) c.adopted ++
  (countByte c.entryCount :: (c.upstream.flatMap (Entry.bytes 0) ++ c.ownRun.flatMap (Entry.bytes 1))) ++
  field 2 c.ownInserted ++ field 2 c.madeUpInserted ++ field 2 c.owed ++ field 2 c.ejected ++ field 2 c.clinchSuspect

/-- A bank in the READ_STATUS body (R188). -/
def BankStatus.bytes (b : BankStatus) : List Byte :=
  field 1 b.state.code ++ optField 2 b.programId ++ field 2 b.declared ++ field 2 b.committed ++ flagByte b.inUse ++
  optField 1 (b.abortCause.map AbortCause.code)

/-- A STATUS content in the READ_STATUS body, its two flags in a byte each (R142; log 66). -/
def statusBytes : Option StatusContent → List Byte
  | some c => field 1 c.run.code ++ field 4 c.serial ++ flagByte c.holding ++ flagByte c.alarm
  | none => optField 1 none ++ optField 4 none ++ optField 1 none ++ optField 1 none

/-- A context slot in the READ_STATUS body; an empty one has serial 0 and its other fields absent (R119, R188). -/
def slotBytes : Option SlotStatus → List Byte
  | some c =>
    serialField (some c.serial) ++ field 1 c.state.code ++ field 1 c.position ++
    ctxFlags c.entered c.planClosed c.noProgram c.finished c.flags ++ field 1 c.pairing.code
  | none => serialField none ++ optField 1 none ++ optField 1 none ++ optField 1 none ++ optField 1 none

/-- The load slot in the READ_STATUS body; an empty one has serial 0 and its other fields absent (R136, R188). -/
def loadBytes : Option LoadSlot → List Byte
  | some l => serialField (some l.serial) ++ field 2 l.programId ++ field 1 l.mask.toNat
  | none => serialField none ++ optField 2 none ++ optField 1 none

/-- The conditions of R125 in one byte, condition 1 in bit 0 (log 23). -/
def HoldConditions.bytes (h : HoldConditions) : List Byte := flagBits [h.c1, h.c2, h.c3, h.c4, h.c5, h.c6, h.c7]

/-- The frontier as a signed 2-byte field (R43). -/
def PassSummary.bytes (p : PassSummary) : List Byte :=
  sBytes16 p.frontier ++ field 1 p.assignments ++ field 2 p.owed ++ field 1 p.cause.code

/-- The console, run, bank, chain, planner and pose sections of READ_STATUS (R188). -/
def StatusReply.firstBytes (r : StatusReply) : List Byte :=
  flagByte r.setupDone ++ optField 1 (r.station.map (·.1)) ++ optField 1 (r.station.map (·.2.code)) ++
  field 1 r.reportCount ++ flagByte r.reportOverflow ++ field 2 r.nextReport ++ flagByte r.alertAsserted ++
  field 1 r.run.code ++ optField 1 (r.qualifier.map StopQualifier.code) ++ flagByte r.guardHold ++
  r.bank0.bytes ++ r.bank1.bytes ++ optField 1 (r.openBlock.map (·.1.code)) ++ optField 1 (r.openBlock.map (·.2)) ++
  field 1 r.clips.empty ++ field 1 r.clips.planned ++ field 1 r.clips.loaded ++ field 1 r.clips.verified ++
  field 1 r.clips.rejected ++ field 1 r.clips.surplus ++ field 1 r.clips.unknown ++ flagByte r.purgeRequired ++
  field 1 r.purgeCount ++ r.pass.bytes ++
  field 2 r.lastPose.x ++ field 2 r.lastPose.y ++ field 1 r.lastPose.bearing.code ++ field 1 r.lastPose.headSpan ++
  field 1 r.lastPose.clinchSpan ++ field 1 r.lastPose.mode.code ++ flagByte r.lastPose.valid ++ optField 3 r.cleanPeriod ++
  (match r.positioning with
   | some (x, y, tp, left) => field 2 x ++ field 2 y ++ field 3 tp ++ field 3 left
   | none => optField 2 none ++ optField 2 none ++ optField 3 none ++ optField 3 none)

/-- An actuator record: IDLE 0 or SETTING 1, the value commanded, and the timer in milliseconds, a part of one counted whole
(R96; log 23). -/
def ActStatus.bytes (a : ActStatus) : List Byte :=
  field 1 (if a.setting.isSome then 1 else 0) ++ optField 1 a.setting ++ optField 2 (a.timer.map fun t => (t + 999) / 1000)

/-- The retry counts of a slot after the sections of R188; an empty slot has an absent length and empty lists (R54, R55;
log 46). -/
def retryBytes : Option RetryStatus → List Byte
  | some x =>
    field 1 x.listed ++ listBytes (field 1) x.own ++ listBytes (fun a => a.1.bytes ++ field 1 a.2) x.adopted
  | none => optField 1 none ++ field 1 0 ++ field 1 0

/-- The table, head and board sections of READ_STATUS (R188). -/
def StatusReply.middleBytes (r : StatusReply) : List Byte :=
  field 1 r.op.code ++ optField 1 (r.moveState.map MoveState.code) ++ flagByte r.homeValid ++
  field 1 r.shaft.code ++ optField 1 (r.revolution.map (·.1.code)) ++ optField 1 (r.revolution.map (·.2.num)) ++
  optKey r.jawItem ++ r.bearing.bytes ++ r.headSpan.bytes ++ r.clinchSpan.bytes ++ r.clinchMode.bytes ++
  field 1 r.missCount ++ field 4 r.revCount ++
  r.slots.flatMap slotBytes ++ loadBytes r.load ++
  serialField (r.passIn.map (·.1)) ++ field 1 ((r.passIn.map (·.2)).getD 0) ++ field 1 r.passOutLeft

/-- The index hold and line sections of READ_STATUS: of the two queues first the lengths, then the kinds at their fronts; the
15 roster entries stand without a count (R142, R188; log 66). -/
def StatusReply.lastBytes (r : StatusReply) : List Byte :=
  flagByte r.pulled ++ r.conditions.bytes ++ flagByte r.lineReleased ++
  field 1 r.urgentCount ++ field 1 r.normalCount ++
  optField 1 (r.urgentFront.map FrameKind.value) ++ optField 1 (r.normalFront.map FrameKind.value) ++
  r.roster.flatMap (fun e => flagByte e.1 ++ statusBytes e.2) ++
  field 2 r.rxErrors ++ field 2 r.announceLoss ++ flagByte r.sending

/-- The body of a response (R184, R195). -/
def Body.bytes : Body → List Byte
  | .empty => []
  | .aborted b c => field 1 b.code ++ field 1 c.code
  | .dispenserState st => field 1 st.code
  | .dispenser r => r.bytes
  | .position r => r.bytes
  | .board c => c.bytes
  | .alarms r => r.bytes
  | .status r => r.firstBytes ++ r.middleBytes ++ r.lastBytes ++ r.retries.flatMap retryBytes
  | .reports rs left overflow => listBytes Report.bytes rs ++ field 1 left ++ flagByte overflow

/-- The response frame: result code, request code, response number, body length, body (R195). -/
def Response.bytes (r : Response) : List Byte :=
  field 1 r.result.code ++ [r.code] ++ field 1 r.number ++ field 2 r.body.bytes.length ++ r.body.bytes

/-- What a transaction that shifts out `n` bytes returns: the response buffer from its first byte; the filler after its end
carries nothing (R183). -/
def shiftedOut (s : State) (n : Nat) : List Byte := s.console.response.bytes.take n

end Sys2Proof.Machine
end

