-- ==== Sys2Proof/Tests/Slice0.lean ====
section
/-! SUPPORT. Tests on fixed values. The expected results are those of the spec's own worked examples, named in each comment, or
written out by hand from its encodings. The witnesses that statements' hypotheses can be met are in Tests/Witness.lean. -/

namespace Sys2Proof.Tests

open Sys2Proof.Machine

set_option maxRecDepth 100000
set_option Elab.async false

/-! ### Which commands can be formed (WellFormed) -/

theorem test_wf_read_empty : (Instr.readTransaction []).wf = true := by decide
theorem test_wf_read_null : (Instr.readTransaction [0, 9]).wf = true := by decide
theorem test_ill_read_code : (Instr.readTransaction [1]).wf = false := by decide
theorem test_ill_unknown_code : (Instr.unknownRequest 0x55 []).wf = false := by decide
theorem test_ill_unknown_null : (Instr.unknownRequest 0 []).wf = false := by decide
theorem test_ill_silence_low : (Instr.silenceExpiry 0).wf = false := by decide
theorem test_ill_silence_high : (Instr.silenceExpiry 16).wf = false := by decide
theorem test_ill_withdraw : (Instr.withdrawFrame ⟨false, 5, 4, [0, 0, 0], 0⟩).wf = false := by decide
theorem test_ill_claim : (Instr.claimFrame ⟨false, 5, 8, [], 0⟩).wf = false := by decide
theorem test_ill_owe : (Instr.oweFrame ⟨false, 5, 19, [1], 0⟩).wf = false := by decide
theorem test_ill_announce : (Instr.announceFrame ⟨true, 5, 33, List.replicate 33 0, 0⟩).wf = false := by decide
theorem test_ill_head : (Instr.passportHead ⟨true, 5, 11, [0], 0⟩).wf = false := by decide
theorem test_ill_entry : (Instr.passportEntry ⟨true, 5, 0, [0], 0⟩).wf = false := by decide
theorem test_ill_status : (Instr.statusFrame ⟨true, 5, 6, [0, 0], 0⟩).wf = false := by decide

/-! ### Decoding, from words written out from chapter 11 -/

theorem test_decode_bank_erase : decodeTransaction [0x16, 0x01, 0x01] = .bankErase [0x01, 0x01] := by decide
theorem test_decode_reel_load :
    decodeTransaction [0x20, 0x04, 0x0E, 0x1F, 0x07, 0xD0] = .reelLoad [0x04, 0x0E, 0x1F, 0x07, 0xD0] := by decide
theorem test_decode_jog : decodeTransaction [0x31, 4, 0, 0x11, 0xF8, 1] = .jog [4, 0, 0x11, 0xF8, 1] := by decide
theorem test_decode_withdraw : decodeTransaction [0x41, 4, 0, 0, 0x17, 0xD5] = .boardWithdraw [4, 0, 0, 0x17, 0xD5] := by decide
theorem test_decode_stop : decodeTransaction [0x51, 1, 1] = .stop [1, 1] := by decide
theorem test_decode_null : decodeTransaction [0x00, 0x16] = .readTransaction [0x00, 0x16] := by decide
theorem test_decode_unknown : decodeTransaction [0x18, 0] = .unknownRequest 0x18 [0] := by decide
theorem test_decode_gate_code : decodeCamCode 0b0101#4 = some .gateMark := by decide
theorem test_decode_no_code : decodeCamCode 0b1001#4 = none := by decide

/-- A word as its bits, most significant first. -/
def bits (n : Nat) (w : BitVec n) : List Bool := (List.range n).map fun i => w.getLsbD (n - 1 - i)

/-- WITHDRAW of serial 6101 by station 5: header 15, length 04, payload 000017D5, CRC DFAF, stuffed by hand (R143, R193). -/
def withdrawWire : List Bool :=
  bits 79 0b0000101010000011000001000001000001000001010111110010101110111110101011111111111#79

theorem test_decode_withdraw_wire :
    decodeWire withdrawWire = .withdrawFrame ⟨false, 5, 4, [0, 0, 0x17, 0xD5], 0xDFAF⟩ := by decide +kernel

/-- STATUS of station 4, RUNNING with serial 6101 and holding: header F4, CRC 201B, stuffed by hand (R143, R193). -/
def statusWire : List Bool :=
  bits 96 0b011110100000100110000010011000001000001000001000010111110010101000001001001000001000110111111111#96

theorem test_decode_status_wire :
    decodeWire statusWire = .statusFrame ⟨true, 4, 6, [3, 0, 0, 0x17, 0xD5, 1], 0x201B⟩ := by decide +kernel
theorem test_parse_status :
    parseHeard .status ⟨true, 4, 6, [3, 0, 0, 0x17, 0xD5, 1], 0x201B⟩ =
      some (4, .status { run := .running, serial := 6101, holding := true, alarm := false }) := by decide +kernel
theorem test_wire_six_level_drops : decodeWire (bits 8 0b00000000#8) = .frameDropped := by decide
theorem test_parse_wrong_crc : parseHeard .withdraw ⟨false, 5, 4, [0, 0, 0x17, 0xD5], 0xDFAE⟩ = none := by decide +kernel
theorem test_verify_word :
    parseVerifyWord (bits 24 0b101011100000000111110100#24) = some { tag := 5, cls := 3, sense := .reverse, value := 500 } := by
  decide

/-! ### Arithmetic: sections 1.2, 4.2, 4.3 and 4.5 -/

/-- The body of a SETUP with the values of the worked examples of chapters 02, 04 and 05. -/
def setupBody : List Byte :=
  [5, 1, 3, 1] ++ (List.range 64).map (fun d => if d < 16 then BitVec.ofNat 8 (4 + d) else 0) ++
  ([30, 60, 90, 140, 180, 220, 250, 290, 320, 10000, 8000, 1000, 500, 5000, 200, 1, 200].flatMap (beBytes 2)) ++
  ([2000, 1500, 5, 45, 80, 30, 2000, 2000, 500, 500, 10000, 4000, 200, 500].flatMap (beBytes 2)) ++ [4]

/-- Its record. -/
def record : Setup := (parseSetup setupBody).getD Setup.blank

theorem test_setup_parses : (parseSetup setupBody).isSome = true := by decide +kernel
theorem test_ramp : rateTable record.rampX = [1000, 666, 500, 400, 333, 285, 250, 222, 200] := by decide +kernel
theorem test_axis_time :
    [0, 1, 7, 600, 6000].map (axisTime (rateTable record.rampX)) = [0, 1000, 4832, 124112, 1204112] := by decide +kernel
theorem test_axis_time_saturates : axisTime (rateTable record.rampY) 12287 = 16777215 := by decide +kernel
theorem test_detent : detentOf 401 = some 10 ∧ detentOf 209 = none := by decide

/-- Images 0, 1 and 2 of "Poses of four steps". -/
def image (n : Nat) : Image :=
  match n with
  | 0 => ⟨1000, 800, false⟩
  | 1 => ⟨9000, 800, true⟩
  | _ => ⟨3000, 1200, true⟩

/-- An item on an image with its holes. -/
def itemOn (n : Nat) (h : Holes) : ItemData :=
  { key := ⟨6101, 5, 7⟩, image := n, holes := h, part := 31, span := 10, mode := .inward }

theorem test_pose_p : poseOn record (image 2) (itemOn 2 ⟨400, 250, 400, -150⟩) = .pose ⟨4600, 2650, .north, 10, .inward⟩ := by
  decide +kernel
theorem test_pose_q : poseOn record (image 0) (itemOn 0 ⟨0, 0, 401, 0⟩) = .pose ⟨3200, 2300, .east, 10, .inward⟩ := by
  decide +kernel
theorem test_pose_r : poseOn record (image 1) (itemOn 1 ⟨0, 0, 401, 0⟩) = .noTarget .travel := by decide +kernel
theorem test_pose_t : poseOn record (image 1) (itemOn 1 ⟨-300, 120, -300, 520⟩) = .noTarget .travel := by decide +kernel
theorem test_flip : flipped .north true = .south ∧ flipped .east true = .west := by decide

/-! ### States -/

/-- The station of the worked examples after SETUP, in a run state. -/
def station (run : RunState) : State :=
  let s := configure State.reset record
  s.setJam { s.jam with run := run }

/-- The state with the table and the last settled pose of "The worked move at its limits". -/
def settledStation : State :=
  let s := station .running
  (s.setTable { s.table with x := 4000, y := 2650, homeValid := true, phaseX := some 280, phaseY := some 911 }).setPose
    { s.pose with last := ⟨4000, 2650, .north, 6, 6, .inward, true⟩, clean := some 300000 }

/-- What a command leaves. -/
def after (c : Instr) (s : State) : State :=
  match exec c s with
  | .next t => t
  | .fault _ => s
  | .refused _ => s

/-- The result code and the body that a request leaves. -/
def answer (c : Instr) (s : State) : ResultCode × Body := ((after c s).console.response.result, (after c s).console.response.body)

theorem test_predict : predict settledStation ⟨4600, 2650, .north, 10, .inward⟩ (some false) = 129112 := by decide +kernel
theorem test_predict_far : predict settledStation ⟨10000, 2650, .north, 10, .inward⟩ (some false) = 1209112 := by decide +kernel
theorem test_predict_reversed : predict settledStation ⟨4007, 2650, .north, 10, .inward⟩ (some true) = 95000 := by decide +kernel
theorem test_window : window settledStation = 150000 ∧ upToRest settledStation = 58333 := by decide +kernel

/-! ### The console -/

theorem test_setup_idle : (after (.setup (framed setupBody [])) State.reset).jam.run = .idle := by decide +kernel
theorem test_setup_twice : answer (.setup (framed setupBody [])) (station .idle) = (.refusedState, .empty) := by decide +kernel
theorem test_home_before_setup : answer (.home (framed [] [])) State.reset = (.refusedState, .empty) := by decide +kernel
theorem test_length_differs : answer (.bankErase [2, 0, 0]) State.reset = (.refusedRange, .empty) := by decide +kernel

/-- "Reports lost and found": 16 reports, the last number 215, next 217, the flag set. -/
def fullReports : State :=
  let s := station .running
  s.setConsole { s.console with
    reports := (List.range 16).map fun i => { number := 200 + i, kind := .unknownBoard 5 }
    nextReport := 217, overflow := true }

theorem test_read_reports :
    let t := after (.readReports (framed [4] [])) fullReports
    t.console.reports.length = 12 ∧ t.console.overflow = true := by decide +kernel
theorem test_report_lost : (report (fullReports) (.unknownBoard 5)).console.nextReport = 218 := by decide +kernel
theorem test_response_bytes :
    (after (.unknownRequest 0x18 []) State.reset).console.response.bytes = [7, 0x18, 1, 0, 0] := by decide +kernel

/-- Section 0: serial 0 stands for "no board"; R188: the queue lengths, then the kinds at their fronts. -/
theorem test_no_board_has_serial_0 :
    (slotBytes none).take 4 = [0, 0, 0, 0] ∧ (loadBytes none).take 4 = [0, 0, 0, 0] := ⟨rfl, rfl⟩

theorem test_queue_lengths_stand_first (r : StatusReply) :
    (({ r with urgentCount := 2, normalCount := 5 } : StatusReply).lastBytes.drop 3).take 2 = [2, 5] := rfl

/-! ### Programs: "A load that aborts" -/

/-- Bank 1 loading one step of four, with a block of four open. -/
def loading : State :=
  let s := station .idle
  s.setStore { s.store with
    b1 := { state := .loading, programId := some 9, declared := 4, images := some (image 0) :: List.replicate 7 none,
            steps := [], abortCause := none }
    block := some { bank := .one, size := 4, steps := [] } }

/-- A STEP body: bank 1, an id, image 0, hole A at the origin, hole B at a distance on X, part 31, INWARD. -/
def stepBody (id : Byte) (span : Nat) : List Byte :=
  [1, 0, id, 0, 0, 0, 0, 0] ++ beBytes 2 span ++ [0, 0, 31, 0]

theorem test_step_passes : ((after (.stepRecord (framed (stepBody 7 401) [])) loading).store.block.map (·.steps)) =
    some [{ id := 7, image := 0, holes := ⟨0, 0, 401, 0⟩, part := 31, mode := .inward, span := 10 }] := by decide +kernel
theorem test_step_aborts : answer (.stepRecord (framed (stepBody 7 209) [])) loading = (.blockAborted, .aborted .one .span) := by
  decide +kernel

/-! ### Dispensers: "Escalation in one group" -/

/-- All four dispensers of group 3 READY. -/
def readyGroup : State :=
  let s := station .running
  s.setDisp { s.disp with records := s.disp.records.map fun r => { r with state := .ready, part := some 31 } }

/-- Fault count and state of dispenser 14, and the record of group 3. -/
def counts (s : State) : Nat × DispState × Group := ((dispAt s 14).faults, (dispAt s 14).state, groupAt s 3)

theorem test_escalation_fourth :
    counts (countFault (countFault (clearFaults (countFault (countFault readyGroup 14) 14) 14) 14) 14) =
      (2, .ready, ⟨4, true⟩) := by decide +kernel
theorem test_escalation_fifth :
    counts (countFault (countFault (countFault (clearFaults (countFault (countFault readyGroup 14) 14) 14) 14) 14) 14) =
      (3, .jammed, ⟨5, true⟩) := by decide +kernel
theorem test_reel_load_clears_jam :
    counts (after (.reelLoad (framed [14, 31, 0x07, 0xD0] []))
      (modDisp readyGroup 14 fun r => { r with state := .jammed, faults := 3 })) = (0, .ready, ⟨0, false⟩) := by decide +kernel

/-! ### Alarms: "The alarm list during a failing reel" -/

/-- The list at the start, at revolution 5312. -/
def oneNote : State :=
  let s := station .running
  (s.setJam { s.jam with
    alarms := [⟨40, .downstreamAbsent, .none, 5300, 1, true⟩], nextNumber := 41 }).setStroke { s.stroke with revCount := 5312 }

theorem test_note_added : ((enterAlarm oneNote .dropMiss (.dispenser 14)).jam.alarms.drop 1) =
    [⟨41, .dropMiss, .dispenser 14, 5312, 1, false⟩] := by decide +kernel
theorem test_note_counted :
    ((enterAlarm (enterAlarm oneNote .dropMiss (.dispenser 14)) .dropMiss (.dispenser 14)).jam.alarms.drop 1) =
      [⟨41, .dropMiss, .dispenser 14, 5312, 2, false⟩] := by decide +kernel

/-! ### The table: "A move held by the guard" and "Homing the table" -/

/-- The move of 600 steps just after step 300. -/
def moving : State :=
  let m : Motion := { tx := 4600, ty := 2650, state := .stepping, x := .profile true 600 301 200, y := .done true 0 0,
                      settle := none, ending := false }
  settledStation.setTable { settledStation.table with x := 4300, op := .move ⟨6101, 5, 7⟩ m }

theorem test_guard_brakes : ((after .guardOpen moving).table.op.motion.map fun m => (m.state, m.x)) =
    some (.decelerating, .stopping true 600 300 8 200) := by decide +kernel
theorem test_step_counts : (after (.axisStep .x) moving).table.x = 4301 := by decide +kernel
theorem test_held_move_runs_fresh : axisTime (rateTable record.rampX) 291 = 62312 := by decide +kernel

/-- HOME in Y's search phase with the counter at 911. -/
def homing : State :=
  let s := station .idle
  s.setTable { s.table with
    y := 911
    op := .home { HomeRun.waiting 4000000 with
      begun := true, x := { phase := .approach, interval := some 1000 }, y := { phase := .search, interval := some 5000 } } }

theorem test_home_index : (after (.indexMark .y) homing).table.phaseY = some 911 := by decide +kernel
theorem test_home_index_ignored : (after (.indexMark .x) homing).table.phaseX = none := by decide +kernel
theorem test_home_input : (after (.homeInput .x) homing).table.op.moveState = none ∧
    (after (.homeInput .x) homing).table.dirX = true := by decide +kernel
theorem test_index_slip : indexFails (moving.setTable { moving.table with x := 4379 }) .x = true ∧
    indexFails (moving.setTable { moving.table with x := 4376 }) .x = false := by decide +kernel

/-! ### The clean period: "The clean period over five revolutions" -/

/-- A revolution at its UP mark after a time, held or not. -/
def atUp (held : Bool) (elapsed : Nat) : State :=
  let s := station .ready
  (s.setStroke { s.stroke with
    shaft := .turning, rev := some ⟨.index, false, true, .up, .sensed, .notExpected, elapsed⟩ }).setPose
    { s.pose with holdMark := held, clean := some 301200 }

theorem test_clean_period : (after .restMark (atUp false 300000)).pose.clean = some 300000 := by decide +kernel
theorem test_held_period : (after .restMark (atUp true 349800)).pose.clean = some 301200 := by decide +kernel

end Sys2Proof.Tests
end

