-- ==== Sys2Proof/Tests/Witness.lean ====
section
/-! SUPPORT. For each statement with hypotheses, concrete states and operands that meet them together, clause by clause, at boundary
values of their ranges. A theorem's conjuncts follow the clauses of the statement it is named after. -/

namespace Sys2Proof.Tests

open Sys2Proof.Machine

set_option maxRecDepth 100000
set_option Elab.async false

/-! ### The port -/

theorem witness_StepRunsTheFrontCommand : ((station .idle).setPending [.lineIndex]).pending = .lineIndex :: [] := rfl

/-- The mark timeout has run out. -/
def overdue : State := (station .ready).setStroke { (station .ready).stroke with markTimer := some 0 }

theorem witness_EmptyQueueLetsTimePass :
    overdue.pending = [] ∧ due overdue = .markTimeoutExpiry :: [] ∧
    State.reset.pending = [] ∧ due State.reset = [] := by decide +kernel

/-- A station with a command waiting. -/
def waiting : State := (station .idle).setPending [.guardOpen]

theorem witness_EveryStepKeepsTheHoldLineRule : HoldInv waiting ∧ ∃ t, step waiting = .next t :=
  ⟨⟨by decide +kernel, fun _ => ⟨by decide +kernel, by decide +kernel⟩⟩, _, rfl⟩

theorem witness_ThePortRefusesMalformedAndUnconfiguredRequests :
    (Instr.bankErase []).request = some (0x16, 1, []) ∧
    ((Instr.bankErase [2, 0, 0]).request = some (0x16, 1, 2 :: [0, 0]) ∧ (2#8).toNat ≠ 1) ∧
    ((Instr.bankErase [1]).request = some (0x16, 1, 1 :: []) ∧ ([] : List Byte).length < (1#8).toNat) ∧
    ((Instr.home (framed [] [])).request = some (0x30, 0, framed [] []) ∧ (Instr.home (framed [] [])).needsSetup = true ∧
      State.reset.jam.run = .unconfigured) := by decide +kernel

theorem witness_EveryRequestIsAnsweredUnderItsCode : (Instr.readAlarms [0]).request = some (0x55, 0, [0]) := by decide

theorem witness_ARefusalChangesTheResponseAlone :
    (Instr.home [0]).request = some (0x30, 0, [0]) ∧ exec (.home [0]) State.reset = .next (after (.home [0]) State.reset) ∧
    (after (.home [0]) State.reset).console.response.result.refuses = true :=
  ⟨by decide, rfl, by decide +kernel⟩

theorem witness_OnlyTheOwnersChangeStoreSetupAndResponse :
    exec .lineIndex State.reset = .next (after .lineIndex State.reset) ∧ Instr.lineIndex ≠ .pinReset ∧
    Instr.lineIndex.ofStore = false ∧ (∀ b, Instr.lineIndex ≠ .setup b) ∧ Instr.lineIndex.request = none ∧
    ∀ n b, Instr.lineIndex ≠ .unknownRequest n b :=
  ⟨rfl, by decide, by decide, fun _ h => (by cases h), by decide, fun _ _ h => (by cases h)⟩

theorem witness_SetupConfiguresTheBlocks :
    (setupBody.length = 131 ∧ State.reset.jam.run = .unconfigured ∧ parseSetup setupBody = some record) ∧
    ((List.replicate 131 (0 : Byte)).length = 131 ∧ parseSetup (List.replicate 131 0) = none) ∧
    (station .idle).jam.run ≠ .unconfigured := by decide +kernel

/-- A CURRENT board of serial 6101 bound to bank 1, its one own item in a state. -/
def board (st : OwnState) : Context :=
  { Context.created 6101 (some 9) 5 0 with
    bank := some .one, state := .current, pairing := .settled, own := [{ state := st, retries := 0 }] }

/-- The bank of that board. -/
def bank (st : BankState) : Bank :=
  { state := st, programId := some 9, declared := 1, images := some (image 0) :: List.replicate 7 none,
    steps := [{ id := 7, image := 0, holes := ⟨0, 0, 401, 0⟩, part := 31, mode := .inward, span := 10 }], abortCause := none }

/-- A station with a context in slot 0, its bank READY. -/
def withBoard (c : Context) (s : State) : State :=
  (s.setStore (s.store.setBank .one (bank .ready))).setBoards { s.boards with slots := [some c, none, none, none, none] }

/-- The station with the board. -/
def loaded (run : RunState) : State := withBoard (board .inChain) (station run)

/-- What holds of the context in each slot holds of every context that is read. -/
theorem each_context {P : Context → Prop} {s : State} (h : ∀ o ∈ s.boards.slots, ∀ c ∈ o, P c) :
    ∀ i c, ctxAt s i = some c → P c := by
  intro i c e
  rw [ctxAt, List.getD_eq_getElem?_getD] at e
  cases g : s.boards.slots[i]? with
  | none => simp [g] at e
  | some o => exact h o (List.mem_of_getElem? g) c (by simpa [g] using e)

/-- What holds of each clip of the plan, with its position, holds of every live clip that is read. -/
theorem each_live {P : Nat → ClipItem → Prop} {s : State}
    (h : ∀ p < s.chain.clips.length, ∀ i ∈ (clipAt s p).live, P p i) : ∀ p i, (clipAt s p).live = some i → P p i := by
  intro p i e
  by_cases hp : p < s.chain.clips.length
  · exact h p hp i e
  · rw [clipAt, List.getD_eq_default _ _ (by omega)] at e
    cases e

/-- The board with its item in a state, live in the clip at position 3, and a command waiting. -/
def lawful (st : OwnState) : State :=
  let s := withBoard (board st) (station .running)
  (s.setChain { s.chain with
    clips := s.chain.clips.set 3 (.planned ⟨⟨6101, 5, 7⟩, 0, 14, ⟨3200, 2300, .east, 10, .inward⟩, .own⟩)
    purgeRequired := false }).setPending [.guardOpen]

/-- Its storage has its shape. -/
theorem lawful_shape : Shape (lawful .inChain) := by
  constructor
  case contexts => exact each_context (by decide +kernel)
  case banks => intro b; cases b <;> decide +kernel
  case block => intro ob h; cases h
  case toSized =>
    constructor
    case configured => exact ⟨fun h => (by cases h), fun h => (by cases h)⟩
    all_goals decide +kernel
  all_goals decide +kernel

/-- The laws of the chapters hold of it. -/
theorem lawful_laws : Lawful (lawful .inChain) := by
  constructor
  case bound =>
    intro i c b h hb
    exact each_context (P := fun c => ∀ b ∈ c.bank, ((lawful .inChain).store.bank b).state = .ready)
      (by decide +kernel) i c h b hb
  case liveOnce =>
    intro p q i j hp hq _
    have at3 : ∀ p i, (clipAt (lawful .inChain) p).live = some i → p = 3 := each_live (by decide +kernel)
    rw [at3 p i hp, at3 q j hq]
  case counters => intro ax; cases ax <;> decide +kernel
  case poses => exact each_live (P := fun _ i => _) (by decide +kernel)
  case travels => intro c h; cases h; decide +kernel
  case idle => intro h; cases h
  case operation => decide +kernel
  case untouched => exact each_context (by decide +kernel)
  case jaws => intro k b p f o h; cases h

theorem witness_EveryStepKeepsTheShapeOfTheStorage :
    (Shape (lawful .inChain) ∧ Lawful (lawful .inChain) ∧ ∃ t, step (lawful .inChain) = .next t) ∧
    ∃ t, step (lawful .inserted) = .next t ∧ ctxAt (lawful .inserted) 0 = some (board .inserted) ∧
      ctxAt t 0 = some (board .inserted) ∧ ((board .inserted).state = .expected → (board .inserted).untouched = true) ∧
      (board .inserted).serial ≠ 0 ∧ (board .inserted).noProgram = false ∧
      (board .inserted).ownState 0 = some .inserted :=
  ⟨⟨lawful_shape, lawful_laws, _, rfl⟩, after .guardOpen (lawful .inserted |>.setPending []), rfl, by decide +kernel,
    by decide +kernel, by decide +kernel, by decide +kernel, by decide +kernel, by decide +kernel⟩

theorem witness_SnapshotsAreReadWithoutChange :
    ((63#8).toNat ≤ 63 ∧ (dispAt State.reset (63#8).toNat).state ≠ .absent) ∧ 63 < (64#8).toNat ∧
    ((63#8).toNat ≤ 63 ∧ (dispAt (station .idle) (63#8).toNat).state = .absent) ∧
    (([0, 0, 0x17, 0xD5] : List Byte).length = 4 ∧ boardToRead (loaded .ready) (at32 [0, 0, 0x17, 0xD5] 0) = some 0 ∧
      ctxAt (loaded .ready) 0 = some (board .inChain)) ∧
    boardToRead (loaded .ready) (at32 [0, 0, 0, 0] 0) = none := by decide +kernel

theorem witness_ReadReportsHandsOutTheOldest :
    (1 ≤ (1#8).toNat ∧ (1#8).toNat ≤ 16) ∧ (1 ≤ (16#8).toNat ∧ (16#8).toNat ≤ 16) ∧ (0#8).toNat = 0 ∧ 16 < (17#8).toNat := by
  decide

/-! ### The program store -/

/-- A BANK_OPEN body: bank 1, a program id, 512 steps, image 0 present. -/
def openBody (id : Nat) : List Byte :=
  [1] ++ beBytes 2 id ++ beBytes 2 512 ++ [1] ++ beBytes 2 1000 ++ beBytes 2 800 ++ [0] ++ List.replicate 42 0

/-- The image table of that body. -/
def openImages : List (Option Image) := some (image 0) :: List.replicate 7 none

/-- Bank 1 in a state, no board held. -/
def banked (st : BankState) : State := (station .idle).setStore ((station .idle).store.setBank .one (bank st))

/-- Bank 1 EMPTY, program 9 READY in bank 0. -/
def idElsewhere : State := (banked .empty).setStore ((banked .empty).store.setBank .zero (bank .ready))

theorem witness_BankOpenRefusesABadRange :
    ((2 :: (openBody 9).drop 1).length = 53 ∧ 1 < at8 (2 :: (openBody 9).drop 1) 0) ∧
    ((openBody 0).length = 53 ∧ at8 (openBody 0) 0 ≤ 1 ∧ (banked .ready).store.block = none ∧ at16 (openBody 0) 1 = 0) ∧
    at16 (0 :: beBytes 2 9 ++ beBytes 2 0) 3 = 0 ∧ 512 < at16 (0 :: beBytes 2 9 ++ beBytes 2 513) 3 ∧
    parseImages ((openBody 9).take 5 ++ List.replicate 48 2) = none ∧
    parseImages ((openBody 9).take 5 ++ List.replicate 48 0) = some (List.replicate 8 none) := by decide +kernel

theorem witness_BankOpenStartsALoad :
    (inUse idElsewhere .one = false ∧ (idElsewhere.store.bank .one).state = .empty ∧
      (idElsewhere.store.bank BankId.one.other).state = .ready ∧
      (idElsewhere.store.bank BankId.one.other).programId = some (at16 (openBody 9) 1) ∧
      (idElsewhere.store.bank BankId.one.other).programId ≠ some (at16 (openBody 10) 1)) ∧
    ((openBody 65535).length = 53 ∧ bankOfNat (at8 (openBody 65535) 0) = some .one ∧ (banked .ready).store.block = none ∧
      parseImages (openBody 65535) = some openImages ∧ openImages.any Option.isSome = true ∧
      1 ≤ at16 (openBody 65535) 1 ∧ 1 ≤ at16 (openBody 65535) 3 ∧ at16 (openBody 65535) 3 ≤ 512) ∧
    (inUse (banked .ready) .one = false ∧ ((banked .ready).store.bank .one).state = .ready ∧
      ((banked .ready).store.bank BankId.one.other).state = .empty) ∧
    ((loaded .ready).store.block = none ∧ inUse (loaded .ready) .one = true) ∧
    (inUse (banked .aborted) .one = false ∧ ((banked .aborted).store.bank .one).state = .aborted) := by decide +kernel

/-- Bank 1 LOADING with one step of 33 committed and no block open. -/
def partLoaded : State :=
  (banked .loading).setStore ((banked .loading).store.setBank .one { bank .loading with declared := 33 })

theorem witness_BlockBeginOpensABlock :
    bankOfNat (1#8).toNat = some .one ∧
    ((banked .ready).store.block = none ∧ ((banked .ready).store.bank .one).state ≠ .loading) ∧
    (partLoaded.store.block = none ∧ (partLoaded.store.bank .one).state = .loading ∧ (0#8).toNat = 0 ∧ 32 < (33#8).toNat) ∧
    (1 ≤ (1#8).toNat ∧ (1#8).toNat ≤ 32 ∧ ((banked .loading).store.bank .one).state = .loading ∧
      ((banked .loading).store.bank .one).declared < ((banked .loading).store.bank .one).steps.length + (1#8).toNat) ∧
    ((32#8).toNat ≤ 32 ∧
      (partLoaded.store.bank .one).steps.length + (32#8).toNat ≤ (partLoaded.store.bank .one).declared) ∧
    loading.store.block = some { bank := .one, size := 4, steps := [] } := by decide +kernel

/-- A block of one step that is full. -/
def fullBlock : State :=
  loading.setStore { loading.store with block := some { bank := .one, size := 1, steps := (bank .ready).steps } }

theorem witness_StepJoinsTheOpenBlock :
    ((stepBody 7 401).length = 14 ∧ bankOfNat (at8 (stepBody 7 401) 0) = some .one) ∧
    (banked .loading).store.block = none ∧
    (loading.store.block = some { bank := .one, size := 4, steps := [] } ∧ BankId.one ≠ .zero ∧
      bankOfNat (at8 (0 :: (stepBody 7 401).drop 1) 0) = some .zero) ∧
    (fullBlock.store.block = some { bank := .one, size := 1, steps := (bank .ready).steps } ∧
      (bank .ready).steps.length = 1) ∧
    stepDefect (loading.store.bank .one) [] (parseStep (stepBody 7 209)) = some .span ∧
    stepDefect (loading.store.bank .one) [] (parseStep (stepBody 7 401)) = none ∧
    stepDefect (loading.store.bank .one) [] (parseStep (stepBody 7 1044)) = none := by decide +kernel

/-- Bank 1 with every declared step committed. -/
theorem witness_BlockCommitAppendsTheBlock :
    (exec (.bankClose (framed [1] [])) (banked .loading) = .next (after (.bankClose (framed [1] [])) (banked .loading)) ∧
      ((banked .loading).store.bank .one).state ≠ .ready ∧
      ((after (.bankClose (framed [1] [])) (banked .loading)).store.bank .one).state = .ready) ∧
    bankOfNat (1#8).toNat = some .one ∧ (banked .loading).store.block = none ∧
    (loading.store.block = some { bank := .one, size := 4, steps := [] } ∧ ([] : List StepRecord).length < 4) ∧
    (fullBlock.store.block = some { bank := .one, size := 1, steps := (bank .ready).steps } ∧
      (bank .ready).steps.length = 1) :=
  ⟨⟨rfl, by decide +kernel, by decide +kernel⟩, by decide, by decide +kernel, by decide +kernel, by decide +kernel⟩

/-- An EXPECTED context that waits for the bank of a program, PLAN_CLOSED or not. -/
def awaitsBank (serial programId : Nat) (closed : Bool) : Context :=
  { Context.created serial (some programId) 4 0 with noProgram := true, planClosed := closed }

/-- The CURRENT board, two contexts that wait for program 9, one of them PLAN_CLOSED, and one that waits for program 10. -/
def expecting : State :=
  (banked .loading).setBoards { (banked .loading).boards with
    slots := [some (board .pending), some (awaitsBank 6102 9 false), some (awaitsBank 6103 9 true),
              some (awaitsBank 6104 10 false), none] }

theorem witness_BankCloseMakesTheBankReady :
    (bankOfNat (1#8).toNat = some .one ∧ expecting.store.block = none) ∧
    ((banked .ready).store.bank .one).state ≠ .loading ∧
    ((partLoaded.store.bank .one).state = .loading ∧
      (partLoaded.store.bank .one).steps.length < (partLoaded.store.bank .one).declared) ∧
    ((expecting.store.bank .one).state = .loading ∧
      (expecting.store.bank .one).steps.length = (expecting.store.bank .one).declared) ∧
    (∀ i ∈ [1, 2], ctxAt expecting i = some (awaitsBank (6101 + i) 9 (i == 2)) ∧
      (awaitsBank (6101 + i) 9 (i == 2)).state = .expected ∧ (awaitsBank (6101 + i) 9 (i == 2)).noProgram = true ∧
      (expecting.store.bank .one).programId = some 9 ∧ (awaitsBank (6101 + i) 9 (i == 2)).programId = some 9 ∧
      (awaitsBank (6101 + i) 9 (i == 2)).planClosed = (i == 2)) ∧
    (ctxAt expecting 0 = some (board .pending) ∧ (board .pending).state ≠ .expected) ∧
    ((banked .loading).store.block = none ∧ ∀ o ∈ (banked .loading).boards.slots, o = none) ∧
    (ctxAt expecting 3 = some (awaitsBank 6104 10 false) ∧
      (awaitsBank 6104 10 false).programId ≠ (expecting.store.bank .one).programId) := by decide +kernel

theorem witness_BankClearAbortEmptiesAnAbortedBank :
    ((banked .aborted).store.block = none ∧ ((banked .aborted).store.bank .one).state = .aborted) ∧
    ((banked .loading).store.block = none ∧ ((banked .loading).store.bank .one).state ≠ .aborted) ∧
    loading.store.block = some { bank := .one, size := 4, steps := [] } ∧
    ((openBody 1).length = 53 ∧ at8 (openBody 1) 0 = (1#8).toNat ∧ inUse (banked .aborted) .one = false ∧
      parseImages (openBody 1) = some openImages ∧ openImages.any Option.isSome = true ∧ 1 ≤ at16 (openBody 1) 1 ∧
      1 ≤ at16 (openBody 1) 3 ∧ at16 (openBody 1) 3 ≤ 512) := by decide +kernel

theorem witness_BankEraseAndTheOpenBlock :
    (bankOfNat (1#8).toNat = some .one ∧ (banked .aborted).store.block = none ∧
      ((banked .aborted).store.bank .one).state = .aborted ∧ ((banked .ready).store.bank .one).state = .ready ∧
      inUse (banked .ready) .one = false) ∧
    ((loaded .ready).store.block = none ∧ ((loaded .ready).store.bank .one).state = .ready ∧
      inUse (loaded .ready) .one = true) ∧
    ((banked .empty).store.bank .one).state = .empty ∧
    (loading.store.block = some { bank := .one, size := 4, steps := [] } ∧ (openBody 1).length = 53 ∧
      at8 (openBody 1) 0 = (1#8).toNat) := by decide +kernel

theorem witness_PartEntryWritesOneEntry :
    (([255, 0, 9, 9, 0, 0, 0, 0] : List Byte).length = 8 ∧ 1 ≤ at8 [255, 0, 9, 9, 0, 0, 0, 0] 0 ∧
      at8 [255, 0, 9, 9, 0, 0, 0, 0] 1 = 0) ∧
    (partKindOf (at8 [1, 1, 1, 7, 0, 5, 0, 5] 2) = some .polar ∧ at8 [1, 1, 1, 7, 0, 5, 0, 5] 3 ≤ 7 ∧
      at16 [1, 1, 1, 7, 0, 5, 0, 5] 4 ≤ at16 [1, 1, 1, 7, 0, 5, 0, 5] 6) ∧
    (at8 [0, 1, 0, 0, 0, 0, 0, 0] 0 = 0 ∧ 1 < at8 [1, 2, 0, 0, 0, 0, 0, 0] 1 ∧ partKindOf (at8 [1, 1, 3, 0, 0, 0, 0, 0] 2) = none ∧
      7 < at8 [1, 1, 0, 8, 0, 0, 0, 0] 3 ∧ at16 [1, 1, 0, 0, 0, 6, 0, 5] 6 < at16 [1, 1, 0, 0, 0, 6, 0, 5] 4) := by
  decide +kernel

/-! ### Dispensers and the chain -/

/-- Dispenser 14 in a state, the others UNLOADED or ABSENT. -/
def dispenser (run : RunState) (st : DispState) (part : Option Nat) : State :=
  modDisp (station run) 14 fun r => { r with state := st, part := part }

theorem witness_ReelLoadAndReleaseGroup :
    (station .idle).jam.run ≠ .unconfigured ∧
    (([14, 1, 0, 9] : List Byte).length = 4 ∧ at8 [14, 1, 0, 9] 0 ≤ 63 ∧ 1 ≤ at8 [14, 1, 0, 9] 1 ∧
      (dispAt (dispenser .running .ready none) 14).state = .ready ∧ (dispenser .running .ready none).jam.run = .running ∧
      (dispAt (dispenser .running .service none) 14).state ≠ .ready) ∧
    (63 < at8 [64, 1, 0, 9] 0 ∧ at8 [63, 0, 0, 9] 1 = 0) ∧ (15#8).toNat ≤ 15 ∧ 15 < (16#8).toNat := by decide +kernel

theorem witness_ServiceAndLockChangeTheState :
    (dispAt (dispenser .ready .jammed (some 31)) (14#8).toNat).state ∈ [DispState.unloaded, .ready, .out, .jammed] ∧
    (dispAt (dispenser .ready .locked (some 31)) (14#8).toNat).state ∈ [DispState.service, .locked] ∧
    (dispAt (dispenser .ready .unloaded none) (14#8).toNat).state ∈ [DispState.unloaded, .ready, .out] ∧
    (dispAt (dispenser .ready .jammed (some 31)) (14#8).toNat).state ∈ [DispState.service, .locked, .jammed] ∧
    (dispAt (dispenser .ready .locked none) (14#8).toNat).state = .locked ∧
    (dispAt (station .idle) (63#8).toNat).state ≠ .locked ∧ (63#8).toNat ≤ 63 ∧
    (dispAt (station .idle) (63#8).toNat).state = .absent := by decide +kernel

theorem witness_ServiceEndReturnsADispenser :
    (dispAt (dispenser .ready .jammed (some 31)) (14#8).toNat).state = .jammed ∧
    (dispAt (dispenser .ready .service none) (14#8).toNat).state = .service ∧
    ((dispAt (station .idle) (63#8).toNat).state ≠ .service ∧ (dispAt (station .idle) (63#8).toNat).state ≠ .jammed) := by
  decide +kernel

theorem witness_TapeEndRecordsTheLevel :
    (dispenser .running .ready (some 31)).disp.records.length = 64 ∧
    (dispAt (dispenser .running .ready (some 31)) (14 : Fin 64).val).state = .ready ∧
    (dispAt (dispenser .running .ready (some 31)) (63 : Fin 64).val).state ≠ .ready := by decide +kernel

/-- An item of the board for dispenser 14. -/
def item : ClipItem :=
  { key := ⟨6101, 5, 7⟩, board := 0, disp := 14, pose := ⟨3200, 2300, .east, 10, .inward⟩, origin := .own }

/-- The board's station with a clip at a position. -/
def clipped (run : RunState) (p : Nat) (c : Clip) : State :=
  setClip ((loaded run).setChain { (loaded run).chain with purgeRequired := false }) p c

/-- The same with the drop into that clip outstanding, and the verifier enabled or not. -/
def dropping (verifier : Bool) (p : Nat) (c : Clip) : State :=
  let s := modDisp (clipped .running p c) 14 fun r => { r with outstanding := some p }
  s.setConsole { s.console with setup := some { record with verifier := verifier } }

theorem witness_DropConfirmEndsTheDrop :
    ((dispAt (dropping true 18 (.planned item)) (14 : Fin 64).val).outstanding = some 18 ∧
      clipAt (dropping true 18 (.planned item)) 18 = .planned item ∧ (cfg (dropping true 18 (.planned item))).verifier = true) ∧
    (clipAt (dropping false 18 (.planned item)) 18 = .planned item ∧ (cfg (dropping false 18 (.planned item))).verifier = false) ∧
    clipAt (dropping true 18 (.surplus none none none none)) 18 = .surplus none none none none ∧
    (let s := modDisp (clipped .running 18 .empty) 14 fun r => { r with missed := some 18 }
     (dispAt s (14 : Fin 64).val).outstanding = none ∧ (dispAt s (14 : Fin 64).val).missed = some 18 ∧
      clipAt s 18 = .empty) ∧
    ((dispAt State.reset (63 : Fin 64).val).outstanding = none ∧ (dispAt State.reset (63 : Fin 64).val).missed = none) := by
  decide +kernel

/-- A measurement of a part of a kind in flight with tag 5, class 3 and the window 400 to 600. -/
def measuring (k : PartKind) : State :=
  let s := clipped .running 3 (.loaded item)
  s.setChain { s.chain with measurement := some ⟨⟨6101, 5, 7⟩, 3, 14, ⟨k, 3, 400, 600⟩, 5⟩ }

/-- A result word: tag 5, class 3, a sense and a value. -/
def result (sense : BitVec 2) (value : BitVec 16) : List Bool := bits 24 ((5#3 ++ 3#3 ++ sense ++ value).setWidth 24)

theorem witness_AVerifyWordJudgesTheClip :
    ((cfg (measuring .polar)).verifier = true ∧
      (measuring .polar).chain.measurement = some ⟨⟨6101, 5, 7⟩, 3, 14, ⟨.polar, 3, 400, 600⟩, 5⟩ ∧
      parseVerifyWord (result 2 600) = some { tag := 5, cls := 3, sense := .reverse, value := 600 } ∧
      clipAt (measuring .polar) 3 = .loaded item ∧ item.key = ⟨6101, 5, 7⟩) ∧
    parseVerifyWord (result 1 400) = some { tag := 5, cls := 3, sense := .forward, value := 400 } ∧
    (parseVerifyWord (result 0 601) = some { tag := 5, cls := 3, sense := .none, value := 601 } ∧
      parseVerifyWord (result 0 399) = some { tag := 5, cls := 3, sense := .none, value := 399 } ∧
      parseVerifyWord (result 0 500) = some { tag := 5, cls := 3, sense := .none, value := 500 } ∧
      item.disp / 4 < (measuring .nonpolar).disp.groups.length) ∧
    ((station .idle).chain.measurement = none ∧ (cfg (dropping false 3 .empty)).verifier = false ∧
      parseVerifyWord (result 3 0) = none) := by decide +kernel

/-! ### Table, actuators and guard -/

/-- The guard open. -/
def guarded (s : State) : State := s.setInputs { s.inputs with guardOpen := true }

theorem witness_HomeBeginsOrWaitsForTheGuard :
    ((station .running).jam.run ≠ .idle ∧ (station .running).jam.run ≠ .ready ∧ tableBusy homing = true) ∧
    ((guarded (station .idle)).jam.run = .idle ∧ tableBusy (guarded (station .idle)) = false ∧
      (guarded (station .idle)).inputs.guardOpen = true) ∧
    ((station .ready).jam.run = .ready ∧ tableBusy (station .ready) = false ∧ (station .ready).inputs.guardOpen = false ∧
      (station .ready).inputs.homeX = false ∧ (station .ready).inputs.homeY = false) := by decide +kernel

/-- The settled station in READY. -/
def readyStation : State := settledStation.setJam { settledStation.jam with run := .ready }

/-- A JOG body: X, a target, the check option set. -/
def jogBody (target : Nat) : List Byte := [0] ++ beBytes 2 target ++ [1]

theorem witness_JogStartsTowardItsTarget :
    ((jogBody 10000).length = 4 ∧ readyStation.jam.run ≠ .unconfigured ∧ axisOf (at8 (jogBody 10000) 0) = some .x ∧
      flagOf (at8 (jogBody 10000) 3) = some true) ∧
    travel readyStation .x < at16 (jogBody 10001) 1 ∧
    (at16 (jogBody 10000) 1 ≤ travel settledStation .x ∧ settledStation.jam.run ≠ .ready ∧ settledStation.jam.run ≠ .halted ∧
      tableBusy moving = true) ∧
    (at16 (jogBody 10000) 1 ≤ travel readyStation .x ∧ readyStation.jam.run = .ready ∧ tableBusy readyStation = false ∧
      readyStation.table.homeValid = true ∧ (readyStation.table.phase .x).isSome = true ∧
      (guarded readyStation).inputs.guardOpen = true ∧ readyStation.inputs.guardOpen = false ∧
      readyStation.table.counter .x ≠ at16 (jogBody 10000) 1) := by decide +kernel

/-- A motion along X with an interval of its profile running. -/
def running : Motion :=
  { tx := 4600, ty := 2650, state := .stepping, x := .profile true 600 301 200, y := .done true 0 0, settle := none,
    ending := false }

/-- The approach of HOME on X and its search on Y. -/
def homeRun : HomeRun :=
  { HomeRun.waiting 4000000 with
    begun := true, x := { phase := .approach, interval := some 1000 }, y := { phase := .search, interval := some 5000 } }

theorem witness_AxisStepsMoveTheCounter :
    (moving.table.op.motion = some running ∧ running.steps .x = true) ∧
    ((running.axis .x).next (ratesOf moving .x)).isDone = false ∧
    (homing.table.op = .home homeRun ∧ (homeRun.axis .x).phase = .approach ∧ (homeRun.axis .x).interval.isSome = true) ∧
    ((homeRun.axis .y).phase = .search ∧ (homeRun.axis .y).interval.isSome = true) ∧
    settledStation.table.op = .none := by decide +kernel

/-- A motion that settles at the worked move's target. -/
def settling : Motion := { running with x := .done true 600 0, state := .settling, settle := some 0 }

/-- The station with a table operation. -/
def withOp (op : Operation) (s : State) : State := s.setTable { s.table with op := op }

theorem witness_SettleExpiryCompletesTheMotion :
    ((withOp (.move ⟨6101, 5, 7⟩ settling) settledStation).table.op = .move ⟨6101, 5, 7⟩ settling ∧
      settling.state = .settling ∧ settling.settle.isSome = true) ∧
    (withOp (.jog .x false settling) readyStation).table.op = .jog .x false settling ∧
    ∀ m, moving.table.op.motion = some m → m.state ≠ .settling :=
  ⟨by decide +kernel, by decide +kernel, fun _ h => by cases h; decide⟩

/-- HOME with everything done but Y's search. -/
def lastSearch : HomeRun :=
  { homeRun with
    x := { phase := .ended, interval := none }, bearingDone := true, headSpanDone := true, clinchSpanDone := true
    clinchModeDone := true }

/-- The table three steps from where its X phase puts the index mark. -/
def slipped : State := settledStation.setTable { settledStation.table with x := 4379 }

theorem witness_IndexMarksAndHomeInputs :
    (settledStation.table.phase .x = some 280 ∧ (4378 + 0) % 1024 = (280 + 2) % 1024 ∧
      (settledStation.setTable { settledStation.table with x := 4378 }).table.counter .x = 4378 ∧
      ∀ h, settledStation.table.op ≠ .home h) ∧
    (slipped.table.homeValid = true ∧ slipped.table.phase .x = some 280 ∧ (∀ a c m, slipped.table.op ≠ .jog a c m) ∧
      slipped.table.counter .x = 4379 ∧ (∀ d, d ≤ 2 → (4379 + d) % 1024 ≠ 280 ∧ (280 + d) % 1024 ≠ 4379 % 1024) ∧
      slipped.jam.run ≠ .unconfigured ∧ slipped.jam.run ≠ .halting ∧ slipped.jam.run ≠ .halted ∧
      slipped.jam.alarms.length < 16) ∧
    (homing.table.op = .home homeRun ∧ (homeRun.axis .y).phase = .search ∧ homing.table.homeValid = false ∧
      (homeRun.setAxis .y { phase := .ended, interval := none }).finished = false) ∧
    (∀ h ∈ [lastSearch, lastSearch.setAxis .y { phase := .atTravel, interval := none }],
      (withOp (.home h) homing).table.op = .home h ∧
      ((h.axis .y).phase = .search ∨ (h.axis .y).phase = .atTravel) ∧ (withOp (.home h) homing).table.homeValid = false ∧
      (h.setAxis .y { phase := .ended, interval := none }).finished = true) ∧
    (homeRun.begun = true ∧ (homeRun.axis .x).phase = .approach ∧ homing.inputs.index .x = false) ∧
    ∀ h, settledStation.table.op ≠ .home h :=
  ⟨⟨by decide +kernel, by decide +kernel, by decide +kernel, fun _ h => by cases h⟩,
    ⟨by decide +kernel, by decide +kernel, fun _ _ _ h => (by cases h), by decide +kernel⟩, by decide +kernel,
    by decide +kernel, by decide +kernel, fun _ h => by cases h⟩

/-- An actuator SETTING to a value with its timer running. -/
def setting (a : Actuator) (v : Nat) (s : State) : State :=
  setActuator s a { setting := some v, timer := some 0, standsAt := none }

theorem witness_AnInPositionReportEndsTheSetting :
    (((setting .headSpan 10 settledStation).stroke.act .headSpan).setting = some 10 ∧
      ∀ h, (setting .headSpan 10 settledStation).table.op ≠ .home h) ∧
    (((setting .bearing 1 readyStation).stroke.act .bearing).setting = some 1 ∧
      producing (setting .bearing 1 readyStation) = false) ∧
    (settledStation.stroke.act .clinchMode).setting = none :=
  ⟨⟨by decide +kernel, fun _ h => (by cases h)⟩, by decide +kernel, by decide +kernel⟩

/-- A MOVE held by the guard. -/
def heldMotion : Motion := { running with state := .held, x := .done true 600 291 }

theorem witness_TheGuardStopsAndResumesMotion :
    (guarded settledStation).inputs.guardOpen = true ∧ settledStation.inputs.guardOpen = false ∧
    (∀ m, settledStation.table.op.motion = some m → m.state ≠ .stepping) ∧
    (moving.table.op.motion = some running ∧ running.state = .stepping ∧ moving.inputs.guardOpen = false) ∧
    ((guarded settledStation).table.op = .none ∧ (guarded settledStation).stroke.restoreHeld = false) ∧
    (let s := guarded (withOp (.move ⟨6101, 5, 7⟩ heldMotion) settledStation)
     s.inputs.guardOpen = true ∧ s.table.op.motion = some heldMotion ∧ heldMotion.state = .held ∧
      (freshMotion s heldMotion.tx heldMotion.ty).x.isDone = false) :=
  ⟨by decide +kernel, by decide +kernel, fun _ h => (by cases h), by decide +kernel, by decide +kernel, by decide +kernel⟩

/-- The revolution record with the last mark taken. -/
def rev (k : RevKind) (last : Mark) : Revolution := ⟨k, k == .insert, false, last, .notExpected, .notExpected, 0⟩

/-- A shaft that turns in a revolution. -/
def turning (r : Revolution) (s : State) : State := s.setStroke { s.stroke with shaft := .turning, rev := some r }

/-- Fifteen NOTE entries. -/
def notes : List AlarmEntry := (List.range 15).map fun n => ⟨n + 1, .dropMiss, .dispenser n, 0, 1, true⟩

/-- A list with its last place free. -/
def listed (s : State) : State := s.setJam { s.jam with alarms := notes }

/-- A transfer with its limit running. -/
def transfer (departs arrived : Bool) : Transfer :=
  { departs := departs, expected := false, exited := false, arrived := arrived, limit := some 0, jammed := false }

/-- A station with a transfer. -/
def withTransfer (x : Transfer) (s : State) : State := s.setBoards { s.boards with transfer := some x }

/-- The jaws hold the board's item. -/
def inJaws (s : State) : State :=
  s.setStroke { s.stroke with jaw := .item item.key (some 0) item.pose false .own }

theorem witness_ExpiriesRaiseTheirStopAlarms :
    (let s := listed (overdue.setStroke { (turning (rev .index .drop) overdue).stroke with markTimer := some 0 })
     s.jam.alarms.length < 16 ∧ s.jam.run = .ready ∧ s.stroke.markTimer.isSome = true ∧ s.stroke.shaft = .turning ∧
      s.stroke.rev.isSome = true) ∧
    (let s := overdue.setStroke { overdue.stroke with shaft := .restoring }
     s.stroke.markTimer.isSome = true ∧ s.stroke.shaft = .restoring) ∧
    (let s := (station .running).setStroke { (station .running).stroke with chainTimer := some 0 }
     s.jam.alarms.length < 16 ∧ s.jam.run = .running ∧ s.stroke.chainTimer.isSome = true) ∧
    (let s := setting .headSpan 10 (station .stopping)
     s.jam.run = .stopping ∧ (s.stroke.act .headSpan).timer.isSome = true) ∧
    (let s := inJaws ((station .running).setStroke { (station .running).stroke with gateTimer := some 0 })
     s.stroke.gateTimer.isSome = true ∧ s.stroke.jaw = .item item.key (some 0) item.pose false .own ∧
      tableAt s item.pose = false) ∧
    (homing.jam.run = .idle ∧ homing.table.op = .home homeRun ∧ homeRun.limit.isSome = true ∧
      homing.inputs.guardOpen = false) ∧
    (let s := withTransfer (transfer true false) (station .running)
     s.boards.transfer = some (transfer true false) ∧ limitRuns s = true) ∧
    ((station .idle).stroke.markTimer = none ∧ (station .idle).stroke.chainTimer = none ∧
      ((station .idle).stroke.act .bearing).timer = none ∧ (station .idle).stroke.gateTimer = none) := by decide +kernel

/-! ### The revolution -/

/-- A RUNNING station at REST with its board clamped, a clip at the head, and a positioning record for the item. -/
def atHead (purge : Bool) (p0 : Clip) (left : Nat) : State :=
  let s := clipped .running 0 p0
  let s := s.setChain { s.chain with purgeRequired := purge }
  let s := s.setBoards { s.boards with clampOut := true }
  let s := s.setInputs { s.inputs with clampClosed := true }
  let s := s.setStroke { s.stroke with shaft := .atRest }
  s.setPose { s.pose with
    clean := some 300000
    positioning := some { clip := some item.key, pose := some item.pose, tx := 3200, ty := 2300, tp := left, r := left, atUp := false } }

/-- The same with the item MADE_UP at station 6. -/
def madeUp : State :=
  modCtx (atHead false (.verified item true) 150000) 0 fun c =>
    { c with ownRun := [{ item := itemOn 0 ⟨0, 0, 401, 0⟩, state := .madeUp 6 }] }

theorem witness_RevolutionsStartWithTheirKind :
    mayStart (station .running) = false ∧
    (mayStart (atHead true .empty 0) = true ∧ (atHead true .empty 0).chain.purgeRequired = true) ∧
    (mayStart (atHead false (.loaded item) 0) = true ∧ (atHead false (.loaded item) 0).chain.purgeRequired = false ∧
      insertClip (atHead false (.loaded item) 0) = none) ∧
    (let s := atHead false (.verified item true) 150000
     mayStart s = true ∧ s.chain.purgeRequired = false ∧ insertClip s = some (item, true) ∧
      startTest s item true = true ∧ madeUpElsewhere s item.key = false) ∧
    (let s := atHead false (.verified item true) 150001
     mayStart s = true ∧ s.chain.purgeRequired = false ∧ insertClip s = some (item, true) ∧
      startTest s item true = false) ∧
    (mayStart madeUp = true ∧ madeUp.chain.purgeRequired = false ∧ insertClip madeUp = some (item, true) ∧
      startTest madeUp item true = true ∧ madeUpElsewhere madeUp item.key = true) := by decide +kernel

/-- A restoring turn with the last mark taken. -/
def restoring (last : Option Mark) : State :=
  let s := station .running
  s.setStroke { s.stroke with shaft := .restoring, restoreLast := last }

theorem witness_RestoringTurnsBeginNoWork :
    (mayRestore (station .running) = true ∧ mayRestore (station .stopping) = false) ∧
    (restoreTakes (restoring none) .transfer = true ∧ restoreTakes (restoring (some .transfer)) .advance = true ∧
      restoreTakes (restoring (some .advance)) .drop = true ∧ restoreTakes (restoring (some .drop)) .verify = true ∧
      restoreTakes (restoring (some .gate)) .down = true ∧ restoreTakes (restoring (some .down)) .clinch = true) ∧
    (restoreTakes (restoring (some .clinch)) .up = true ∧ (restoring (some .clinch)).stroke.jaw = .waste none ∧
      ∀ j ∈ [Jaw.waste (some 0), .empty, .item item.key (some 0) item.pose false .own],
        let s := (restoring (some .clinch)).setStroke { (restoring (some .clinch)).stroke with jaw := j }
        restoreTakes s .up = true ∧ s.stroke.jaw = j) ∧
    (restoreTakes (restoring (some .verify)) .gate = true ∧
      restoreTakes (guarded (restoring (some .verify))) .gate = true) := by decide +kernel

/-- A purge of a chain of 20 positions with 19 PURGE revolutions counted, in the twentieth. -/
def lastPurge : State :=
  let s := turning (rev .purge .up) (station .halting)
  s.setJam { s.jam with purgeCount := 19 }

theorem witness_RestMarkEndsTheRevolution :
    (lastPurge.stroke.rev = some (rev .purge .up) ∧ expects lastPurge .rest = true ∧ runsShaft lastPurge = false ∧
      lastPurge.chain.clips.length = lastPurge.jam.purgeCount + 1) ∧
    (let s := (restoring none).setJam { (restoring none).jam with run := .halting }
     restoreTakes s .rest = true ∧ runsShaft s = false) ∧
    (let s := turning (rev .index .up) (loaded .running)
     s.stroke.rev = some (rev .index .up) ∧ expects s .rest = true ∧ restoreTakes s .rest = false) ∧
    (let s := turning (rev .index .clinch) (loaded .running)
     expects s .rest = false ∧ restoreTakes s .rest = false) := by decide +kernel

/-- A station at the TRANSFER mark of a revolution with a clip at the head. -/
def atTransfer (k : RevKind) (p0 : Clip) : State := turning (rev k .rest) (atHead (k == .purge) p0 0)

theorem witness_TransferMarkWorksTheJaws :
    (∀ k ∈ [RevKind.insert, .index, .purge], ∀ p ∈ [Clip.empty, .verified item true, .unknown],
      (atTransfer k p).stroke.rev = some (rev k .rest) ∧ (rev k .rest).kind = k ∧ expects (atTransfer k p) .transfer = true) ∧
    insertClip (atTransfer .insert (.verified item true)) = some (item, true) ∧ (rev .insert .rest).descending = true ∧
    clipAt (atTransfer .index .empty) 0 = .empty ∧
    clipAt (atTransfer .index (.rejected item.key (some 0) 14 .own)) 0 = .rejected item.key (some 0) 14 .own ∧
    clipAt (atTransfer .index (.surplus none none none none)) 0 = .surplus none none none none ∧
    clipAt (atTransfer .index .unknown) 0 = .unknown ∧
    ((atTransfer .index (.loaded item)).stroke.rev = some (rev .index .rest) ∧
      expects (atTransfer .index (.loaded item)) .transfer = true ∧
      (clipAt (atTransfer .index (.loaded item)) 0).live = some item ∧ item.origin = .own ∧
      ctxAt (atTransfer .index (.loaded item)) 0 = some (board .inChain) ∧
      ownIndex (atTransfer .index (.loaded item)) (board .inChain) item.key = some 0 ∧
      (board .inChain).own[0]? = some { state := .inChain, retries := 0 } ∧ (board .inChain).planClosed = false ∧
      (board .inChain).retry = []) := by decide +kernel

/-- A revolution at a mark with the lead sense in a state, waste in the jaws and a count of misses. -/
def sensing (l : LeadState) (last : Mark) (misses : Nat) : State :=
  let s := listed (turning { rev .index last with lead := l } (station .running))
  (s.setJam { s.jam with alarms := notes.take 14 }).setStroke { s.stroke with missCount := misses }

theorem witness_AdvanceMarkStartsTheChainStep :
    (∀ l, l ∈ [LeadState.awaited, .sensed] →
      (sensing l .transfer 1).stroke.rev = some { rev .index .transfer with lead := l } ∧
      expects (sensing l .transfer 1) .advance = true) ∧
    ((sensing .awaited .transfer 1).stroke.missCount < 2 ∧ (sensing .awaited .transfer 1).stroke.jaw = .waste none) ∧
    ((sensing .awaited .transfer 2).stroke.missCount = 2 ∧ (sensing .awaited .transfer 2).jam.alarms.length < 15 ∧
      (sensing .awaited .transfer 2).jam.run = .running) := by decide +kernel

/-- A chain step that has started, the shaft in a state. -/
def stepping (sh : Shaft) (purge : Bool) : State :=
  let s := atTransfer .index .unknown
  (s.setChain { s.chain with purgeRequired := purge }).setStroke { s.stroke with shaft := sh, chainStep := .started }

theorem witness_PitchConfirmAdvancesTheChain :
    ((station .running).stroke.chainStep ≠ .started ∧ (stepping .restoring true).stroke.shaft = .restoring) ∧
    ((stepping .pitchHeld true).stroke.chainStep = .started ∧ (stepping .pitchHeld true).stroke.shaft ≠ .restoring ∧
      (stepping .pitchHeld true).stroke.shaft ≠ .gateHeld ∧ (stepping .pitchHeld true).chain.purgeRequired = true ∧
      (stepping .pitchHeld true).chain.clips = .unknown :: List.replicate 19 .unknown ∧
      plannedClips (List.replicate 19 .unknown) 0 = []) ∧
    ((stepping .turning false).stroke.chainStep = .started ∧ (stepping .turning false).stroke.shaft ≠ .restoring) := by
  decide +kernel

/-- A PLANNED clip at the last position, its dispenser available and holding the part of its item, before the DROP mark. -/
def planned (step : ChainStep) : State :=
  let s := turning (rev .index .advance) (clipped .running 18 (.planned item))
  (modDisp s 14 fun r => { r with state := .ready, part := some 31 }).setStroke { s.stroke with chainStep := step }

theorem witness_DropMarkFiresThePlannedClips :
    (∀ c, c ∈ [ChainStep.started, .confirmed] →
      (planned c).stroke.rev = some (rev .index .advance) ∧ expects (planned c) .drop = true) ∧
    (planned .started).stroke.chainStep = .started ∧
    ((planned .confirmed).stroke.chainStep ≠ .started ∧ plannedClips (planned .confirmed).chain.clips 0 = [(18, item)] ∧
      ∀ x ∈ plannedClips (planned .confirmed).chain.clips 0, mayFire (planned .confirmed) x.2 = true) ∧
    (let s := modDisp (planned .confirmed) 14 fun r => { r with state := .out }
     s.stroke.rev = some (rev .index .advance) ∧ expects s .drop = true ∧ s.stroke.chainStep ≠ .started ∧
      plannedClips s.chain.clips 0 = [(18, item)] ∧ mayFire s item = false ∧ item.board < 5 ∧
      ctxAt s item.board = some (board .inChain) ∧ ownIndex s (board .inChain) item.key = some 0) := by decide +kernel

/-- A clip at the verify position before the VERIFY mark, its part of a kind, the verifier enabled or not. -/
def verifying (v : Bool) (p : Clip) (e : Option PartEntry) : State :=
  let s := turning (rev .index .drop) (clipped .running 3 p)
  let s := s.setConsole { s.console with setup := some { record with verifier := v } }
  s.setStore { s.store with parts := s.store.parts.set 30 e }

/-- The same with a measurement in flight at a position, whose clip is LOADED. -/
def overdueOutcome (pos : Nat) : State :=
  let s := setClip (verifying true .empty none) pos (.loaded item)
  s.setChain { s.chain with measurement := some ⟨item.key, pos, 14, ⟨.polar, 7, 400, 600⟩, 5⟩ }

theorem witness_VerifyMarkFindsTheOutcomeMissing :
    ∀ pos ∈ [0, 2, 3], (overdueOutcome pos).stroke.rev = some (rev .index .drop) ∧
      expects (overdueOutcome pos) .verify = true ∧ (cfg (overdueOutcome pos)).verifier = true ∧
      (overdueOutcome pos).chain.measurement = some ⟨item.key, pos, 14, ⟨.polar, 7, 400, 600⟩, 5⟩ ∧
      clipAt (overdueOutcome pos) pos = .loaded item ∧
      (clipAt (overdueOutcome pos) (cfg (overdueOutcome pos)).verifyPos = .empty ∨
        (cfg (overdueOutcome pos)).verifyPos = pos) ∧
      (overdueOutcome pos).jam.alarms.length < 16 := by decide +kernel

theorem witness_VerifyMarkStartsTheMeasurement :
    (∀ v ∈ [true, false], ∀ p ∈ [Clip.empty, .loaded item],
      (verifying v p none).stroke.rev = some (rev .index .drop) ∧ expects (verifying v p none) .verify = true) ∧
    (cfg (verifying false (.loaded item) none)).verifier = false ∧
    ((verifying true .empty none).chain.measurement = none ∧
      ∀ i, clipAt (verifying true .empty none) (cfg (verifying true .empty none)).verifyPos ≠ .loaded i) ∧
    (let s := verifying true (.loaded item) none
     (cfg s).verifier = true ∧ s.chain.measurement = none ∧ clipAt s (cfg s).verifyPos = .loaded item ∧
      (partEntryOf s (partOf s item.board item.key item.origin)).kind = .unchecked) ∧
    (let s := verifying true (.loaded item) (some ⟨.polar, 7, 400, 600⟩)
     (cfg s).verifier = true ∧ s.chain.measurement = none ∧ clipAt s (cfg s).verifyPos = .loaded item ∧
      partEntryOf s (partOf s item.board item.key item.origin) = ⟨.polar, 7, 400, 600⟩) :=
  ⟨by decide +kernel, by decide +kernel,
    ⟨by decide +kernel, fun i h => absurd (h.symm.trans (by decide +kernel : _ = Clip.empty)) (by simp)⟩,
    by decide +kernel, by decide +kernel⟩

/-- An INSERT before its GATE mark with the item in the jaws, dispenser 63's drop outstanding or not. -/
def beforeGate (d : Option Nat) : State :=
  modDisp (inJaws (turning (rev .insert .verify) (loaded .running))) 63 fun r => { r with outstanding := d }

/-- A revolution before its GATE mark in which dispenser 63 missed its clip, its fault count and its group's as given. -/
def missing (n g : Nat) : State :=
  let i : ClipItem := { item with disp := 63 }
  let s := turning (rev .index .verify) (clipped .running 18 (.planned i))
  let s := modDisp s 63 fun r => { r with state := .ready, outstanding := some 18, faults := n }
  let s := modGroup s 15 fun _ => { faults := g, quarantined := false }
  s.setJam { s.jam with alarms := notes.take 13 }

theorem witness_GateMarkCountsTheMiss :
    ∀ n ∈ [0, 1, 2, 3], ∀ g ∈ [0, 3, 255], (missing n g).stroke.rev = some (rev .index .verify) ∧
      expects (missing n g) .gate = true ∧ (missing n g).disp.records.length = 64 ∧ (missing n g).disp.groups.length = 16 ∧
      (dispAt (missing n g) 63).outstanding = some 18 ∧
      (∀ e < 64, e ≠ 63 → (dispAt (missing n g) e).outstanding = none) ∧
      clipAt (missing n g) 18 = .planned { item with disp := 63 } ∧ groupAt (missing n g) (63 / 4) = ⟨g, false⟩ ∧
      (missing n g).jam.alarms.length ≤ 13 ∧ (3 ≤ (dispAt (missing n g) 63).faults + 1 ↔ 2 ≤ n) ∧
      (dispAt (missing n g) 63).state = .ready ∧ ((cfg (missing n g)).quarantine ≤ capAt 255 (g + 1) ↔ 3 ≤ g) := by
  decide +kernel

theorem witness_GateMarkHoldsOrReleases :
    ((beforeGate none).stroke.rev = some (rev .insert .verify) ∧ expects (beforeGate none) .gate = true) ∧
    ((beforeGate (some 0)).stroke.rev = some (rev .insert .verify) ∧ expects (beforeGate (some 0)) .gate = true ∧
      (beforeGate (some 0)).disp.records.length = 64 ∧ (dispAt (beforeGate (some 0)) 63).outstanding = some 0) ∧
    ((∀ d ∈ (beforeGate none).disp.records, d.outstanding = none) ∧ (rev .insert .verify).kind = .insert ∧
      (beforeGate none).inputs.guardOpen = false ∧ (rev .insert .verify).descending = true ∧
      gateTest (beforeGate none) = false) ∧
    ((guarded (beforeGate none)).stroke.rev = some (rev .insert .verify) ∧ expects (guarded (beforeGate none)) .gate = true ∧
      (guarded (beforeGate none)).inputs.guardOpen = true ∧
      ∀ d ∈ (guarded (beforeGate none)).disp.records, d.outstanding = none) ∧
    (let s := turning (rev .index .verify) (loaded .running)
     s.stroke.rev = some (rev .index .verify) ∧ expects s .gate = true ∧ (rev .index .verify).descending = false ∧
      s.inputs.guardOpen = false ∧ ∀ d ∈ s.disp.records, d.outstanding = none) := by decide +kernel

/-- A descending revolution with the clinch in a state. -/
def descends (last : Mark) (c : ClinchState) : State :=
  inJaws (turning { rev .insert last with clinch := c } (loaded .running))

theorem witness_DescentInsertsTheItem :
    (let s := turning (rev .index .gate) (loaded .running)
     s.stroke.rev = some (rev .index .gate) ∧ expects s .down = true ∧ (rev .index .gate).descending = false) ∧
    (let s := descends .gate .notExpected
     s.stroke.rev = some { rev .insert .gate with clinch := .notExpected } ∧ expects s .down = true ∧
      (rev .insert .gate).descending = true ∧ s.stroke.jaw = .item item.key (some 0) item.pose false .own ∧
      ctxAt s 0 = some (board .inChain) ∧ ownIndex s (board .inChain) item.key = some 0 ∧
      (board .inChain).ownState 0 = some .inChain) ∧
    ((descends .down .awaited).stroke.rev = some { rev .insert .down with clinch := .awaited } ∧
      expects (descends .down .awaited) .clinch = true) := by decide +kernel

theorem witness_UpMarkEmptiesTheJaws :
    (let s := (turning (rev .index .clinch) (loaded .running))
     s.stroke.rev = some (rev .index .clinch) ∧ expects s .up = true ∧ (rev .index .clinch).clinch ≠ .awaited ∧
      s.stroke.jaw = .waste none ∧ (s.setStroke { s.stroke with jaw := .waste (some 0) }).stroke.rev = some (rev .index .clinch) ∧
      expects (s.setStroke { s.stroke with jaw := .waste (some 0) }) .up = true) ∧
    (let s := descends .clinch .confirmed
     s.stroke.rev = some { rev .insert .clinch with clinch := .confirmed } ∧ expects s .up = true ∧
      ∀ b, s.stroke.jaw ≠ .waste b) ∧
    (let s := listed (descends .clinch .awaited)
     s.stroke.rev = some { rev .insert .clinch with clinch := .awaited } ∧ expects s .up = true ∧
      s.stroke.jaw = .item item.key (some 0) item.pose false .own ∧ ctxAt s 0 = some (board .inChain) ∧
      s.jam.alarms.length < 16 ∧ s.jam.run = .running) :=
  ⟨by decide +kernel, ⟨by decide +kernel, by decide +kernel, fun _ h => (by cases h)⟩, by decide +kernel⟩

/-! ### The planner -/

/-- A chain step that ends in a RUNNING station with no purge. -/
def advancing : State :=
  let s := turning (rev .index .advance) (loaded .running)
  (s.setChain { s.chain with purgeRequired := false }).setStroke { s.stroke with chainStep := .started }

theorem witness_APlanPassFillsEmptyClipsAboveTheFrontier :
    (clipAt advancing 19 = .unknown ∧ frontier advancing = -1 ∧ clipAt (clipped .running 0 .empty) 0 = .empty) ∧
    advancing.stroke.chainStep = .started ∧ advancing.stroke.shaft = .turning ∧ advancing.stroke.rev.isSome = true ∧
    advancing.jam.run = .running ∧ advancing.chain.purgeRequired = false := by decide +kernel

/-! ### Boards -/

/-- The READY station as the FIRST one, its slots as given. -/
def first (slots : List (Option Context)) : State :=
  let s := station .ready
  (s.setConsole { s.console with setup := some { record with role := .first } }).setBoards { s.boards with slots := slots }

/-- A BOARD_LOAD body: a serial, a program id and the mask of image 7. -/
def loadBody (serial programId : Nat) : List Byte := beBytes 4 serial ++ beBytes 2 programId ++ [128]

/-- A context in no bank, in a state and of a serial. -/
def other (serial : Nat) (st : CtxState) : Context := { Context.created serial (some 9) 4 0 with state := st }

theorem witness_BoardLoadCreatesAContext :
    (at32 (loadBody 0 9) 0 = 0 ∧ at16 (loadBody 6102 0) 4 = 0) ∧
    (let s := first [some (board .pending), none, none, none, none]
     (loadBody 6101 9).length = 7 ∧ s.jam.run ≠ .unconfigured ∧ 1 ≤ at32 (loadBody 6101 9) 0 ∧
      1 ≤ at16 (loadBody 6101 9) 4 ∧ (slotOfSerial s (at32 (loadBody 6101 9) 0)).isSome = true ∧
      headOfLine (station .ready) = false) ∧
    (let s := first ((List.range 5).map fun n => some (other (n + 1) .expected))
     headOfLine s = true ∧ slotOfSerial s (at32 (loadBody 4294967295 65535) 0) = none ∧ emptySlot s = none) ∧
    (let s := first [some (board .pending), none, none, none, none]
     (loadBody 4294967295 65535).length = 7 ∧ 1 ≤ at32 (loadBody 4294967295 65535) 0 ∧
      1 ≤ at16 (loadBody 4294967295 65535) 4 ∧ headOfLine s = true ∧
      slotOfSerial s (at32 (loadBody 4294967295 65535) 0) = none ∧ s.boards.load = none ∧ emptySlot s = some 1) := by
  decide +kernel

/-- The body that names the board of serial 6101 and an image. -/
def skipBody (image : Byte) : List Byte := [0, 0, 0x17, 0xD5, image]

/-- The loaded station with an urgent queue of a length. -/
def urgentQueue (n : Nat) : State :=
  (loaded .ready).setLine { (loaded .ready).line with urgent := List.replicate n (.withdraw 1) }

theorem witness_SkippingAndWithdrawingABoard :
    ((skipBody 7).length = 5 ∧ (loaded .ready).jam.run ≠ .unconfigured ∧ at8 (skipBody 7) 4 ≤ 7 ∧
      currentWith (loaded .ready) (at32 (skipBody 7) 0) = some 0 ∧ ctxAt (loaded .ready) 0 = some (board .inChain) ∧
      (board .inChain).skipMask.getLsbD (at8 (skipBody 7) 4) = false) ∧
    (let s := modCtx (loaded .ready) 0 fun c => { c with skipMask := 128 }
     ctxAt s 0 = some { board .inChain with skipMask := 128 } ∧ currentWith s (at32 (skipBody 7) 0) = some 0) ∧
    (((skipBody 0).take 4).length = 4 ∧ at32 ((skipBody 0).take 4) 0 ≠ 0 ∧ transferring (urgentQueue 7) = false ∧
      currentWith (urgentQueue 7) (at32 ((skipBody 0).take 4) 0) = some 0 ∧ 0 < (urgentQueue 7).boards.slots.length ∧
      urgentRoom (urgentQueue 7) = true ∧ urgentRoom (urgentQueue 8) = false) ∧
    (let s := first [some (other 6101 .expected), none, none, none, none]
     let s := s.setBoards { s.boards with load := some ⟨6101, 9, 128⟩ }
     currentWith s (at32 ((skipBody 0).take 4) 0) = none ∧ headOfLine s = true ∧ s.boards.load = some ⟨6101, 9, 128⟩ ∧
      at32 ((skipBody 0).take 4) 0 = 6101 ∧
      slotOf s (fun c => c.state == .expected && c.serial == at32 ((skipBody 0).take 4) 0) = some 0 ∧
      urgentRoom s = true ∧ s.jam.run ≠ .unconfigured) ∧
    (mayOpenClamp ((station .ready).setBoards { (station .ready).boards with withdrawOpen := true }) = true ∧
      mayOpenClamp (station .ready) = false) := by decide +kernel

/-- A station that has seen its line released for the qualification time. -/
def qualified (s : State) : State := s.setBoards { s.boards with qualify := some 0, pulled := false }

theorem witness_TheHoldLineGivesTheLineIndex :
    ((qualified (station .running)).boards.pulled = false ∧ (qualified (station .running)).inputs.lineReleased = false) ∧
    (station .running).boards.qualify = none ∧
    (let s := qualified (loaded .running)
     s.boards.qualify.isSome = true ∧ currentSlot s = some 0 ∧ ctxAt s 0 = some (board .inChain) ∧
      departingSlot s = none ∧ s.inputs.guardOpen = false) ∧
    (let s := qualified (first (List.replicate 5 none))
     s.boards.qualify.isSome = true ∧ (∀ o ∈ s.boards.slots, o = none) ∧ headOfLine s = true ∧ s.boards.load = none) := by
  decide +kernel

/-- A station with an ARRIVING context in its last slot and a transfer, the clamp output closed or not. -/
def arrives (clamp : Bool) (x : Transfer) : State :=
  let s := withTransfer x (station .running)
  s.setBoards { s.boards with slots := [none, none, none, none, some (other 6102 .arriving)], clampOut := clamp }

theorem witness_SensorsCompleteTheTransfer :
    (station .running).boards.transfer = none ∧
    ((arrives false (transfer false false)).boards.transfer = some (transfer false false) ∧
      (arrivingSlot (arrives false (transfer false false))).isSome = true ∧
      (arrives false (transfer false false)).inputs.guardOpen = false ∧
      (arrives false (transfer false false)).inputs.clampClosed = false ∧ (transfer false false).arrived = false) ∧
    (let s := withTransfer (transfer false false) (station .running)
     s.boards.transfer = some (transfer false false) ∧ arrivingSlot s = none ∧ emptySlot s = some 0 ∧
      (∀ o ∈ s.boards.slots, o = none) ∧ s.boards.passIn = none ∧ s.inputs.guardOpen = false ∧
      s.inputs.clampClosed = false) ∧
    ((station .running).boards.clampOut = false ∧ (atHead true .empty 0).boards.clampOut = true ∧
      (atHead true .empty 0).boards.transfer = none) ∧
    (let s := arrives true (transfer false true)
     s.boards.clampOut = true ∧ s.boards.transfer = some (transfer false true) ∧ (transfer false true).departs = false ∧
      (transfer false true).arrived = true ∧ (transfer false true).jammed = false ∧ departingSlot s = none ∧
      arrivingSlot s = some 4 ∧ ctxAt s 4 = some (other 6102 .arriving) ∧ (other 6102 .arriving).serial ≠ 0) ∧
    (let c := { board .inChain with pairing := .awaited }
     let s := withBoard c ((station .running).setBoards { (station .running).boards with passWait := some 0 })
     s.boards.passWait.isSome = true ∧ s.boards.passIn = none ∧ awaitedSlot s = some 0 ∧ ctxAt s 0 = some c ∧
      c.flags.unidentified = false) ∧
    (station .running).boards.passWait = none := by decide +kernel

/-! ### Run control and alarms -/

theorem witness_StartStopAndRunReset :
    (readyStation.jam.run = .ready ∧ readyStation.table.homeValid = true ∧ readyStation.table.op = .none ∧
      readyStation.boards.transfer = none) ∧
    ((station .halted).jam.run ≠ .ready ∧ (station .ready).table.homeValid = false ∧ tableBusy moving = true) ∧
    (station .running).jam.run = .running ∧
    (let s := withBoard { board .inserted with planClosed := true } (station .running)
     s.jam.run = .running ∧ currentSlot s = some 0 ∧ ctxAt s 0 = some { board .inserted with planClosed := true }) ∧
    1 < (2#8).toNat ∧
    ((1#8).toNat ≤ 1 ∧ (station .halting).jam.run ≠ .running ∧ (station .halting).jam.run ≠ .stopping) ∧
    (station .halting).jam.run = .halting ∧ (station .halted).jam.run = .halted := by decide +kernel

/-- The last STOP entry of a station in a run state, its number the highest, with a NOTE entry of number 1. -/
def alarmed (run : RunState) : State :=
  (station run).setJam { (station run).jam with
    alarms := [⟨1, .dropMiss, .dispenser 63, 0, 1, false⟩, ⟨65535, .headJam, .none, 0, 1, false⟩] }

theorem witness_AlarmsAreAcknowledgedAndCleared :
    (at16 [0, 0] 0 = 0 ∧ 1 ≤ at16 [0, 2] 0 ∧ ∀ e ∈ (alarmed .halted).jam.alarms, e.number ≠ at16 [0, 2] 0) ∧
    (∃ e ∈ (alarmed .halted).jam.alarms, 1 ≤ e.number ∧ e.number = at16 [0, 1] 0 ∧ e.cls.stop = false ∧
      ∀ x ∈ (alarmed .halted).jam.alarms, x.number = e.number → x = e) ∧
    (∃ e ∈ (alarmed .halting).jam.alarms, e.number = at16 [255, 255] 0 ∧ e.cls.stop = true ∧
      (alarmed .halting).jam.run ≠ .halted ∧
      ∀ x ∈ (alarmed .halting).jam.alarms, x.number = e.number → x = e) ∧
    (∃ e ∈ (alarmed .halted).jam.alarms, 1 ≤ e.number ∧ e.number = at16 [255, 255] 0 ∧ e.cls.stop = true ∧
      (alarmed .halted).jam.run = .halted ∧ (alarmed .halted).jam.unrecordedHalt = false ∧
      ∀ x ∈ (alarmed .halted).jam.alarms, x.number = e.number → x = e) := by decide +kernel

/-! ### The line -/

/-- A station with frames waiting in its three sources. -/
def sources (urgent passport normal : List Frame) : State :=
  let s := station .ready
  (s.setBoards { s.boards with passOut := passport }).setLine { s.line with urgent := urgent, normal := normal }

/-- A station with a frame of a source in transmission. -/
def sends (src : Source) (w : Bool) : State :=
  let s := sources [.withdraw 1] [.withdraw 2] []
  s.setLine { s.line with sending := some ⟨.withdraw 1, some src, w⟩ }

theorem witness_SendingAndTheLinesTimers :
    ((sends .urgent true).line.sending.isSome = true ∧ setupDone State.reset = false) ∧
    (let s := sources [] [] []
     s.line.sending = none ∧ s.line.urgent = [] ∧ s.boards.passOut = [] ∧ s.line.normal = []) ∧
    ((sources [.withdraw 1] [] []).line.sending = none ∧ setupDone (sources [.withdraw 1] [] []) = true ∧
      (sources [.withdraw 1] [] []).line.urgent.head? = some (.withdraw 1) ∧
      (sources [] [.withdraw 1] []).boards.passOut.head? = some (.withdraw 1) ∧
      (sources [] [] [.withdraw 1]).line.normal.head? = some (.withdraw 1)) ∧
    (sends .urgent true).line.sending = some { frame := .withdraw 1, source := some .urgent, withdrawn := true } ∧
    (sends .normal false).line.sending = some { frame := .withdraw 1, source := some .normal, withdrawn := false } ∧
    (sends .passport false).line.sending = some { frame := .withdraw 1, source := some .passport, withdrawn := false } ∧
    (let s := (station .ready).setLine { (station .ready).line with
       roster := (station .ready).line.roster.set 14 { present := true, silence := some 0, last := none } }
     1 ≤ 15 ∧ (rosterAt s 15).silence.isSome = true ∧ (rosterAt s 1).silence = none) ∧
    ((station .ready).line.statusTimer.isSome = true ∧ setupDone (station .ready) = true ∧
      ∀ f ∈ (station .ready).line.normal, f.isStatus = false) ∧
    State.reset.line.statusTimer = none := by decide +kernel

/-- The head of a passport of one entry for a board with no program. -/
def head : PassHead := ⟨6103, 0, 0, 1, PassFlags.clear, 0⟩

/-- The loaded station that holds that head. -/
def buffered : State :=
  let s := loaded .ready
  s.setBoards { s.boards with passIn := some { head := head, entries := [none] } }

/-- An OWE of station 4 for the buffered board, its part held by dispenser 14. -/
def owed : ItemData := { itemOn 0 ⟨0, 0, 401, 0⟩ with key := ⟨6101, 4, 4095⟩ }

/-- The board with 15 adopted items. -/
def claimer : Context :=
  { board .inChain with adopted := (List.range 15).map fun n =>
    { item := { owed with key := ⟨6101, 3, n⟩ }, retries := 0, state := .inserted } }

/-- The RUNNING station of that board, with 7 urgent frames and a READY dispenser. -/
def claiming : State :=
  let s := withBoard claimer (dispenser .running .ready (some 31))
  s.setLine { s.line with urgent := List.replicate 7 (.withdraw 1) }

theorem witness_AnOweIsClaimed :
    (Frame.owe owed).wf = true ∧ slotOfSerial claiming owed.key.serial = some 0 ∧ ctxAt claiming 0 = some claimer ∧
    claimer.entryState owed.key = none ∧ owed.key.owner < record.station ∧ claimer.entryCount < 32 ∧
    claiming.jam.run = .running ∧ 4 < record.station ∧ claimer.state = .current ∧ claimer.planClosed = false ∧
    claimer.adoptedFor owed.key = none ∧ claimer.adopted.length = 15 ∧ partAvailable claiming owed.part = true ∧
    poseOf claiming claimer owed = .pose ⟨3200, 2300, .east, 10, .inward⟩ ∧ claiming.line.urgent.length = 7 := by
  decide +kernel

theorem witness_ADuplicateStationHalts :
    (let s := listed (station .idle)
     s.console.setup = some record ∧ 1 ≤ record.station ∧ record.station ≤ 15 ∧
      (Frame.status ⟨.halted, 4294967295, true, true⟩).wf = true ∧ s.jam.alarms.length < 16 ∧
      (∀ e ∈ s.jam.alarms, e.cls ≠ .duplicateStation) ∧ s.jam.run = .idle) ∧
    ∃ e ∈ (enterAlarm (station .idle) .duplicateStation .none).jam.alarms, e.cls = .duplicateStation := by decide +kernel

theorem witness_FramesHeardAreActedOn :
    (buffered.console.setup = some record ∧ record.station = 5 ∧ (1 ≤ 4 ∧ 4 ≤ 15 ∧ 4 ≠ record.station) ∧
      buffered.line.roster.length = 15) ∧
    parseHeard .withdraw ⟨false, 4, 4, [0, 0, 0x17, 0xD5], 0⟩ = none ∧
    (Frame.status ⟨.halted, 4294967295, true, true⟩).wf = true ∧
    ((Frame.withdraw 6101).wf = true ∧ slotOfSerial buffered 6101 = some 0) ∧
    ((Frame.withdraw 4294967295).wf = true ∧ slotOfSerial (loaded .ready) 4294967295 = none ∧
      (loaded .ready).boards.passIn = none ∧ (loaded .ready).boards.transfer = none) ∧
    ((Frame.claim ⟨6101, 15, 4095⟩ 7).wf = true ∧ ctxAt buffered 0 = some (board .inChain) ∧
      (board .inChain).adoptedFor ⟨6101, 15, 4095⟩ = none) ∧
    (let d := { itemOn 7 ⟨-8192, 8191, 0, 0⟩ with key := ⟨6101, 4, 4095⟩ }
     (Frame.owe d).wf = true ∧ slotOfSerial buffered d.key.serial = some 0 ∧ (board .inChain).entryState d.key = none ∧
      d.key.owner < record.station ∧ (board .inChain).entryCount < 32 ∧ buffered.jam.run ≠ .running) ∧
    ((Frame.announce 4294967295 65535 4 128).wf = true ∧ headOfLine buffered = false ∧
      slotOfSerial buffered 4294967295 = none ∧ record.station ≤ 1 + 4 ∧ 4 < record.station ∧
      emptySlot buffered = some 1 ∧ lookupBank buffered 65535 = none) ∧
    (∀ o ∈ buffered.boards.slots, ∀ y ∈ o, y.state ≠ .expected) ∧
    ((Frame.passportHead head).wf = true ∧ headOfLine buffered = false ∧ 4 + 1 = record.station ∧
      alreadyPaired buffered head.serial = false ∧ awaitedSlot buffered = none) ∧
    (let e : Entry := ⟨{ itemOn 7 ⟨0, 0, 401, 0⟩ with key := ⟨6103, 1, 0⟩ }, .madeUp 15⟩
     (Frame.passportEntry 0 e).wf = true ∧ buffered.boards.passIn = some { head := head, entries := [none] } ∧
      e.item.key.serial = head.serial ∧ 0 < head.count ∧ ([none] : List (Option Entry)).getD 0 none = none) := by decide +kernel

/-! ### Formats -/

theorem witness_TheWireCarriesEveryFrame :
    (HeardFrame.mk false 15 0xFF [] 0xFFFF).wf = false ∧ (HeardFrame.mk true 15 2 [0xFF, 0x00] 0xFFFF).wf = true ∧
    (Frame.withdraw 4294967295).wf = true ∧ (Frame.claim ⟨1, 15, 4095⟩ 0).wf = true ∧
    (Frame.owe ⟨⟨1, 1, 0⟩, 7, ⟨-8192, 0, 8191, 0⟩, 255, 42, .outward⟩).wf = true ∧
    (Frame.announce 1 1 15 255).wf = true ∧ (Frame.passportHead ⟨0, 65535, 0, 32, PassFlags.clear, 0xFFFE⟩).wf = true ∧
    (Frame.passportEntry 31 ⟨⟨⟨0, 15, 4095⟩, 0, ⟨0, 0, 401, 0⟩, 1, 0, .inward⟩, .claimed 1⟩).wf = true ∧
    (Frame.status ⟨.unconfigured, 0, false, false⟩).wf = true := by decide +kernel

theorem witness_TransactionsAndCamCodesDecode :
    ((Instr.jog [4, 0, 0x11, 0xF8, 1]).wf = true ∧
      encodeTransaction (.jog [4, 0, 0x11, 0xF8, 1]) = some [0x31, 4, 0, 0x11, 0xF8, 1]) ∧
    (Instr.readTransaction []).wf = true ∧
    (encodeCamCode .restMark).isSome = true ∧ (decodeCamCode 0b1000#4).isSome = true := by decide +kernel

/-! ### Commands kept back, and a second head -/

/-- An INSERT under an open guard with the clip VERIFIED, its home valid, the head span running to another value. -/
def keeping : State :=
  let s := guarded (turning (rev .insert .rest) (atHead false (.verified item false) 0))
  setting .headSpan 6 ((s.setTable { s.table with homeValid := true }).setBoards { s.boards with clampWanted := true })

/-- R106: with the guard open the command is kept back; R114: at GATE it is made as the guard closes, and the shaft waits. -/
theorem test_command_kept_back : Actuator.headSpan ∈ (after (.actuatorInPosition .headSpan) keeping).stroke.keptBack ∧
    ((after (.actuatorInPosition .headSpan) keeping).stroke.act .headSpan).setting = none := by decide +kernel
theorem test_kept_command_made :
    let s := inJaws (turning (rev .insert .gate) (setClip keeping 0 .empty))
    let t := after .guardClose (s.setStroke { s.stroke with
      shaft := .gateHeld, headSpan := ActRecord.initial, keptBack := [.headSpan] })
    (t.stroke.act .headSpan).setting = some 10 ∧ t.stroke.shaft = .gateHeld ∧ t.stroke.keptBack = [] := by decide +kernel

/-- A board awaiting its passport: unexpected (R129), or made from a head with serial 0 (R133), its image 0 skipped. -/
def unnamed (fromHead : Bool) : State :=
  withBoard { unexpectedCtx 4 with ejected := 1, skipMask := 1, fromHead := fromHead } (station .ready)

/-- R133: the unexpected board learns its serial; the one that a head gave is replaced by a new context. -/
theorem test_unexpected_learns : (ctxAt (identify (unnamed false) 0 head) 0).map (fun c => (c.serial, c.ejected)) =
    some (6103, 1) := by decide +kernel
theorem test_unidentified_replaced : (ctxAt (identify (unnamed true) 0 head) 0).map (fun c => (c.serial, c.ejected, c.skipMask)) =
    some (6103, 0, 0) := by decide +kernel

end Sys2Proof.Tests
end

