-- ==== Sys2Proof/Proofs/ProgramStore.lean ====
section
/-! SUPPORT. The rules of the program store (chapter 01): what a bank is after a bank is replaced, which judge a request of
the store reaches, and what each judge answers in each of its cases. -/

namespace Sys2Proof.Machine

/-! ### Banks -/

@[simp] theorem Store.bank_setBank_self (st : Store) (b : BankId) (v : Bank) : (st.setBank b v).bank b = v := by
  cases b <;> rfl

theorem Store.bank_setBank_of_ne (st : Store) {b x : BankId} (v : Bank) (h : x ≠ b) :
    (st.setBank b v).bank x = st.bank x :=
  match b, x, h with
  | .zero, .one, _ => rfl
  | .one, .zero, _ => rfl
  | .zero, .zero, h => absurd rfl h
  | .one, .one, h => absurd rfl h

@[simp] theorem Store.bank_withBlock (st : Store) (b : BankId) (o : Option OpenBlock) :
    Store.bank { st with block := o } b = st.bank b := by
  cases b <;> rfl

theorem Store.bank_setBank_withBlock (st : Store) (b : BankId) (v : Bank) (o : Option OpenBlock) :
    Store.bank { st.setBank b v with block := o } b = v := by
  rw [Store.bank_withBlock, Store.bank_setBank_self]

theorem within_iff (lo n hi : Nat) : within lo n hi = true ↔ lo ≤ n ∧ n ≤ hi := by simp [within]

/-! ### From a frame to its judge (R7, R183) -/

theorem onBank_of_named {body : List Byte} {b : BankId} (f : BankId → Verdict) (h : bankOfNat (at8 body 0) = some b) :
    onBank body f = f b := by
  simp [onBank, h]

theorem unlessOpen_of_none {s : State} (f : Verdict) (h : s.store.block = none) : unlessOpen s f = f := by
  simp [unlessOpen, h]

theorem unlessOpen_of_some {s : State} {ob : OpenBlock} (f : Verdict) (h : s.store.block = some ob) :
    unlessOpen s f = aborted s ob.bank .sequence := by
  simp [unlessOpen, h]

/-- A well-formed request that names a bank is judged for that bank. -/
theorem request_onBank (s : State) (code : Byte) {len : Nat} {body : List Byte} (extra : List Byte) {b : BankId}
    (judge : List Byte → BankId → Verdict) (hl : body.length = len) (hlen : len < 256)
    (hb : bankOfNat (at8 body 0) = some b) :
    request s code len true (framed body extra) (fun body => onBank body (judge body)) =
      (judge body b).conclude s code := by
  rw [request_framed s code true extra _ hl hlen (.inl rfl), onBank_of_named _ hb]

theorem exec_bankOpen_framed (s : State) {body : List Byte} (extra : List Byte) {b : BankId} (hl : body.length = 53)
    (hb : bankOfNat (at8 body 0) = some b) :
    exec (.bankOpen (framed body extra)) s = .next ((unlessOpen s (openBank s body b)).conclude s 0x10) :=
  congrArg Host.Outcome.next
    (request_onBank s 0x10 extra (fun body b => unlessOpen s (openBank s body b)) hl (by decide) hb)

section
variable (s : State) {x : Byte} {b : BankId} (extra : List Byte) (hb : bankOfNat x.toNat = some b)
include hb

theorem exec_blockBegin_framed (n : Byte) :
    exec (.blockBegin (framed [x, n] extra)) s = .next ((unlessOpen s (beginBlock s [x, n] b)).conclude s 0x11) :=
  congrArg Host.Outcome.next
    (request_onBank s 0x11 extra (fun body b => unlessOpen s (beginBlock s body b)) rfl (by decide) hb)

theorem exec_bankClearAbort_framed :
    exec (.bankClearAbort (framed [x] extra)) s = .next ((unlessOpen s (clearBank s b)).conclude s 0x15) :=
  congrArg Host.Outcome.next
    (request_onBank s 0x15 extra (fun _ b => unlessOpen s (clearBank s b)) rfl (by decide) hb)

theorem exec_blockCommit_framed_of_none (h : s.store.block = none) :
    exec (.blockCommit (framed [x] extra)) s = .next (respond s .refusedState 0x13 .empty) := by
  simp only [exec, execBlockCommit, h]
  exact congrArg _ (request_onBank s 0x13 extra (fun _ _ => .refuse .refusedState) (body := [x]) rfl (by decide) hb)

theorem exec_blockCommit_framed_of_some {ob : OpenBlock} (h : s.store.block = some ob) :
    exec (.blockCommit (framed [x] extra)) s = .next ((commitBlock s ob b).conclude s 0x13) := by
  simp only [exec, execBlockCommit, h]
  exact congrArg _ (request_onBank s 0x13 extra (fun _ b => commitBlock s ob b) (body := [x]) rfl (by decide) hb)

end

/-! ### The judges, case by case -/

section
variable {s : State} {b : BankId}

theorem openBank_of_aborted {body : List Byte} {images : List (Option Image)} (hi : parseImages body = some images)
    (hany : images.any Option.isSome = true) (hid : 1 ≤ at16 body 1) (hlo : 1 ≤ at16 body 3) (hhi : at16 body 3 ≤ 512)
    (hu : inUse s b = false) (ha : (s.store.bank b).state = .aborted) : openBank s body b = .refuse .refusedState := by
  have hrange : ¬(at16 body 1 = 0 ∨ (!within 1 (at16 body 3) 512) = true ∨ (!images.any Option.isSome) = true) := by
    rw [hany, (within_iff _ _ _).mpr ⟨hlo, hhi⟩]
    simp
    omega
  simp only [openBank, hi, if_neg hrange, hu, ha, Bool.false_eq_true, if_false, true_or, or_true, if_true]

section
variable {x n : Byte}

theorem beginBlock_of_not_loading (h : (s.store.bank b).state ≠ .loading) :
    beginBlock s [x, n] b = .refuse .refusedState :=
  if_pos h

variable (h : (s.store.bank b).state = .loading)
include h

theorem beginBlock_of_bad_size (hn : n.toNat = 0 ∨ 32 < n.toNat) :
    beginBlock s [x, n] b = aborted s b .blockSize := by
  have hw : within 1 n.toNat 32 = false := by
    rw [← Bool.not_eq_true, within_iff]
    omega
  simp [beginBlock, at8, h, hw]

theorem beginBlock_of_excess (hlo : 1 ≤ n.toNat) (hhi : n.toNat ≤ 32)
    (hx : (s.store.bank b).declared < (s.store.bank b).steps.length + n.toNat) :
    beginBlock s [x, n] b = aborted s b .blockExcess := by
  have hw := (within_iff 1 n.toNat 32).mpr ⟨hlo, hhi⟩
  have hlt : (s.store.bank b).declared - (s.store.bank b).steps.length < n.toNat := by omega
  simp [beginBlock, at8, h, hw, hlt]

theorem beginBlock_of_fits (hlo : 1 ≤ n.toNat) (hhi : n.toNat ≤ 32)
    (hx : (s.store.bank b).steps.length + n.toNat ≤ (s.store.bank b).declared) :
    beginBlock s [x, n] b =
      .done (s.setStore { s.store with block := some { bank := b, size := n.toNat, steps := [] } }) := by
  have hw := (within_iff 1 n.toNat 32).mpr ⟨hlo, hhi⟩
  have hge : ¬(s.store.bank b).declared - (s.store.bank b).steps.length < n.toNat := by omega
  simp only [beginBlock, at8, List.getD_cons_succ, List.getD_cons_zero, h, hw, ne_eq, not_true_eq_false, if_false,
    Bool.not_true, Bool.false_eq_true, if_neg hge]

end

theorem commitBlock_of_unfinished {ob : OpenBlock} (h : ob.bank ≠ b ∨ ob.steps.length < ob.size) :
    commitBlock s ob b = aborted s ob.bank .sequence :=
  if_pos (h.imp_left Ne.symm)

theorem commitBlock_of_full {ob : OpenBlock} (hb : ob.bank = b) (hl : ob.steps.length = ob.size) :
    commitBlock s ob b = .done (s.setStore
      { (s.store.setBank b { s.store.bank b with steps := (s.store.bank b).steps ++ ob.steps }) with block := none }) :=
  if_neg (by simp [hb, hl])

theorem clearBank_of_aborted (h : (s.store.bank b).state = .aborted) :
    clearBank s b = .done (putBank s b Bank.emptied) :=
  if_pos h

theorem clearBank_of_not_aborted (h : (s.store.bank b).state ≠ .aborted) : clearBank s b = .refuse .refusedState :=
  if_neg h

end

end Sys2Proof.Machine
end

