-- ==== Sys2Proof/Proofs/StoreFrame.lean ====
section
/-! SUPPORT. Which commands change the program store (R1): but for PIN_RESET and the store's own requests none does; and
among those only BANK_CLOSE makes a bank READY that was not (R10, R12). -/

namespace Sys2Proof.Machine

/-! ### What a command leaves in the store -/

theorem store_of_sizes {s t : State} (h : t.sizes = s.sizes) : t.store = s.store := congrArg Sizes.store h

@[simp] theorem finish_store (atUp : Bool) (before s : State) : (finish atUp before s).store = s.store :=
  store_of_sizes (finish_sizes atUp before s)

/-- The store of the state that an answer leaves has a property; a refusal leaves no state of its own. -/
def Verdict.Leaves (R : Store → Prop) : Verdict → Prop
  | .refuse _ => True
  | .answer _ _ t => R t.store

section
variable {R : Store → Prop}

@[simp] theorem Verdict.leaves_refuse (rc : ResultCode) : (Verdict.refuse rc).Leaves R := trivial
@[simp] theorem Verdict.leaves_answer (rc : ResultCode) (body : Body) (t : State) :
    (Verdict.answer rc body t).Leaves R ↔ R t.store := Iff.rfl
@[simp] theorem Verdict.leaves_done (t : State) : (Verdict.done t).Leaves R ↔ R t.store := Iff.rfl
@[simp] theorem Verdict.leaves_started (t : State) : (Verdict.started t).Leaves R ↔ R t.store := Iff.rfl

/-- A request leaves in the store what it found or what its judge's answer leaves. -/
theorem request_leaves {s : State} (code : Byte) (len : Nat) (always : Bool) (bytes : List Byte)
    {judge : List Byte → Verdict} (hs : R s.store) (hj : ∀ body, (judge body).Leaves R) :
    R (request s code len always bytes judge).store := by
  obtain ⟨-, hr⟩ | ⟨-, -, hr⟩ | ⟨-, body, -, hr⟩ := request_spec s code len always bytes judge
  · rw [hr]; exact hs
  · rw [hr]; exact hs
  · rw [hr]
    have hv := hj body
    cases h : judge body with
    | refuse rc => exact hs
    | answer rc b t => rw [h] at hv; exact hv

end

/-- The next state, if there is one, has the store of `s`. -/
def KeepsStore (s : State) : Host.Outcome State Fault Refusal → Prop
  | .next t => t.store = s.store
  | .fault _ => True
  | .refused _ => True

/-- The answer, if it is one, leaves the store of `s`. -/
abbrev Verdict.KeepsStore (s : State) (v : Verdict) : Prop := v.Leaves (· = s.store)

section
variable {s u : State}

@[simp] theorem keepsStore_next : KeepsStore s (.next u) ↔ u.store = s.store := Iff.rfl

theorem keepsStore_request (code : Byte) (len : Nat) (always : Bool) (bytes : List Byte) {judge : List Byte → Verdict}
    (hj : ∀ body, (judge body).KeepsStore s) : KeepsStore s (.next (request s code len always bytes judge)) :=
  request_leaves (R := (· = s.store)) code len always bytes rfl hj

/-- A command that ends with the consequences of its effect. -/
theorem keepsStore_finish {atUp : Bool} {before : State} (h : u.sizes = s.sizes) :
    KeepsStore s (.next (finish atUp before u)) :=
  (finish_store atUp before u).trans (store_of_sizes h)

/-- A command taken only under a condition. -/
theorem keepsStore_ite {p : Prop} [Decidable p] {a b : Host.Outcome State Fault Refusal} (ha : KeepsStore s a)
    (hb : KeepsStore s b) : KeepsStore s (if p then a else b) := by
  split
  · exact ha
  · exact hb

/-- A command taken only under a condition, and ignored without it. -/
theorem keepsStore_if {p : Prop} [Decidable p] {atUp : Bool} {before : State} (h : u.sizes = s.sizes) :
    KeepsStore s (if p then .next (finish atUp before u) else .next s) :=
  keepsStore_ite (keepsStore_finish h) rfl

end

/-! ### Console, dispensers and runs: the judges -/

theorem judgeSetup_keepsStore (s : State) (body : List Byte) : (judgeSetup s body).KeepsStore s := by
  unfold judgeSetup
  split
  · split
    · trivial
    · exact finish_store _ _ _
  · trivial

theorem judgeReadReports_keepsStore (s : State) (body : List Byte) : (judgeReadReports s body).KeepsStore s := by
  unfold judgeReadReports
  dsimp only
  split
  · rfl
  · trivial

/-- A judge of one dispenser keeps the store when its verdict on every record does. -/
theorem onDispenser_keepsStore {s : State} (body : List Byte) {f : Nat → Dispenser → Verdict}
    (hf : ∀ d r, (f d r).KeepsStore s) : (onDispenser s body f).KeepsStore s := by
  unfold onDispenser
  dsimp only
  split
  · trivial
  · split
    · trivial
    · exact hf _ _

theorem changeDispenser_keepsStore (s : State) (d : Nat) (r : Dispenser) : (changeDispenser s d r).KeepsStore s := rfl

theorem loadReel_keepsStore (s : State) (body : List Byte) (d : Nat) (r : Dispenser) :
    (loadReel s body d r).KeepsStore s := by
  unfold loadReel
  split
  · trivial
  · exact changeDispenser_keepsStore _ _ _

theorem execReelLoad_keepsStore (bytes : List Byte) (s : State) : KeepsStore s (execReelLoad bytes s) := by
  refine keepsStore_request _ _ _ _ fun body => ?_
  split
  · trivial
  · exact onDispenser_keepsStore body (loadReel_keepsStore s body)

theorem beginService_keepsStore (s : State) (d : Nat) (r : Dispenser) : (beginService s d r).KeepsStore s := by
  unfold beginService
  cases r.state <;> trivial

theorem endService_keepsStore (s : State) (d : Nat) (r : Dispenser) : (endService s d r).KeepsStore s := by
  unfold endService
  cases r.state <;> trivial

theorem lockDispenser_keepsStore (s : State) (d : Nat) (r : Dispenser) : (lockDispenser s d r).KeepsStore s := by
  unfold lockDispenser
  cases r.state <;> trivial

theorem unlockDispenser_keepsStore (s : State) (d : Nat) (r : Dispenser) : (unlockDispenser s d r).KeepsStore s := by
  unfold unlockDispenser
  split <;> trivial

theorem releaseGroup_keepsStore (s : State) (body : List Byte) : (releaseGroup s body).KeepsStore s := by
  unfold releaseGroup
  dsimp only
  split <;> trivial

theorem judgeHome_keepsStore (s : State) : (judgeHome s).KeepsStore s := by
  unfold judgeHome
  split
  · simpa using store_of_sizes (takeHome_sizes s)
  · trivial

theorem judgeJog_keepsStore (s : State) (body : List Byte) : (judgeJog s body).KeepsStore s := by
  unfold judgeJog
  split
  · dsimp only
    split
    · trivial
    · split
      · trivial
      · simpa using store_of_sizes (takeJog_sizes s _ _ _)
  · trivial

theorem judgeBoardLoad_keepsStore (s : State) (body : List Byte) : (judgeBoardLoad s body).KeepsStore s := by
  unfold judgeBoardLoad
  dsimp only
  split
  · trivial
  · split
    · trivial
    · split
      · exact store_of_sizes (takeBoard_sizes s _ _ _ _)
      · trivial

theorem judgeImageSkip_keepsStore (s : State) (body : List Byte) : (judgeImageSkip s body).KeepsStore s := by
  unfold judgeImageSkip
  dsimp only
  split
  · trivial
  · split
    · simpa using store_of_sizes (joinMask_sizes s _ _)
    · trivial

/-- The withdrawal of a held board: its WITHDRAW joins the urgent queue and its context goes. -/
theorem removeCtx_joinUrgent_store (s : State) (f : Frame) (slot : Nat) :
    (removeCtx (joinUrgent s f) slot).store = s.store :=
  store_of_sizes (by simp)

theorem judgeWithdraw_keepsStore (s : State) (body : List Byte) : (judgeWithdraw s body).KeepsStore s := by
  unfold judgeWithdraw
  dsimp only
  split
  · trivial
  · split
    · split
      · simp [removeCtx_joinUrgent_store]
      · trivial
    · split
      · simp [removeCtx_joinUrgent_store]
      · trivial
    · trivial

theorem judgeReadBoard_keepsStore (s : State) (body : List Byte) : (judgeReadBoard s body).KeepsStore s := by
  unfold judgeReadBoard
  split <;> trivial

theorem takeStart_store (s : State) : (takeStart s).store = s.store := by
  calc (takeStart s).store
    _ = (resumeTransfer (setRun s .running)).store := store_of_sizes (tryComplete_sizes _)
    _ = s.store := rfl

theorem judgeStart_keepsStore (s : State) : (judgeStart s).KeepsStore s := by
  unfold judgeStart
  split
  · simpa using takeStart_store s
  · trivial

theorem closeCurrent_store (s : State) : (closeCurrent s).store = s.store := store_of_sizes (closeCurrent_sizes s)

theorem setStopping_store (s : State) (q : StopQualifier) : (setStopping s q).store = s.store := rfl

theorem judgeStop_keepsStore (s : State) (q : StopQualifier) : (judgeStop s q).KeepsStore s := by
  unfold judgeStop
  split <;> simp [closeCurrent_store, setStopping_store]

theorem execStop_keepsStore (bytes : List Byte) (s : State) : KeepsStore s (execStop bytes s) := by
  refine keepsStore_request _ _ _ _ fun body => ?_
  split
  · exact judgeStop_keepsStore s _
  · trivial

theorem judgeRunReset_keepsStore (s : State) : (judgeRunReset s).KeepsStore s := by
  unfold judgeRunReset
  split
  · exact finish_store _ _ _
  · trivial

theorem judgeAck_keepsStore (s : State) (body : List Byte) : (judgeAck s body).KeepsStore s := by
  unfold judgeAck
  dsimp only
  split
  · trivial
  · split <;> trivial

theorem judgeClear_keepsStore (s : State) (body : List Byte) : (judgeClear s body).KeepsStore s := by
  unfold judgeClear
  dsimp only
  split
  · trivial
  · split
    · trivial
    · split
      · trivial
      · simpa using store_of_sizes (dropAlarm_sizes s _)

/-! ### Marks of the shaft and frames of the line -/

theorem withMark_store {s : State} (m : Mark) {work : State → Revolution → State}
    (hw : ∀ s r, (work s r).sizes = s.sizes) : (withMark s m work).store = s.store := by
  unfold withMark
  split
  · simpa using store_of_sizes (restoreStep_sizes s m)
  · split
    · split
      · simpa using store_of_sizes ((hw _ _).trans (takeMark_sizes s _ m))
      · rfl
    · rfl

theorem hear_store {s : State} (k : FrameKind) (f : HeardFrame) {act : State → Nat → Frame → State}
    (ha : ∀ s n f, (act s n f).sizes = s.sizes) : (hear s k f act).store = s.store := by
  unfold hear
  split
  · exact store_of_sizes (dropFrame_sizes s)
  · rename_i n c _
    have hchecked : (checkDuplicate (markSender s n c) n).sizes = s.sizes := by simp
    dsimp only
    rw [finish_store]
    split
    · exact store_of_sizes ((ha _ _ _).trans hchecked)
    · exact store_of_sizes hchecked

/-! ### Events that look at a record first -/

theorem execRestMark_keepsStore (s : State) : KeepsStore s (execRestMark s) := by
  unfold execRestMark
  refine keepsStore_ite (keepsStore_finish (by simp)) ?_
  split
  · exact keepsStore_if (by simp)
  · rfl

theorem execLeadSenseConfirm_keepsStore (s : State) : KeepsStore s (execLeadSenseConfirm s) := by
  unfold execLeadSenseConfirm
  split
  · exact keepsStore_ite rfl rfl
  · rfl

theorem execClinchConfirm_keepsStore (s : State) : KeepsStore s (execClinchConfirm s) := by
  unfold execClinchConfirm
  split
  · exact keepsStore_ite rfl rfl
  · rfl

theorem execGateHoldLimitExpiry_keepsStore (s : State) : KeepsStore s (execGateHoldLimitExpiry s) := by
  unfold execGateHoldLimitExpiry
  refine keepsStore_ite ?_ rfl
  dsimp only
  split
  · exact keepsStore_finish (by simp)
  · exact keepsStore_finish rfl

theorem execAxisStep_keepsStore (ax : Axis) (s : State) : KeepsStore s (execAxisStep ax s) := by
  unfold execAxisStep
  cases s.table.op with
  | none => rfl
  | move _ m => exact keepsStore_if (stepMotion_sizes s ax m)
  | jog _ _ m => exact keepsStore_if (stepMotion_sizes s ax m)
  | home h => exact keepsStore_if (stepHome_sizes s ax h)

theorem execSettleExpiry_keepsStore (s : State) : KeepsStore s (execSettleExpiry s) := by
  unfold execSettleExpiry
  split
  · exact keepsStore_if (completeMotion_sizes s)
  · rfl

theorem execIndexMark_keepsStore (ax : Axis) (s : State) : KeepsStore s (execIndexMark ax s) :=
  keepsStore_ite (keepsStore_finish (by simp)) (keepsStore_finish (by simp))

theorem execHomeLimitExpiry_keepsStore (s : State) : KeepsStore s (execHomeLimitExpiry s) := by
  unfold execHomeLimitExpiry
  cases s.table.op with
  | home h => exact keepsStore_if (stopAlarm_sizes s _ _)
  | _ => rfl

theorem execActuatorInPosition_keepsStore (a : Actuator) (s : State) : KeepsStore s (execActuatorInPosition a s) := by
  unfold execActuatorInPosition
  split
  · exact keepsStore_finish (reportPosition_sizes s a _)
  · rfl

theorem execDropConfirm_keepsStore (d : Fin 64) (s : State) : KeepsStore s (execDropConfirm d s) := by
  unfold execDropConfirm
  split
  · exact keepsStore_finish (confirmDrop_sizes s _ _)
  · exact keepsStore_finish (lateConfirm_sizes s _ _)
  · rfl

theorem execVerifyWord_keepsStore (bits : List Bool) (s : State) : KeepsStore s (execVerifyWord bits s) := by
  unfold execVerifyWord
  split
  · exact keepsStore_if (applyResult_sizes s _ _)
  · rfl

theorem execLineIndex_keepsStore (s : State) : KeepsStore s (execLineIndex s) :=
  keepsStore_if (by simp [takeIndex_sizes])

theorem execEntrySensor_keepsStore (s : State) : KeepsStore s (execEntrySensor s) := by
  unfold execEntrySensor
  dsimp only
  split
  · exact keepsStore_finish (by simp)
  · exact keepsStore_finish rfl

theorem execExitSensor_keepsStore (s : State) : KeepsStore s (execExitSensor s) := by
  unfold execExitSensor
  split
  · exact keepsStore_finish (by simp)
  · rfl

theorem execTransferLimitExpiry_keepsStore (s : State) : KeepsStore s (execTransferLimitExpiry s) := by
  unfold execTransferLimitExpiry
  split
  · exact keepsStore_if (jamTransfer_sizes s _)
  · rfl

theorem execFrameBegin_keepsStore (s : State) : KeepsStore s (execFrameBegin s) := by
  unfold execFrameBegin
  split
  · exact keepsStore_ite rfl rfl
  · rfl

theorem execFrameSent_keepsStore (s : State) : KeepsStore s (execFrameSent s) := by
  unfold execFrameSent
  split
  · exact keepsStore_finish (sentFrame_sizes s _)
  · rfl

theorem execFrameAttemptFailed_keepsStore (s : State) : KeepsStore s (execFrameAttemptFailed s) := by
  unfold execFrameAttemptFailed
  split <;> rfl

theorem execStatusIntervalExpiry_keepsStore (s : State) : KeepsStore s (execStatusIntervalExpiry s) :=
  keepsStore_ite (store_of_sizes (queueStatus_sizes s)) rfl

/-! ### Every command -/

/-- A command that is neither PIN_RESET nor one of the store's own requests leaves the program store as it is (R1). -/
theorem exec_keepsStore (s : State) : ∀ c : Instr, c ≠ .pinReset → c.ofStore = false → KeepsStore s (exec c s)
  | .pinReset, h, _ => absurd rfl h
  | .readTransaction _, _, _ => rfl
  | .unknownRequest _ _, _, _ => rfl
  | .setup _, _, _ => keepsStore_request _ _ _ _ (judgeSetup_keepsStore s)
  | .readStatus _, _, _ => keepsStore_request _ _ _ _ fun _ => rfl
  | .readReports _, _, _ => keepsStore_request _ _ _ _ (judgeReadReports_keepsStore s)
  | .reelLoad bytes, _, _ => execReelLoad_keepsStore bytes s
  | .serviceBegin _, _, _ => keepsStore_request _ _ _ _ fun body => onDispenser_keepsStore body (beginService_keepsStore s)
  | .serviceEnd _, _, _ => keepsStore_request _ _ _ _ fun body => onDispenser_keepsStore body (endService_keepsStore s)
  | .lock _, _, _ => keepsStore_request _ _ _ _ fun body => onDispenser_keepsStore body (lockDispenser_keepsStore s)
  | .unlock _, _, _ => keepsStore_request _ _ _ _ fun body => onDispenser_keepsStore body (unlockDispenser_keepsStore s)
  | .releaseGroup _, _, _ => keepsStore_request _ _ _ _ (releaseGroup_keepsStore s)
  | .readDispenser _, _, _ => keepsStore_request _ _ _ _ fun body => onDispenser_keepsStore body fun _ _ => rfl
  | .home _, _, _ => keepsStore_request _ _ _ _ fun _ => judgeHome_keepsStore s
  | .jog _, _, _ => keepsStore_request _ _ _ _ (judgeJog_keepsStore s)
  | .readPosition _, _, _ => keepsStore_request _ _ _ _ fun _ => rfl
  | .boardLoad _, _, _ => keepsStore_request _ _ _ _ (judgeBoardLoad_keepsStore s)
  | .imageSkip _, _, _ => keepsStore_request _ _ _ _ (judgeImageSkip_keepsStore s)
  | .boardWithdraw _, _, _ => keepsStore_request _ _ _ _ (judgeWithdraw_keepsStore s)
  | .readBoard _, _, _ => keepsStore_request _ _ _ _ (judgeReadBoard_keepsStore s)
  | .start _, _, _ => keepsStore_request _ _ _ _ fun _ => judgeStart_keepsStore s
  | .stop bytes, _, _ => execStop_keepsStore bytes s
  | .runReset _, _, _ => keepsStore_request _ _ _ _ fun _ => judgeRunReset_keepsStore s
  | .alarmAck _, _, _ => keepsStore_request _ _ _ _ (judgeAck_keepsStore s)
  | .alarmClear _, _, _ => keepsStore_request _ _ _ _ (judgeClear_keepsStore s)
  | .readAlarms _, _, _ => keepsStore_request _ _ _ _ fun _ => rfl
  | .revolutionStart, _, _ => keepsStore_if (tryStart_sizes s)
  | .restoringTurnStart, _, _ => keepsStore_if (startRestoring_sizes s)
  | .restMark, _, _ => execRestMark_keepsStore s
  | .transferMark, _, _ => withMark_store .transfer transferWork_sizes
  | .advanceMark, _, _ => withMark_store .advance advanceWork_sizes
  | .leadSenseConfirm, _, _ => execLeadSenseConfirm_keepsStore s
  | .pitchConfirm, _, _ => keepsStore_if (confirmPitch_sizes s)
  | .dropMark, _, _ => withMark_store .drop dropMarkWork_sizes
  | .verifyMark, _, _ => withMark_store .verify fun s _ => verifyWork_sizes s
  | .verifyWord bits, _, _ => execVerifyWord_keepsStore bits s
  | .gateMark, _, _ => withMark_store .gate gateWork_sizes
  | .downMark, _, _ => withMark_store .down downWork_sizes
  | .clinchMark, _, _ => withMark_store .clinch clinchWork_sizes
  | .clinchConfirm, _, _ => execClinchConfirm_keepsStore s
  | .upMark, _, _ => withMark_store .up upWork_sizes
  | .markTimeoutExpiry, _, _ => keepsStore_if (stopAlarm_sizes _ _ _)
  | .chainTimerExpiry, _, _ => keepsStore_if (stopAlarm_sizes _ _ _)
  | .actuatorInPosition a, _, _ => execActuatorInPosition_keepsStore a s
  | .actuatorTimerExpiry _, _, _ => keepsStore_if (stopAlarm_sizes _ _ _)
  | .gateHoldLimitExpiry, _, _ => execGateHoldLimitExpiry_keepsStore s
  | .axisStep ax, _, _ => execAxisStep_keepsStore ax s
  | .settleExpiry, _, _ => execSettleExpiry_keepsStore s
  | .indexMark ax, _, _ => execIndexMark_keepsStore ax s
  | .homeInput ax, _, _ => keepsStore_finish (reachHome_sizes _ ax)
  | .homeLimitExpiry, _, _ => execHomeLimitExpiry_keepsStore s
  | .guardOpen, _, _ => keepsStore_ite rfl (keepsStore_finish (openGuard_sizes s))
  | .guardClose, _, _ => keepsStore_if (closeGuard_sizes s)
  | .tapeEnd d active, _, _ => store_of_sizes (noteTapeEnd_sizes s d active)
  | .dropConfirm d, _, _ => execDropConfirm_keepsStore d s
  | .indexHoldLevelChange released, _, _ => store_of_sizes (noteLine_sizes s released)
  | .lineIndex, _, _ => execLineIndex_keepsStore s
  | .entrySensor, _, _ => execEntrySensor_keepsStore s
  | .entrySensorEmpty, _, _ => keepsStore_finish rfl
  | .exitSensor, _, _ => execExitSensor_keepsStore s
  | .clampClosed, _, _ => keepsStore_if (tryComplete_sizes _)
  | .withdrawClampOpen, _, _ => keepsStore_if (by simp)
  | .transferLimitExpiry, _, _ => execTransferLimitExpiry_keepsStore s
  | .passportWaitExpiry, _, _ => keepsStore_if (expireWait_sizes s)
  | .silenceExpiry station, _, _ => keepsStore_if (modRoster_sizes s station _)
  | .statusIntervalExpiry, _, _ => execStatusIntervalExpiry_keepsStore s
  | .frameBegin, _, _ => execFrameBegin_keepsStore s
  | .frameSent, _, _ => execFrameSent_keepsStore s
  | .frameAttemptFailed, _, _ => execFrameAttemptFailed_keepsStore s
  | .frameDropped, _, _ => store_of_sizes (dropFrame_sizes s)
  | .withdrawFrame f, _, _ => hear_store .withdraw f fun s _ c => by split <;> simp
  | .claimFrame f, _, _ => hear_store .claim f fun s _ c => by split <;> simp
  | .oweFrame f, _, _ => hear_store .owe f fun s _ c => by split <;> simp
  | .announceFrame f, _, _ => hear_store .announce f fun s _ c => by split <;> simp
  | .passportHead f, _, _ => hear_store .passportHead f fun s _ c => by split <;> simp
  | .passportEntry f, _, _ => hear_store .passportEntry f fun s _ c => by split <;> simp
  | .statusFrame f, _, _ => hear_store .status f fun _ _ _ => rfl

/-! ### The banks that are READY (R6 to R14) -/

/-- Every bank READY in the new store was READY in the old one. -/
def Store.ReadyWithin (old new : Store) : Prop := ∀ b, (new.bank b).state = .ready → (old.bank b).state = .ready

section
variable {st : Store}

theorem Store.readyWithin_setBank {b : BankId} {v : Bank} (h : v.state = .ready → (st.bank b).state = .ready) :
    st.ReadyWithin (st.setBank b v) := by
  intro x hx
  by_cases hxb : x = b
  · subst hxb
    rw [Store.bank_setBank_self] at hx
    exact h hx
  · rwa [Store.bank_setBank_of_ne st v hxb] at hx

theorem Store.readyWithin_setBank_withBlock {b : BankId} {v : Bank} (o : Option OpenBlock)
    (h : v.state = .ready → (st.bank b).state = .ready) :
    st.ReadyWithin { st.setBank b v with block := o } := by
  intro x hx
  rw [Store.bank_withBlock] at hx
  exact Store.readyWithin_setBank h x hx

theorem Store.readyWithin_withBlock (o : Option OpenBlock) : st.ReadyWithin { st with block := o } := by
  intro b hb
  rwa [Store.bank_withBlock] at hb

theorem Store.readyWithin_refl : st.ReadyWithin st := fun _ h => h

end

/-- The answer, if it is one, makes no bank READY. -/
abbrev Verdict.ReadiesNone (s : State) (v : Verdict) : Prop := v.Leaves s.store.ReadyWithin

theorem aborted_readiesNone (s : State) (b : BankId) (c : AbortCause) : (aborted s b c).ReadiesNone s :=
  Store.readyWithin_setBank_withBlock none nofun

theorem onBank_readiesNone {s : State} (body : List Byte) {f : BankId → Verdict} (hf : ∀ b, (f b).ReadiesNone s) :
    (onBank body f).ReadiesNone s := by
  unfold onBank
  split
  · exact hf _
  · trivial

theorem unlessOpen_readiesNone {s : State} {v : Verdict} (hv : v.ReadiesNone s) : (unlessOpen s v).ReadiesNone s := by
  unfold unlessOpen
  split
  · exact aborted_readiesNone s _ _
  · exact hv

theorem openBank_readiesNone (s : State) (body : List Byte) (b : BankId) : (openBank s body b).ReadiesNone s := by
  unfold openBank
  dsimp only
  split
  · trivial
  · split_ifs
    case neg => exact Store.readyWithin_setBank nofun
    all_goals trivial

theorem beginBlock_readiesNone (s : State) (body : List Byte) (b : BankId) : (beginBlock s body b).ReadiesNone s := by
  unfold beginBlock
  dsimp only
  split_ifs
  · trivial
  · exact aborted_readiesNone s b _
  · exact aborted_readiesNone s b _
  · exact Store.readyWithin_withBlock _

theorem takeStep_readiesNone (s : State) (ob : OpenBlock) (body : List Byte) (b : BankId) :
    (takeStep s ob body b).ReadiesNone s := by
  unfold takeStep
  split_ifs
  · exact aborted_readiesNone s _ _
  · exact aborted_readiesNone s _ _
  · split
    · exact aborted_readiesNone s b _
    · exact Store.readyWithin_withBlock _

/-- The committed steps join their bank in the state it has (R10). -/
theorem commitBlock_readiesNone (s : State) (ob : OpenBlock) (b : BankId) : (commitBlock s ob b).ReadiesNone s := by
  unfold commitBlock
  split
  · exact aborted_readiesNone s _ _
  · refine Store.readyWithin_setBank_withBlock none ?_
    exact fun h => h

theorem clearBank_readiesNone (s : State) (b : BankId) : (clearBank s b).ReadiesNone s := by
  unfold clearBank
  split
  · exact Store.readyWithin_setBank nofun
  · trivial

theorem eraseBank_readiesNone (s : State) (b : BankId) : (eraseBank s b).ReadiesNone s := by
  have hempty : (Verdict.done (putBank s b Bank.emptied)).ReadiesNone s := Store.readyWithin_setBank nofun
  unfold eraseBank
  split
  · split
    · trivial
    · exact hempty
  · exact hempty
  all_goals trivial

theorem writePart_readiesNone (s : State) (body : List Byte) : (writePart s body).ReadiesNone s := by
  unfold writePart
  dsimp only
  split
  · trivial
  · split
    · trivial
    · exact fun b h => by cases b <;> exact h

/-- A request of the program store other than BANK_CLOSE makes no bank READY. -/
theorem exec_ofStore_readyWithin {c : Instr} {s t : State} (ho : c.ofStore = true) (hc : ∀ bytes, c ≠ .bankClose bytes)
    (h : exec c s = .next t) : s.store.ReadyWithin t.store := by
  cases c with
  | bankClose bytes => exact absurd rfl (hc bytes)
  | bankOpen bytes =>
    cases h
    exact request_leaves _ _ _ _ Store.readyWithin_refl fun body =>
      onBank_readiesNone body fun b => unlessOpen_readiesNone (openBank_readiesNone s body b)
  | blockBegin bytes =>
    cases h
    exact request_leaves _ _ _ _ Store.readyWithin_refl fun body =>
      onBank_readiesNone body fun b => unlessOpen_readiesNone (beginBlock_readiesNone s body b)
  | stepRecord bytes =>
    cases h
    refine request_leaves _ _ _ _ Store.readyWithin_refl fun body => onBank_readiesNone body fun b => ?_
    split
    · trivial
    · exact takeStep_readiesNone s _ body b
  | blockCommit bytes =>
    cases h
    refine request_leaves _ _ _ _ Store.readyWithin_refl fun body => onBank_readiesNone body fun b => ?_
    split
    · trivial
    · exact commitBlock_readiesNone s _ b
  | bankClearAbort bytes =>
    cases h
    exact request_leaves _ _ _ _ Store.readyWithin_refl fun body =>
      onBank_readiesNone body fun b => unlessOpen_readiesNone (clearBank_readiesNone s b)
  | bankErase bytes =>
    cases h
    exact request_leaves _ _ _ _ Store.readyWithin_refl fun body =>
      onBank_readiesNone body fun b => unlessOpen_readiesNone (eraseBank_readiesNone s b)
  | partEntry bytes =>
    cases h
    exact request_leaves _ _ _ _ Store.readyWithin_refl (writePart_readiesNone s)
  | _ => cases ho

/-- A command other than BANK_CLOSE makes no bank READY: PIN_RESET empties both (R1). -/
theorem exec_readyWithin {c : Instr} {s t : State} (hc : ∀ bytes, c ≠ .bankClose bytes) (h : exec c s = .next t) :
    s.store.ReadyWithin t.store := by
  by_cases hp : c = .pinReset
  · subst hp
    cases h
    exact fun b hb => by cases b <;> cases hb
  · cases ho : c.ofStore with
    | true => exact exec_ofStore_readyWithin ho hc h
    | false =>
      have hk := exec_keepsStore s c hp ho
      rw [h, keepsStore_next] at hk
      rw [hk]
      exact Store.readyWithin_refl

end Sys2Proof.Machine
end

