-- ==== Sys2Proof/Proofs/BankRequests.lean ====
section
/-! PROOF. The statements about BLOCK_BEGIN, BLOCK_COMMIT and BANK_CLEAR_ABORT (R7, R8, R10, R13). -/

namespace Sys2Proof.Machine

/-- Settles O18: BLOCK_BEGIN is judged for the bank it names, with the open block or by one of the four cases of R8. -/
theorem blockBeginOpensABlock : Obligations.BlockBeginOpensABlock := by
  unfold Obligations.BlockBeginOpensABlock
  intro s x n extra b hb
  rw [exec_blockBegin_framed s extra hb n]
  refine ⟨fun hn hl => ?refused, fun hn hl hsize => ?size, fun hn hl hlo hhi hx => ?excess,
    fun hn hl hlo hhi hx => ?fits, fun ob ho => ?sequence⟩
  case refused => rw [unlessOpen_of_none _ hn, beginBlock_of_not_loading hl]; rfl
  case size => rw [unlessOpen_of_none _ hn, beginBlock_of_bad_size hl hsize]; rfl
  case excess => rw [unlessOpen_of_none _ hn, beginBlock_of_excess hl hlo hhi hx]; rfl
  case fits => rw [unlessOpen_of_none _ hn, beginBlock_of_fits hl hlo hhi hx]; rfl
  case sequence => rw [unlessOpen_of_some _ ho]; rfl

/-- Settles O20: only BANK_CLOSE makes a bank READY, by the frame of every other command; BLOCK_COMMIT by the open block
and whether it is full. -/
theorem blockCommitAppendsTheBlock : Obligations.BlockCommitAppendsTheBlock := by
  unfold Obligations.BlockCommitAppendsTheBlock
  constructor
  · intro c s t b h hs ht
    by_contra hc
    have hclose : ∀ bytes, c ≠ .bankClose bytes := fun bytes hbytes => hc ⟨bytes, hbytes⟩
    exact hs (exec_readyWithin hclose h b ht)
  · intro s x extra b hb
    refine ⟨exec_blockCommit_framed_of_none s extra hb, fun ob ho hun => ?sequence, fun ob ho hob hl => ?full⟩
    case sequence =>
      rw [exec_blockCommit_framed_of_some s extra hb ho, commitBlock_of_unfinished hun]
      rfl
    case full =>
      rw [exec_blockCommit_framed_of_some s extra hb ho, commitBlock_of_full hob hl]
      have hbank := Store.bank_setBank_withBlock s.store b
        { s.store.bank b with steps := (s.store.bank b).steps ++ ob.steps } none
      refine ⟨_, rfl, rfl, ?store, hbank, ?count⟩
      case store => cases b <;> rfl
      case count => exact (congrArg (·.steps.length) hbank).trans (by rw [List.length_append, hl])

/-- Settles O22: BANK_CLEAR_ABORT by the bank's state or the open block; BANK_OPEN reaches the state check of R6 and is
refused there. -/
theorem bankClearAbortEmptiesAnAbortedBank : Obligations.BankClearAbortEmptiesAnAbortedBank := by
  unfold Obligations.BankClearAbortEmptiesAnAbortedBank
  intro s x extra b hb
  rw [exec_bankClearAbort_framed s extra hb]
  refine ⟨fun hn ha => ?emptied, fun hn ha => ?refused, fun ob ho => ?sequence, ?reopened⟩
  case emptied => rw [unlessOpen_of_none _ hn, clearBank_of_aborted ha]; rfl
  case refused => rw [unlessOpen_of_none _ hn, clearBank_of_not_aborted ha]; rfl
  case sequence => rw [unlessOpen_of_some _ ho]; rfl
  case reopened =>
    intro body images hl hx hn ha hu hi hany hid hlo hhi
    rw [exec_bankOpen_framed s extra hl (by rw [hx, hb]), unlessOpen_of_none _ hn,
      openBank_of_aborted hi hany hid hlo hhi hu ha]
    rfl

end Sys2Proof.Machine
end

