-- ==== Sys2Proof/Proofs/DispenserRequests.lean ====
section
/-! PROOF. The requests that name one dispenser (2.2): how they reach the rule of their code, what a changed record is, and
the statement about SERVICE_END (R23). -/

namespace Sys2Proof.Machine

/-! ### Dispenser records -/

/-- A record replaced by a function of itself is that record changed; past the records neither changes anything. -/
theorem modDisp_dispAt (s : State) (d : Nat) (f : Dispenser → Dispenser) :
    modDisp s d (fun _ => f (dispAt s d)) = modDisp s d f := by
  have hrec : s.disp.records.modify d (fun _ => f (dispAt s d)) = s.disp.records.modify d f := by
    refine List.ext_getElem (by simp only [List.length_modify]) fun i hi _ => ?_
    rw [List.length_modify] at hi
    rw [List.getElem_modify, List.getElem_modify]
    split
    case isTrue hd =>
      subst hd
      rw [dispAt, List.getD_eq_getElem _ _ hi]
    case isFalse => rfl
  simp only [modDisp, hrec]

/-- The answer of a dispenser request that changes a record by a function of that record. -/
theorem changeDispenser_dispAt (s : State) (d : Nat) (f : Dispenser → Dispenser) :
    changeDispenser s d (f (dispAt s d)) =
      .answer .done (.dispenserState (f (dispAt s d)).state) (modDisp s d f) :=
  congrArg (Verdict.answer .done (.dispenserState (f (dispAt s d)).state)) (modDisp_dispAt s d f)

/-- The state that a dispenser returns to, by its part code and its tape-end level (2.1). -/
theorem Dispenser.byReel_eq (r : Dispenser) :
    r.byReel = if r.part = none then .unloaded else if r.tapeEnd then .out else .ready := by
  simp only [Dispenser.byReel, Dispenser.byLevel, Option.isNone_iff_eq_none]

/-! ### From a frame to its rule (R183) -/

/-- A dispenser in range is judged by a rule that itself refuses an ABSENT one, as the check before the rule does (2.1). -/
theorem onDispenser_of_le {s : State} {body : List Byte} {f : Nat → Dispenser → Verdict} (hd : at8 body 0 ≤ 63)
    (ha : (dispAt s (at8 body 0)).state = .absent → f (at8 body 0) (dispAt s (at8 body 0)) = .refuse .refusedState) :
    onDispenser s body f = f (at8 body 0) (dispAt s (at8 body 0)) := by
  unfold onDispenser
  dsimp only
  rw [if_neg (by omega)]
  split
  case isTrue habsent => exact (ha habsent).symm
  case isFalse => rfl

/-- A well-formed request whose body is one dispenser number in range, at a configured station. -/
theorem request_onDispenser {s : State} (code : Byte) {d : Byte} (extra : List Byte) {f : Nat → Dispenser → Verdict}
    (hs : s.jam.run ≠ .unconfigured) (hd : d.toNat ≤ 63)
    (ha : (dispAt s d.toNat).state = .absent → f d.toNat (dispAt s d.toNat) = .refuse .refusedState) :
    request s code 1 false (framed [d] extra) (fun body => onDispenser s body f) =
      (f d.toNat (dispAt s d.toNat)).conclude s code := by
  rw [request_framed s code false extra _ List.length_singleton (by decide) (.inr hs),
    onDispenser_of_le (body := [d]) hd ha]
  rfl

/-! ### SERVICE_END (R23) -/

theorem endService_of_taken {s : State} {d : Nat}
    (h : (dispAt s d).state = .service ∨ (dispAt s d).state = .jammed) :
    endService s d (dispAt s d) =
      .answer .done (.dispenserState (dispAt s d).byReel)
        (modDisp s d fun r => { r with faults := 0, state := (dispAt s d).byReel }) := by
  have hchange := changeDispenser_dispAt s d fun r => { r with faults := 0, state := (dispAt s d).byReel }
  rcases h with h | h <;> simpa only [endService, h] using hchange

theorem endService_of_not_taken (s : State) (d : Nat) {r : Dispenser} (hs : r.state ≠ .service)
    (hj : r.state ≠ .jammed) : endService s d r = .refuse .refusedState := by
  unfold endService
  split
  case h_1 h => exact absurd h hs
  case h_2 h => exact absurd h hj
  all_goals rfl

theorem exec_serviceEnd_framed {s : State} {d : Byte} (extra : List Byte) (hs : s.jam.run ≠ .unconfigured)
    (hd : d.toNat ≤ 63) :
    exec (.serviceEnd (framed [d] extra)) s = .next ((endService s d.toNat (dispAt s d.toNat)).conclude s 0x22) :=
  congrArg Host.Outcome.next (request_onDispenser 0x22 extra hs hd fun ha =>
    endService_of_not_taken s d.toNat (by simp [ha]) (by simp [ha]))

/-- Settles O27: SERVICE_END by the dispenser's state; an ABSENT one is among the states that refuse. -/
theorem serviceEndReturnsADispenser : Obligations.ServiceEndReturnsADispenser := by
  unfold Obligations.ServiceEndReturnsADispenser
  intro s d extra hs hd
  rw [exec_serviceEnd_framed extra hs hd]
  refine ⟨fun htaken => ⟨(dispAt s d.toNat).byReel, Dispenser.byReel_eq _, ?taken⟩, fun hns hnj => ?refused⟩
  case taken => rw [endService_of_taken htaken]; rfl
  case refused => rw [endService_of_not_taken s d.toNat hns hnj]; rfl

end Sys2Proof.Machine
end

section
/-! PROOF. The statement about READ_ALARMS (R180). -/

namespace Sys2Proof.Machine

/-- A well-formed READ_ALARMS is answered with the snapshot whether or not the station is set up (R185). -/
theorem exec_readAlarms_framed (s : State) (extra : List Byte) :
    exec (.readAlarms (framed [] extra)) s = .next (respond s .done 0x55 (.alarms (alarmsReply s))) :=
  congrArg Host.Outcome.next
    (request_framed s 0x55 true extra (fun _ => .answer .done (.alarms (alarmsReply s)) s) List.length_nil
      (by decide) (.inl rfl))

/-- The snapshot's lamp stands for the list not being empty, its horn for a STOP entry not acknowledged (R179). -/
theorem alarmsReply_eq (s : State) :
    alarmsReply s =
      { run := s.jam.run, qualifier := s.jam.qualifier, listOverflow := s.jam.listOverflow,
        unrecordedHalt := s.jam.unrecordedHalt, purgeRequired := s.chain.purgeRequired,
        purgeCount := s.jam.purgeCount, guardHold := s.inputs.guardOpen, lamp := !s.jam.alarms.isEmpty,
        horn := s.jam.alarms.any (fun e => e.cls.stop && !e.acked), alarms := s.jam.alarms } := by
  simp only [alarmsReply, lampLit, hornSounds, activeStop]

/-- Settles O15: READ_ALARMS reaches the snapshot in any run state, and its response changes the response buffer alone. -/
theorem readAlarmsReturnsTheSupervisorsState : Obligations.ReadAlarmsReturnsTheSupervisorsState := by
  unfold Obligations.ReadAlarmsReturnsTheSupervisorsState
  intro s extra
  rw [exec_readAlarms_framed, alarmsReply_eq, respond]

end Sys2Proof.Machine
end

section
/-! PROOF. The statement about READ_REPORTS (R190). -/

namespace Sys2Proof.Machine

/-- A well-formed READ_REPORTS is judged by its count whether or not the station is set up (R185). -/
theorem exec_readReports_framed (s : State) (n : Byte) (extra : List Byte) :
    exec (.readReports (framed [n] extra)) s = .next ((judgeReadReports s [n]).conclude s 0x03) :=
  congrArg Host.Outcome.next
    (request_framed s 0x03 true extra (judgeReadReports s) List.length_singleton (by decide) (.inl rfl))

/-- The overflow flag survives exactly when a report is left. -/
theorem takeReports_eq (s : State) (n : Nat) :
    takeReports s n = s.setConsole { s.console with
      reports := s.console.reports.drop n
      overflow := if s.console.reports.drop n = [] then false else s.console.overflow } := by
  unfold takeReports
  cases s.console.reports.drop n with
  | nil => simp only [List.isEmpty_nil, Bool.not_true, Bool.and_false, if_true]
  | cons r rs => simp only [List.isEmpty_cons, Bool.not_false, Bool.and_true, reduceCtorEq, if_false]

section
variable (s : State) {n : Byte}

theorem judgeReadReports_of_within (hlo : 1 ≤ n.toNat) (hhi : n.toNat ≤ 16) :
    judgeReadReports s [n] =
      .answer .done (.reports (s.console.reports.take n.toNat) (s.console.reports.length - n.toNat) s.console.overflow)
        (takeReports s n.toNat) :=
  if_pos ((within_iff 1 n.toNat 16).mpr ⟨hlo, hhi⟩)

theorem judgeReadReports_of_out_of_range (h : n.toNat = 0 ∨ 16 < n.toNat) :
    judgeReadReports s [n] = .refuse .refusedRange := by
  refine if_neg fun hw => ?_
  obtain ⟨hlo, hhi⟩ := (within_iff 1 n.toNat 16).mp hw
  omega

end

/-- Settles O16: READ_REPORTS reaches the judgement of its count in any run state; in range the response carries the
flag of the state before the reports leave, else the request is refused. -/
theorem readReportsHandsOutTheOldest : Obligations.ReadReportsHandsOutTheOldest := by
  unfold Obligations.ReadReportsHandsOutTheOldest
  intro s n extra
  rw [exec_readReports_framed]
  refine ⟨fun hlo hhi => ?taken, fun hout => ?refused⟩
  case taken => rw [judgeReadReports_of_within s hlo hhi, takeReports_eq]; rfl
  case refused => rw [judgeReadReports_of_out_of_range s hout]; rfl

end Sys2Proof.Machine
end

section
/-! SUPPORT. A property of the state that an outcome goes on with; and the rule of the index hold line through every
command (R125, R126). -/

namespace Sys2Proof.Machine

/-! ### Outcomes -/

/-- The next state, if there is one, has a property. -/
def Leads (P : State → Prop) : Host.Outcome State Fault Refusal → Prop
  | .next t => P t
  | .fault _ => True
  | .refused _ => True

section
variable {P : State → Prop} {s t : State}

@[simp] theorem leads_next : Leads P (.next t) ↔ P t := Iff.rfl

theorem leads_ite {p : Prop} [Decidable p] {a b : Host.Outcome State Fault Refusal} (ha : p → Leads P a)
    (hb : ¬p → Leads P b) : Leads P (if p then a else b) := by
  split
  case isTrue h => exact ha h
  case isFalse h => exact hb h

/-- Whatever the front command is, a property of its next state is one of the step's; else it is one of idle's. -/
theorem leads_step (hi : P (idle s)) (he : ∀ c rest, Leads P (exec c (s.setPending rest))) : Leads P (step s) := by
  unfold step
  split
  · exact hi
  · exact he _ _

end

/-! ### The rule of the hold line, request by request -/

section
variable {s : State}

@[simp] theorem Verdict.held_refuse (rc : ResultCode) : (Verdict.refuse rc).held := trivial
@[simp] theorem Verdict.held_answer (rc : ResultCode) (body : Body) (t : State) :
    (Verdict.answer rc body t).held ↔ HoldInv t := Iff.rfl
@[simp] theorem Verdict.held_done (t : State) : (Verdict.done t).held ↔ HoldInv t := Iff.rfl
@[simp] theorem Verdict.held_started (t : State) : (Verdict.started t).held ↔ HoldInv t := Iff.rfl

/-- The part pulls the line after pin reset, whatever its inputs are: the station is UNCONFIGURED (R125, condition 1). -/
theorem execPinReset_holdInv (s : State) : Leads HoldInv (execPinReset s) := ⟨rfl, fun _ => ⟨rfl, rfl⟩⟩

/-- An effect on the program store alone. -/
theorem HoldInv.setStore (h : HoldInv s) (v : Store) : HoldInv (s.setStore v) :=
  h.same rfl rfl rfl rfl rfl rfl rfl rfl rfl

/-- An effect on the dispenser unit alone. -/
theorem HoldInv.setDisp (h : HoldInv s) (v : DispUnit) : HoldInv (s.setDisp v) :=
  h.same rfl rfl rfl rfl rfl rfl rfl rfl rfl

theorem HoldInv.setPending (h : HoldInv s) (v : List Instr) : HoldInv (s.setPending v) :=
  h.same rfl rfl rfl rfl rfl rfl rfl rfl rfl

/-- An effect on the revolution record that leaves the shaft as it stands. -/
theorem HoldInv.setStroke (h : HoldInv s) {v : Stroke} (hv : v.shaft = s.stroke.shaft) : HoldInv (s.setStroke v) :=
  h.same rfl rfl hv rfl rfl rfl rfl rfl rfl

/-- An effect on the line controller that leaves the roster as it stands. -/
theorem HoldInv.setLine (h : HoldInv s) {v : Line} (hv : v.roster = s.line.roster) : HoldInv (s.setLine v) :=
  h.same rfl rfl rfl rfl rfl rfl rfl hv rfl

theorem judgeSetup_held (s : State) (body : List Byte) : (judgeSetup s body).held := by
  unfold judgeSetup
  split
  · split
    · trivial
    · exact finish_hold _ _ _
  · trivial

theorem judgeReadReports_held (h : HoldInv s) (body : List Byte) : (judgeReadReports s body).held := by
  unfold judgeReadReports
  dsimp only
  split
  · exact h.same rfl rfl rfl rfl rfl rfl rfl rfl rfl
  · trivial

theorem openBank_held (h : HoldInv s) (body : List Byte) (b : BankId) : (openBank s body b).held := by
  unfold openBank
  dsimp only
  split
  · trivial
  · split_ifs
    case neg => exact h.setStore _
    all_goals trivial

theorem beginBlock_held (h : HoldInv s) (body : List Byte) (b : BankId) : (beginBlock s body b).held := by
  unfold beginBlock
  dsimp only
  split_ifs
  · trivial
  · exact aborted_h h b _
  · exact aborted_h h b _
  · exact h.setStore _

theorem takeStep_held (h : HoldInv s) (ob : OpenBlock) (body : List Byte) (b : BankId) : (takeStep s ob body b).held := by
  unfold takeStep
  split_ifs
  · exact aborted_h h _ _
  · exact aborted_h h _ _
  · split
    · exact aborted_h h _ _
    · exact h.setStore _

theorem commitBlock_held (h : HoldInv s) (ob : OpenBlock) (b : BankId) : (commitBlock s ob b).held := by
  unfold commitBlock
  split_ifs
  · exact aborted_h h _ _
  · exact h.setStore _

/-- A closed bank binds contexts, which the hold line does not read (R16). -/
theorem closeBank_held (h : HoldInv s) (b : BankId) : (closeBank s b).held := by
  unfold closeBank
  dsimp only
  split_ifs
  · trivial
  · exact aborted_h h _ _
  · rw [Verdict.held_done]
    split
    · exact (HSame.bindAtClose _ _ _).hold (h.setStore _)
    · exact h.setStore _

theorem clearBank_held (h : HoldInv s) (b : BankId) : (clearBank s b).held := by
  unfold clearBank
  split_ifs
  · exact h.setStore _
  · trivial

theorem eraseBank_held (h : HoldInv s) (b : BankId) : (eraseBank s b).held := by
  unfold eraseBank
  split
  · split_ifs
    · trivial
    · exact h.setStore _
  · exact h.setStore _
  all_goals trivial

theorem writePart_held (h : HoldInv s) (body : List Byte) : (writePart s body).held := by
  unfold writePart
  dsimp only
  split
  · trivial
  · split_ifs
    · trivial
    · exact h.setStore _

theorem loadReel_held (h : HoldInv s) (body : List Byte) (d : Nat) (r : Dispenser) : (loadReel s body d r).held := by
  unfold loadReel
  split
  · trivial
  · exact h.setDisp _

theorem beginService_held (h : HoldInv s) (d : Nat) (r : Dispenser) : (beginService s d r).held := by
  unfold beginService
  split
  iterate 4 exact h.setDisp _
  all_goals trivial

theorem endService_held (h : HoldInv s) (d : Nat) (r : Dispenser) : (endService s d r).held := by
  unfold endService
  split
  iterate 2 exact h.setDisp _
  all_goals trivial

theorem lockDispenser_held (h : HoldInv s) (d : Nat) (r : Dispenser) : (lockDispenser s d r).held := by
  unfold lockDispenser
  split
  iterate 3 exact h.setDisp _
  all_goals trivial

theorem unlockDispenser_held (h : HoldInv s) (d : Nat) (r : Dispenser) : (unlockDispenser s d r).held := by
  unfold unlockDispenser
  split_ifs
  · exact h.setDisp _
  · trivial

theorem releaseGroup_held (h : HoldInv s) (body : List Byte) : (releaseGroup s body).held := by
  unfold releaseGroup
  dsimp only
  split_ifs
  · trivial
  · exact h.setDisp _

theorem judgeHome_held (s : State) : (judgeHome s).held := by
  unfold judgeHome
  split_ifs
  · exact finish_hold _ _ _
  · trivial

theorem judgeJog_held (s : State) (body : List Byte) : (judgeJog s body).held := by
  unfold judgeJog
  split
  · dsimp only
    split_ifs
    case neg => exact finish_hold _ _ _
    all_goals trivial
  · trivial

theorem judgeBoardLoad_held (h : HoldInv s) (body : List Byte) : (judgeBoardLoad s body).held := by
  unfold judgeBoardLoad
  dsimp only
  split_ifs
  · trivial
  · trivial
  · split
    · exact takeBoard_h h _ _ _ _ (by assumption)
    · trivial

theorem judgeImageSkip_held (s : State) (body : List Byte) : (judgeImageSkip s body).held := by
  unfold judgeImageSkip
  dsimp only
  split_ifs
  · trivial
  · split
    · exact finish_hold _ _ _
    · trivial

theorem judgeWithdraw_held (s : State) (body : List Byte) : (judgeWithdraw s body).held := by
  unfold judgeWithdraw
  dsimp only
  split
  · trivial
  · split
    · split
      · exact finish_hold _ _ _
      · trivial
    · split
      · exact finish_hold _ _ _
      · trivial
    · trivial

theorem judgeReadBoard_held (h : HoldInv s) (body : List Byte) : (judgeReadBoard s body).held := by
  unfold judgeReadBoard
  split
  · exact h
  · trivial

theorem judgeStart_held (s : State) : (judgeStart s).held := by
  unfold judgeStart
  split_ifs
  · exact finish_hold _ _ _
  · trivial

theorem judgeStop_held (h : HoldInv s) (q : StopQualifier) : (judgeStop s q).held := by
  unfold judgeStop
  split
  iterate 3 exact finish_hold _ _ _
  iterate 2 exact h
  trivial

theorem judgeRunReset_held (s : State) : (judgeRunReset s).held := by
  unfold judgeRunReset
  split_ifs
  · exact finish_hold _ _ _
  · trivial

theorem judgeAck_held (h : HoldInv s) (body : List Byte) : (judgeAck s body).held := by
  unfold judgeAck
  dsimp only
  split_ifs
  · trivial
  · exact h.same rfl rfl rfl rfl rfl rfl rfl rfl rfl
  · trivial

theorem judgeClear_held (s : State) (body : List Byte) : (judgeClear s body).held := by
  unfold judgeClear
  dsimp only
  split_ifs
  · trivial
  · split
    · trivial
    · split_ifs
      · trivial
      · exact finish_hold _ _ _

/-! ### The rule of the hold line, event by event -/

theorem noteTapeEnd_holdInv (h : HoldInv s) (d : Nat) (active : Bool) : HoldInv (noteTapeEnd s d active) := by
  unfold noteTapeEnd
  dsimp only
  split_ifs
  · exact h.same rfl rfl rfl rfl rfl rfl rfl rfl rfl
  · exact h.setDisp _

/-- The outcome of an event that either leaves the state or ends as every command does. -/
theorem leads_holdInv_if (h : HoldInv s) {p : Prop} [Decidable p] (atUp : Bool) (before u : State) :
    Leads HoldInv (if p then .next (finish atUp before u) else .next s) :=
  leads_ite (fun _ => finish_hold _ _ _) (fun _ => h)

end

/-- Every command keeps the rule of the hold line. -/
theorem exec_holdInv {s : State} (h : HoldInv s) : ∀ c : Instr, Leads HoldInv (exec c s)
  | .pinReset => execPinReset_holdInv s
  | .readTransaction _ => h
  | .unknownRequest _ _ => h.respond _ _ _
  | .setup _ => h.request _ _ _ _ _ (judgeSetup_held s)
  | .readStatus _ => h.request _ _ _ _ _ fun _ => h
  | .readReports _ => h.request _ _ _ _ _ (judgeReadReports_held h)
  | .bankOpen _ => h.request _ _ _ _ _ fun body => onBank_h body _ fun b => unlessOpen_h h _ (openBank_held h body b)
  | .blockBegin _ => h.request _ _ _ _ _ fun body => onBank_h body _ fun b => unlessOpen_h h _ (beginBlock_held h body b)
  | .stepRecord _ => h.request _ _ _ _ _ fun body => onBank_h body _ fun b => by
      split
      · trivial
      · exact takeStep_held h _ _ _
  | .blockCommit _ => h.request _ _ _ _ _ fun body => onBank_h body _ fun b => by
      split
      · trivial
      · exact commitBlock_held h _ _
  | .bankClose _ => h.request _ _ _ _ _ fun body => onBank_h body _ fun b => unlessOpen_h h _ (closeBank_held h b)
  | .bankClearAbort _ => h.request _ _ _ _ _ fun body => onBank_h body _ fun b => unlessOpen_h h _ (clearBank_held h b)
  | .bankErase _ => h.request _ _ _ _ _ fun body => onBank_h body _ fun b => unlessOpen_h h _ (eraseBank_held h b)
  | .partEntry _ => h.request _ _ _ _ _ (writePart_held h)
  | .reelLoad _ => h.request _ _ _ _ _ fun body => by
      split
      · trivial
      · exact onDisp_h body _ (loadReel_held h body)
  | .serviceBegin _ => h.request _ _ _ _ _ fun body => onDisp_h body _ (beginService_held h)
  | .serviceEnd _ => h.request _ _ _ _ _ fun body => onDisp_h body _ (endService_held h)
  | .lock _ => h.request _ _ _ _ _ fun body => onDisp_h body _ (lockDispenser_held h)
  | .unlock _ => h.request _ _ _ _ _ fun body => onDisp_h body _ (unlockDispenser_held h)
  | .releaseGroup _ => h.request _ _ _ _ _ (releaseGroup_held h)
  | .readDispenser _ => h.request _ _ _ _ _ fun body => onDisp_h body _ fun _ _ => h
  | .home _ => h.request _ _ _ _ _ fun _ => judgeHome_held s
  | .jog _ => h.request _ _ _ _ _ (judgeJog_held s)
  | .readPosition _ => h.request _ _ _ _ _ fun _ => h
  | .boardLoad _ => h.request _ _ _ _ _ (judgeBoardLoad_held h)
  | .imageSkip _ => h.request _ _ _ _ _ (judgeImageSkip_held s)
  | .boardWithdraw _ => h.request _ _ _ _ _ (judgeWithdraw_held s)
  | .withdrawClampOpen => leads_holdInv_if h _ _ _
  | .readBoard _ => h.request _ _ _ _ _ (judgeReadBoard_held h)
  | .start _ => h.request _ _ _ _ _ fun _ => judgeStart_held s
  | .stop _ => h.request _ _ _ _ _ fun body => by
      split
      · exact judgeStop_held h _
      · trivial
  | .runReset _ => h.request _ _ _ _ _ fun _ => judgeRunReset_held s
  | .alarmAck _ => h.request _ _ _ _ _ (judgeAck_held h)
  | .alarmClear _ => h.request _ _ _ _ _ (judgeClear_held s)
  | .readAlarms _ => h.request _ _ _ _ _ fun _ => h
  | .revolutionStart => leads_holdInv_if h _ _ _
  | .restoringTurnStart => leads_holdInv_if h _ _ _
  | .restMark => by
      refine leads_ite (fun _ => finish_hold _ _ _) fun _ => ?_
      split
      · exact leads_holdInv_if h _ _ _
      · exact h
  | .transferMark => withMark_h h _ _
  | .advanceMark => withMark_h h _ _
  | .leadSenseConfirm => by
      simp only [exec, execLeadSenseConfirm]
      split
      · exact leads_ite (fun _ => h.setStroke rfl) fun _ => h
      · exact h
  | .pitchConfirm => leads_holdInv_if h _ _ _
  | .dropMark => withMark_h h _ _
  | .verifyMark => withMark_h h _ _
  | .verifyWord _ => by
      simp only [exec, execVerifyWord]
      split
      · exact leads_holdInv_if h _ _ _
      · exact h
  | .gateMark => withMark_h h _ _
  | .downMark => withMark_h h _ _
  | .clinchMark => withMark_h h _ _
  | .clinchConfirm => by
      simp only [exec, execClinchConfirm]
      split
      · exact leads_ite (fun _ => h.setStroke rfl) fun _ => h
      · exact h
  | .upMark => withMark_h h _ _
  | .markTimeoutExpiry => leads_holdInv_if h _ _ _
  | .chainTimerExpiry => leads_holdInv_if h _ _ _
  | .actuatorInPosition _ => by
      simp only [exec, execActuatorInPosition]
      split
      · exact finish_hold _ _ _
      · exact h
  | .actuatorTimerExpiry _ => leads_holdInv_if h _ _ _
  | .gateHoldLimitExpiry => by
      refine leads_ite (fun _ => ?_) fun _ => h
      split <;> exact finish_hold _ _ _
  | .axisStep _ => by
      simp only [exec, execAxisStep]
      split
      · exact h
      all_goals exact leads_holdInv_if h _ _ _
  | .settleExpiry => by
      simp only [exec, execSettleExpiry]
      split
      · exact leads_holdInv_if h _ _ _
      · exact h
  | .indexMark _ => leads_ite (fun _ => finish_hold _ _ _) fun _ => finish_hold _ _ _
  | .homeInput _ => finish_hold _ _ _
  | .homeLimitExpiry => by
      simp only [exec, execHomeLimitExpiry]
      split
      · exact leads_holdInv_if h _ _ _
      all_goals exact h
  | .guardOpen => leads_ite (fun _ => h) fun _ => finish_hold _ _ _
  | .guardClose => leads_holdInv_if h _ _ _
  | .tapeEnd d active => noteTapeEnd_holdInv h d active
  | .dropConfirm _ => by
      simp only [exec, execDropConfirm]
      split
      iterate 2 exact finish_hold _ _ _
      exact h
  | .indexHoldLevelChange released => noteLine_h h released
  | .lineIndex => leads_holdInv_if h _ _ _
  | .entrySensor => by
      simp only [exec, execEntrySensor]
      split <;> exact finish_hold _ _ _
  | .entrySensorEmpty => finish_hold _ _ _
  | .exitSensor => by
      simp only [exec, execExitSensor]
      split
      · exact finish_hold _ _ _
      · exact h
  | .clampClosed => leads_holdInv_if h _ _ _
  | .transferLimitExpiry => by
      simp only [exec, execTransferLimitExpiry]
      split
      · exact leads_holdInv_if h _ _ _
      · exact h
  | .passportWaitExpiry => leads_holdInv_if h _ _ _
  | .silenceExpiry _ => leads_holdInv_if h _ _ _
  | .statusIntervalExpiry => leads_ite (fun _ => h.setLine rfl) fun _ => h
  | .frameBegin => by
      simp only [exec, execFrameBegin]
      split
      · exact leads_ite (fun _ => h.setLine rfl) fun _ => h
      · exact h
  | .frameSent => by
      simp only [exec, execFrameSent]
      split
      · exact finish_hold _ _ _
      · exact h
  | .frameAttemptFailed => by
      simp only [exec, execFrameAttemptFailed]
      split
      · exact h.setLine rfl
      · exact h
  | .frameDropped => h.setLine rfl
  | .withdrawFrame _ => hear_h h _ _ _
  | .claimFrame _ => hear_h h _ _ _
  | .oweFrame _ => hear_h h _ _ _
  | .announceFrame _ => hear_h h _ _ _
  | .passportHead _ => hear_h h _ _ _
  | .passportEntry _ => hear_h h _ _ _
  | .statusFrame _ => hear_h h _ _ _

/-- Settles O5: with a command at the front, by that command, which either ends as every command does or changes nothing
that the hold line reads; on an empty queue, by the passing of time. -/
theorem everyStepKeepsTheHoldLineRule : Obligations.EveryStepKeepsTheHoldLineRule := by
  unfold Obligations.EveryStepKeepsTheHoldLineRule
  intro s t h hst
  have hl : Leads HoldInv (step s) := leads_step (idle_h h) fun c rest => exec_holdInv (h.setPending rest) c
  rwa [hst] at hl

end Sys2Proof.Machine
end

section
/-! SUPPORT. What every judge of a request answers (chapter 10): a refusal by a refusing code, or an answer that leaves a
state of a form named here; so each request is one call of the port, and only the owners change the queue, the setup record
and the response (R183, R187). -/

namespace Sys2Proof.Machine

/-! ### Verdicts -/

/-- The verdict refuses by a refusing code, or answers by another and leaves a state with a property. -/
def Verdict.Meets (P : State → Prop) : Verdict → Prop
  | .refuse rc => rc.refuses = true
  | .answer rc _ t => rc.refuses = false ∧ P t

section
variable {P Q : State → Prop} {s t : State}

theorem Verdict.Meets.refuse {rc : ResultCode} (h : rc.refuses = true) : (Verdict.refuse rc).Meets P := h

theorem Verdict.Meets.answer {rc : ResultCode} {body : Body} (h : rc.refuses = false) (ht : P t) :
    (Verdict.answer rc body t).Meets P := ⟨h, ht⟩

theorem Verdict.Meets.done (h : P t) : (Verdict.done t).Meets P := ⟨rfl, h⟩

theorem Verdict.Meets.started (h : P t) : (Verdict.started t).Meets P := ⟨rfl, h⟩

theorem Verdict.Meets.mono {v : Verdict} (h : v.Meets P) (hpq : ∀ t, P t → Q t) : v.Meets Q := by
  cases v with
  | refuse rc => exact h
  | answer rc body t => exact ⟨h.1, hpq t h.2⟩

theorem meets_ite {p : Prop} [Decidable p] {a b : Verdict} (ha : p → a.Meets P) (hb : ¬p → b.Meets P) :
    (if p then a else b).Meets P := by
  split
  case isTrue h => exact ha h
  case isFalse h => exact hb h

/-! ### Console -/

theorem judgeSetup_meets (s : State) (body : List Byte) :
    (judgeSetup s body).Meets fun t =>
      ∃ c, s.jam.run = .unconfigured ∧ parseSetup body = some c ∧ t = finish false s (configure s c) := by
  unfold judgeSetup
  refine meets_ite (fun hu => ?_) fun _ => .refuse rfl
  split
  case h_1 => exact .refuse rfl
  case h_2 c hc => exact .done ⟨c, hu, hc, rfl⟩

theorem judgeReadReports_meets (s : State) (body : List Byte) :
    (judgeReadReports s body).Meets fun t => ∃ n, t = takeReports s n :=
  meets_ite (fun _ => .answer rfl ⟨_, rfl⟩) fun _ => .refuse rfl

/-! ### The program store -/

theorem aborted_meets (s : State) (b : BankId) (c : AbortCause) : (aborted s b c).Meets fun t => t = abortBank s b c :=
  .answer rfl rfl

theorem onBank_meets (body : List Byte) {f : BankId → Verdict} (hf : ∀ b, (f b).Meets P) : (onBank body f).Meets P := by
  unfold onBank
  split
  · exact hf _
  · exact .refuse rfl

theorem unlessOpen_meets {v : Verdict} (ho : ∀ ob, s.store.block = some ob → P (abortBank s ob.bank .sequence))
    (hv : s.store.block = none → v.Meets P) : (unlessOpen s v).Meets P := by
  unfold unlessOpen
  split
  case h_1 ob h => exact (aborted_meets s _ _).mono fun t e => e ▸ ho ob h
  case h_2 h => exact hv h

/-- An answer that changes nothing but the program store. -/
def StoreOnly (s t : State) : Prop := ∃ v, t = s.setStore v

theorem unlessOpen_storeOnly {v : Verdict} (hv : v.Meets (StoreOnly s)) : (unlessOpen s v).Meets (StoreOnly s) :=
  unlessOpen_meets (fun _ _ => ⟨_, rfl⟩) fun _ => hv

theorem aborted_storeOnly (s : State) (b : BankId) (c : AbortCause) : (aborted s b c).Meets (StoreOnly s) :=
  (aborted_meets s b c).mono fun _ e => ⟨_, e⟩

theorem openBank_meets (s : State) (body : List Byte) (b : BankId) : (openBank s body b).Meets (StoreOnly s) := by
  unfold openBank
  dsimp only
  split
  · exact .refuse rfl
  · refine meets_ite (fun _ => .refuse rfl) fun _ => meets_ite (fun _ => .refuse rfl) fun _ =>
      meets_ite (fun _ => .refuse rfl) fun _ => .done ⟨_, rfl⟩

theorem beginBlock_meets (s : State) (body : List Byte) (b : BankId) : (beginBlock s body b).Meets (StoreOnly s) :=
  meets_ite (fun _ => .refuse rfl) fun _ => meets_ite (fun _ => aborted_storeOnly s _ _) fun _ =>
    meets_ite (fun _ => aborted_storeOnly s _ _) fun _ => .done ⟨_, rfl⟩

theorem takeStep_meets (s : State) (ob : OpenBlock) (body : List Byte) (b : BankId) :
    (takeStep s ob body b).Meets (StoreOnly s) := by
  refine meets_ite (fun _ => aborted_storeOnly s _ _) fun _ => meets_ite (fun _ => aborted_storeOnly s _ _) fun _ => ?_
  split
  · exact aborted_storeOnly s _ _
  · exact .done ⟨_, rfl⟩

theorem commitBlock_meets (s : State) (ob : OpenBlock) (b : BankId) : (commitBlock s ob b).Meets (StoreOnly s) :=
  meets_ite (fun _ => aborted_storeOnly s _ _) fun _ => .done ⟨_, rfl⟩

/-- BANK_CLOSE changes the store and binds the contexts that wait for the bank's program (R12, R16). -/
theorem closeBank_meets (s : State) (b : BankId) :
    (closeBank s b).Meets fun t => StoreOnly s t ∨ ∃ v p, t = bindAtClose (s.setStore v) b p := by
  refine meets_ite (fun _ => .refuse rfl) fun _ => meets_ite (fun _ => ?_) fun _ => .done ?_
  · exact (aborted_storeOnly s _ _).mono fun _ => .inl
  · split
    · exact .inr ⟨_, _, rfl⟩
    · exact .inl ⟨_, rfl⟩

theorem clearBank_meets (s : State) (b : BankId) : (clearBank s b).Meets (StoreOnly s) :=
  meets_ite (fun _ => .done ⟨_, rfl⟩) fun _ => .refuse rfl

theorem eraseBank_meets (s : State) (b : BankId) : (eraseBank s b).Meets (StoreOnly s) := by
  unfold eraseBank
  split
  · exact meets_ite (fun _ => .refuse rfl) fun _ => .done ⟨_, rfl⟩
  · exact .done ⟨_, rfl⟩
  all_goals exact .refuse rfl

theorem writePart_meets (s : State) (body : List Byte) : (writePart s body).Meets (StoreOnly s) := by
  unfold writePart
  dsimp only
  split
  · exact .refuse rfl
  · exact meets_ite (fun _ => .refuse rfl) fun _ => .done ⟨_, rfl⟩

/-! ### Dispensers -/

theorem onDispenser_meets (body : List Byte) {f : Nat → Dispenser → Verdict} (hf : ∀ d r, (f d r).Meets P) :
    (onDispenser s body f).Meets P :=
  meets_ite (fun _ => .refuse rfl) fun _ => meets_ite (fun _ => .refuse rfl) fun _ => hf _ _

/-- An answer that replaces one dispenser record. -/
def OneDispenser (s t : State) : Prop := ∃ d r, t = modDisp s d fun _ => r

theorem changeDispenser_meets (s : State) (d : Nat) (r : Dispenser) : (changeDispenser s d r).Meets (OneDispenser s) :=
  .answer rfl ⟨d, r, rfl⟩

theorem loadReel_meets (s : State) (body : List Byte) (d : Nat) (r : Dispenser) :
    (loadReel s body d r).Meets (OneDispenser s) :=
  meets_ite (fun _ => .refuse rfl) fun _ => changeDispenser_meets s _ _

theorem beginService_meets (s : State) (d : Nat) (r : Dispenser) : (beginService s d r).Meets (OneDispenser s) := by
  unfold beginService
  split
  iterate 4 exact changeDispenser_meets s _ _
  all_goals exact .refuse rfl

theorem endService_meets (s : State) (d : Nat) (r : Dispenser) : (endService s d r).Meets (OneDispenser s) := by
  unfold endService
  split
  iterate 2 exact changeDispenser_meets s _ _
  all_goals exact .refuse rfl

theorem lockDispenser_meets (s : State) (d : Nat) (r : Dispenser) : (lockDispenser s d r).Meets (OneDispenser s) := by
  unfold lockDispenser
  split
  iterate 3 exact changeDispenser_meets s _ _
  all_goals exact .refuse rfl

theorem unlockDispenser_meets (s : State) (d : Nat) (r : Dispenser) : (unlockDispenser s d r).Meets (OneDispenser s) :=
  meets_ite (fun _ => changeDispenser_meets s _ _) fun _ => .refuse rfl

theorem releaseGroup_meets (s : State) (body : List Byte) :
    (releaseGroup s body).Meets fun t => ∃ g r, t = modGroup s g fun _ => r :=
  meets_ite (fun _ => .refuse rfl) fun _ => .done ⟨_, _, rfl⟩

/-! ### The table -/

theorem judgeHome_meets (s : State) :
    (judgeHome s).Meets fun t => (s.jam.run = .idle ∨ s.jam.run = .ready) ∧ t = finish false s (takeHome s) :=
  meets_ite (fun h => .started ⟨h.1, rfl⟩) fun _ => .refuse rfl

theorem judgeJog_meets (s : State) (body : List Byte) :
    (judgeJog s body).Meets fun t => ∃ ax target check, target ≤ travel s ax ∧
      (s.jam.run = .ready ∨ s.jam.run = .halted) ∧ t = finish false s (takeJog s ax target check) := by
  unfold judgeJog
  split
  case h_1 ax check _ _ =>
    refine meets_ite (fun _ => .refuse rfl) fun hr => meets_ite (fun _ => .refuse rfl) fun hs => ?_
    have hrun : s.jam.run = .ready ∨ s.jam.run = .halted := by
      by_contra hn
      simp_all
    exact .started ⟨ax, _, check, Nat.le_of_not_lt hr, hrun, rfl⟩
  case h_2 => exact .refuse rfl

/-! ### Boards -/

theorem judgeBoardLoad_meets (s : State) (body : List Byte) :
    (judgeBoardLoad s body).Meets fun t => ∃ slot serial programId mask, emptySlot s = some slot ∧
      slotOfSerial s serial = none ∧ t = takeBoard s slot serial programId mask := by
  unfold judgeBoardLoad
  refine meets_ite (fun _ => .refuse rfl) fun _ => meets_ite (fun _ => .refuse rfl) fun hs => ?_
  have hserial : slotOfSerial s (at32 body 0) = none := by
    by_contra hn
    simp_all
  split
  case h_1 slot _ he => exact .done ⟨slot, _, _, _, he, hserial, rfl⟩
  case h_2 => exact .refuse rfl

theorem judgeImageSkip_meets (s : State) (body : List Byte) :
    (judgeImageSkip s body).Meets fun t => ∃ slot mask, t = finish false s (joinMask s slot mask) := by
  unfold judgeImageSkip
  refine meets_ite (fun _ => .refuse rfl) fun _ => ?_
  split
  · exact .done ⟨_, _, rfl⟩
  · exact .refuse rfl

theorem judgeWithdraw_meets (s : State) (body : List Byte) :
    (judgeWithdraw s body).Meets fun t => ∃ serial slot b,
      t = finish false s ((removeCtx (joinUrgent s (.withdraw serial)) slot).setBoards b) ∧
      b.slots = (removeCtx (joinUrgent s (.withdraw serial)) slot).boards.slots := by
  unfold judgeWithdraw
  refine meets_ite (fun _ => .refuse rfl) fun _ => ?_
  split
  · exact meets_ite (fun _ => .done ⟨_, _, _, rfl, rfl⟩) fun _ => .refuse rfl
  · exact meets_ite (fun _ => .done ⟨_, _, _, rfl, rfl⟩) fun _ => .refuse rfl
  · exact .refuse rfl

theorem judgeReadBoard_meets (s : State) (body : List Byte) : (judgeReadBoard s body).Meets fun t => t = s := by
  unfold judgeReadBoard
  split
  · exact .answer rfl rfl
  · exact .refuse rfl

/-! ### Run control -/

theorem judgeStart_meets (s : State) :
    (judgeStart s).Meets fun t => s.jam.run = .ready ∧ t = finish false s (takeStart s) :=
  meets_ite (fun h => .started ⟨h.1, rfl⟩) fun _ => .refuse rfl

theorem judgeStop_meets (s : State) (q : StopQualifier) :
    (judgeStop s q).Meets fun t => t = s ∨ (s.jam.run ≠ .unconfigured ∧ (t = finish false s (setStopping s .atRest) ∨
      t = finish false s (closeCurrent (setStopping s .atBoardEnd)))) := by
  unfold judgeStop
  split
  case h_1 hrun => exact .started (.inr ⟨by simp [hrun], .inl rfl⟩)
  case h_2 hrun => exact .started (.inr ⟨by simp [hrun], .inr rfl⟩)
  case h_3 hrun _ => exact .started (.inr ⟨by simp [hrun], .inl rfl⟩)
  case h_4 => exact .started (.inl rfl)
  case h_5 => exact .started (.inl rfl)
  case h_6 => exact .refuse rfl

theorem execStop_meets (s : State) (body : List Byte) {R : State → Prop} (h : ∀ q, (judgeStop s q).Meets R) :
    (match qualifierOf (at8 body 0) with
      | some q => judgeStop s q
      | none => .refuse .refusedRange).Meets R := by
  split
  · exact h _
  · exact .refuse rfl

theorem judgeRunReset_meets (s : State) :
    (judgeRunReset s).Meets fun t => s.jam.run ≠ .unconfigured ∧ t = finish false s (takeReset s) := by
  refine meets_ite (fun h => .started ⟨?_, rfl⟩) fun _ => .refuse rfl
  rintro hu
  rw [hu] at h
  simp at h

theorem judgeAck_meets (s : State) (body : List Byte) : (judgeAck s body).Meets fun t => ∃ n, t = ackAlarm s n :=
  meets_ite (fun _ => .refuse rfl) fun _ => meets_ite (fun _ => .done ⟨_, rfl⟩) fun _ => .refuse rfl

theorem judgeClear_meets (s : State) (body : List Byte) :
    (judgeClear s body).Meets fun t => ∃ e, t = finish false s (dropAlarm s e) := by
  unfold judgeClear
  refine meets_ite (fun _ => .refuse rfl) fun _ => ?_
  split
  · exact .refuse rfl
  · exact meets_ite (fun _ => .refuse rfl) fun _ => .done ⟨_, rfl⟩

end

end Sys2Proof.Machine
end

section
/-! SUPPORT. What each command keeps of the storage: an event of the pins keeps the sizes and the capacities; a request is one
call of the port with a judge that answers as `Verdict.Meets` says. -/

namespace Sys2Proof.Machine

/-! ### Events -/

/-- The fixed part of the state is kept, and the capacities with it. -/
def Kept (s t : State) : Prop := t.sizes = s.sizes ∧ (s.bounded → t.bounded)

section
variable {s t u : State}

theorem Kept.refl (s : State) : Kept s s := ⟨rfl, id⟩

theorem Kept.trans (h : Kept s t) (h' : Kept t u) : Kept s u := ⟨h'.1.trans h.1, fun hb => h'.2 (h.2 hb)⟩

theorem Kept.finish (h : Kept s t) (atUp : Bool) (before : State) : Kept s (finish atUp before t) :=
  h.trans ⟨finish_sizes atUp before t, finish_bounded atUp before t⟩

theorem Kept.sized (h : Kept s t) (hs : Sized s) : Sized t := hs.of h.1 h.2

/-- The outcome of an event that either ends as every command does or leaves the state. -/
theorem leads_kept_if {p : Prop} [Decidable p] {atUp : Bool} {before : State} (h : p → Kept s u) :
    Leads (Kept s) (if p then .next (Machine.finish atUp before u) else .next s) :=
  leads_ite (fun hp => (h hp).finish _ _) fun _ => .refl s

/-- A mark's work keeps the storage, in a revolution and in a restoring turn. -/
theorem withMark_kept (s : State) (m : Mark) {work : State → Revolution → State} (hw : ∀ u r, Kept u (work u r)) :
    Kept s (withMark s m work) := by
  unfold withMark
  split
  · exact Kept.finish ⟨restoreStep_sizes s m, restoreStep_bounded s m⟩ _ _
  · split
    · split
      · exact Kept.finish (.trans ⟨takeMark_sizes s _ m, takeMark_bounded s _ m⟩ (hw _ _)) _ _
      · exact .refl s
    · exact .refl s

theorem hear_kept (s : State) (k : FrameKind) (f : HeardFrame) {act : State → Nat → Frame → State}
    (ha : ∀ u n c, Kept u (act u n c)) : Kept s (hear s k f act) := by
  unfold hear
  split
  · exact ⟨dropFrame_sizes s, dropFrame_bounded s⟩
  case h_2 n c _ =>
    have hchecked : Kept s (checkDuplicate (markSender s n c) n) := ⟨by simp, fun hb => by simp [hb]⟩
    dsimp only
    refine Kept.finish ?_ _ _
    split
    · exact hchecked.trans (ha _ _ _)
    · exact hchecked

end

/-- An event keeps the program store, the setup record, the response, the queue and the sizes. -/
theorem exec_event_kept (s : State) : ∀ c : Instr, c.request = none → c ≠ .pinReset → (∀ n b, c ≠ .unknownRequest n b) →
    Leads (Kept s) (exec c s)
  | .pinReset, _, h, _ => absurd rfl h
  | .unknownRequest n b, _, _, h => absurd rfl (h n b)
  | .readTransaction _, _, _, _ => .refl s
  | .withdrawClampOpen, _, _, _ => leads_kept_if fun _ => ⟨by simp, fun hb => by simp [hb]⟩
  | .revolutionStart, _, _, _ => leads_kept_if fun _ => ⟨tryStart_sizes s, tryStart_bounded s⟩
  | .restoringTurnStart, _, _, _ => leads_kept_if fun _ => ⟨startRestoring_sizes s, startRestoring_bounded s⟩
  | .restMark, _, _, _ => by
      refine leads_ite (fun _ => Kept.finish ⟨by simp, fun hb => by simp [hb]⟩ _ _) fun _ => ?_
      split
      · exact leads_kept_if fun _ => ⟨by simp, fun hb => by simp [hb]⟩
      · exact .refl s
  | .transferMark, _, _, _ => withMark_kept s _ fun u r => ⟨transferWork_sizes u r, transferWork_bounded u r⟩
  | .advanceMark, _, _, _ => withMark_kept s _ fun u r => ⟨advanceWork_sizes u r, advanceWork_bounded u r⟩
  | .leadSenseConfirm, _, _, _ => by
      simp only [exec, execLeadSenseConfirm]
      split
      · exact leads_ite (fun _ => ⟨rfl, id⟩) fun _ => .refl s
      · exact .refl s
  | .pitchConfirm, _, _, _ => leads_kept_if fun _ => ⟨confirmPitch_sizes s, confirmPitch_bounded s⟩
  | .dropMark, _, _, _ => withMark_kept s _ fun u r => ⟨dropMarkWork_sizes u r, dropMarkWork_bounded u r⟩
  | .verifyMark, _, _, _ => withMark_kept s _ fun u _ => ⟨verifyWork_sizes u, verifyWork_bounded u⟩
  | .verifyWord _, _, _, _ => by
      simp only [exec, execVerifyWord]
      split
      · exact leads_kept_if fun _ => ⟨applyResult_sizes s _ _, applyResult_bounded s _ _⟩
      · exact .refl s
  | .gateMark, _, _, _ => withMark_kept s _ fun u r => ⟨gateWork_sizes u r, gateWork_bounded u r⟩
  | .downMark, _, _, _ => withMark_kept s _ fun u r => ⟨downWork_sizes u r, downWork_bounded u r⟩
  | .clinchMark, _, _, _ => withMark_kept s _ fun u r => ⟨clinchWork_sizes u r, clinchWork_bounded u r⟩
  | .clinchConfirm, _, _, _ => by
      simp only [exec, execClinchConfirm]
      split
      · exact leads_ite (fun _ => ⟨rfl, id⟩) fun _ => .refl s
      · exact .refl s
  | .upMark, _, _, _ => withMark_kept s _ fun u r => ⟨upWork_sizes u r, upWork_bounded u r⟩
  | .markTimeoutExpiry, _, _, _ => leads_kept_if fun _ => ⟨by simp, fun hb => by simp [hb]⟩
  | .chainTimerExpiry, _, _, _ => leads_kept_if fun _ => ⟨by simp, fun hb => by simp [hb]⟩
  | .actuatorInPosition _, _, _, _ => by
      simp only [exec, execActuatorInPosition]
      split
      · exact Kept.finish ⟨by simp, fun hb => by simp [hb]⟩ _ _
      · exact .refl s
  | .actuatorTimerExpiry _, _, _, _ => leads_kept_if fun _ => ⟨by simp, fun hb => by simp [hb]⟩
  | .gateHoldLimitExpiry, _, _, _ => by
      refine leads_ite (fun _ => ?_) fun _ => .refl s
      split
      · exact Kept.finish ⟨by simp, fun hb => by simp [hb]⟩ _ _
      · exact Kept.finish ⟨rfl, id⟩ _ _
  | .axisStep ax, _, _, _ => by
      simp only [exec, execAxisStep]
      split
      · exact .refl s
      · exact leads_kept_if fun _ => ⟨stepMotion_sizes s ax _, stepMotion_bounded s ax _⟩
      · exact leads_kept_if fun _ => ⟨stepMotion_sizes s ax _, stepMotion_bounded s ax _⟩
      · exact leads_kept_if fun _ => ⟨stepHome_sizes s ax _, stepHome_bounded s ax _⟩
  | .settleExpiry, _, _, _ => by
      simp only [exec, execSettleExpiry]
      split
      · exact leads_kept_if fun _ => ⟨completeMotion_sizes s, completeMotion_bounded s⟩
      · exact .refl s
  | .indexMark _, _, _, _ => leads_ite (fun _ => Kept.finish ⟨by simp, fun hb => by simp [hb]⟩ _ _) fun _ =>
      Kept.finish ⟨by simp, fun hb => by simp [hb]⟩ _ _
  | .homeInput _, _, _, _ => Kept.finish ⟨by simp, fun hb => by simp [hb]⟩ _ _
  | .homeLimitExpiry, _, _, _ => by
      simp only [exec, execHomeLimitExpiry]
      split
      · exact leads_kept_if fun _ => ⟨by simp, fun hb => by simp [hb]⟩
      all_goals exact .refl s
  | .guardOpen, _, _, _ => leads_ite (fun _ => .refl s) fun _ => Kept.finish ⟨openGuard_sizes s, openGuard_bounded s⟩ _ _
  | .guardClose, _, _, _ => leads_kept_if fun _ => ⟨closeGuard_sizes s, closeGuard_bounded s⟩
  | .tapeEnd d active, _, _, _ => ⟨noteTapeEnd_sizes s d active, noteTapeEnd_bounded s d active⟩
  | .dropConfirm _, _, _, _ => by
      simp only [exec, execDropConfirm]
      split
      · exact Kept.finish ⟨confirmDrop_sizes s _ _, confirmDrop_bounded s _ _⟩ _ _
      · exact Kept.finish ⟨lateConfirm_sizes s _ _, lateConfirm_bounded s _ _⟩ _ _
      · exact .refl s
  | .indexHoldLevelChange released, _, _, _ => ⟨noteLine_sizes s released, noteLine_bounded s released⟩
  | .lineIndex, _, _, _ => leads_kept_if fun _ => ⟨by simp [takeIndex_sizes], fun hb => by simp [takeIndex_bounded, hb]⟩
  | .entrySensor, _, _, _ => by
      simp only [exec, execEntrySensor]
      split
      · exact Kept.finish ⟨by simp, fun hb => by simp [hb]⟩ _ _
      · exact Kept.finish ⟨rfl, id⟩ _ _
  | .exitSensor, _, _, _ => by
      simp only [exec, execExitSensor]
      split
      · exact Kept.finish ⟨by simp, fun hb => by simp [hb]⟩ _ _
      · exact .refl s
  | .clampClosed, _, _, _ => leads_kept_if fun _ => ⟨by simp, fun hb => by simp [hb]⟩
  | .transferLimitExpiry, _, _, _ => by
      simp only [exec, execTransferLimitExpiry]
      split
      · exact leads_kept_if fun _ => ⟨jamTransfer_sizes s _, jamTransfer_bounded s _⟩
      · exact .refl s
  | .passportWaitExpiry, _, _, _ => leads_kept_if fun _ => ⟨expireWait_sizes s, expireWait_bounded s⟩
  | .silenceExpiry _, _, _, _ => leads_kept_if fun _ => ⟨by simp, fun hb => by simp [hb]⟩
  | .statusIntervalExpiry, _, _, _ => leads_ite (fun _ => ⟨queueStatus_sizes s, (queueStatus_bounded s).mpr⟩) fun _ => .refl s
  | .frameBegin, _, _, _ => by
      simp only [exec, execFrameBegin]
      split
      · exact leads_ite (fun _ => ⟨rfl, id⟩) fun _ => .refl s
      · exact .refl s
  | .frameSent, _, _, _ => by
      simp only [exec, execFrameSent]
      split
      · exact Kept.finish ⟨sentFrame_sizes s _, sentFrame_bounded s _⟩ _ _
      · exact .refl s
  | .frameAttemptFailed, _, _, _ => by
      simp only [exec, execFrameAttemptFailed]
      split
      · exact ⟨failedFrame_sizes s _, failedFrame_bounded s _⟩
      · exact .refl s
  | .frameDropped, _, _, _ => ⟨dropFrame_sizes s, dropFrame_bounded s⟩
  | .withdrawFrame f, _, _, _ => hear_kept s _ f fun u _ c => by
      split <;> exact ⟨by simp, fun hb => by simp [hb]⟩
  | .claimFrame f, _, _, _ => hear_kept s _ f fun u _ c => by
      split <;> exact ⟨by simp, fun hb => by simp [hb]⟩
  | .oweFrame f, _, _, _ => hear_kept s _ f fun u _ c => by
      split <;> exact ⟨by simp, fun hb => by simp [hb]⟩
  | .announceFrame f, _, _, _ => hear_kept s _ f fun u _ c => by
      split <;> exact ⟨by simp, fun hb => by simp [hb]⟩
  | .passportHead f, _, _, _ => hear_kept s _ f fun u _ c => by
      split <;> exact ⟨by simp, fun hb => by simp [hb]⟩
  | .passportEntry f, _, _, _ => hear_kept s _ f fun u _ c => by
      split <;> exact ⟨by simp, fun hb => by simp [hb]⟩
  | .statusFrame f, _, _, _ => hear_kept s _ f fun u _ _ => .refl u
  | .entrySensorEmpty, _, _, _ => Kept.finish ⟨rfl, id⟩ _ _

/-! ### Requests -/

/-- What a command leaves of the queue and of what the port owns: the response always, the setup record unless the command is
SETUP (R183, R187). -/
def KeepsPort (c : Instr) (s t : State) : Prop :=
  t.pending = s.pending ∧ t.console.response = s.console.response ∧
    ((∀ b, c ≠ .setup b) → t.console.setup = s.console.setup)

section
variable {c : Instr} {s t : State}

theorem KeepsPort.of_sizes (h : t.sizes = s.sizes) : KeepsPort c s t :=
  ⟨congrArg Sizes.pending h, congrArg Sizes.response h, fun _ => congrArg Sizes.setup h⟩

theorem KeepsPort.of_storeOnly (h : StoreOnly s t) : KeepsPort c s t := by
  obtain ⟨v, rfl⟩ := h
  exact ⟨rfl, rfl, fun _ => rfl⟩

theorem KeepsPort.of_oneDispenser (h : OneDispenser s t) : KeepsPort c s t := by
  obtain ⟨d, r, rfl⟩ := h
  exact ⟨rfl, rfl, fun _ => rfl⟩

theorem KeepsPort.of_finish {u : State} (hu : KeepsPort c s u) (h : t = finish false s u) : KeepsPort c s t := by
  obtain ⟨hp, hr, hs⟩ := hu
  obtain ⟨hp', hr', hs'⟩ : KeepsPort c u t := .of_sizes (h ▸ finish_sizes false s u)
  exact ⟨hp'.trans hp, hr'.trans hr, fun hc => (hs' hc).trans (hs hc)⟩

theorem KeepsPort.refl (c : Instr) (s : State) : KeepsPort c s s := ⟨rfl, rfl, fun _ => rfl⟩

end

/-- A command is one call of the port: with its code, its body length and its bytes, taken before SETUP only if it needs none,
and judged by a judge that refuses by a refusing code or answers and leaves the queue, the setup record and the response. -/
def IsRequest (c : Instr) (s : State) (code : Byte) (len : Nat) (bytes : List Byte) : Prop :=
  ∃ always judge, exec c s = .next (request s code len always bytes judge) ∧
    (c.needsSetup = true → always = false) ∧ ∀ body, (judge body).Meets (KeepsPort c s)

/-- Every request of the table is one call of the port (R183, R185, R195). -/
theorem exec_isRequest (s : State) {code : Byte} {len : Nat} {bytes : List Byte} :
    ∀ c : Instr, c.request = some (code, len, bytes) → IsRequest c s code len bytes
  | .setup _, rfl => ⟨_, _, rfl, nofun, fun body => (judgeSetup_meets s body).mono fun _ ⟨_, _, _, h⟩ =>
      .of_finish (u := configure s _) ⟨rfl, rfl, fun hc => absurd rfl (hc _)⟩ h⟩
  | .readStatus _, rfl => ⟨_, _, rfl, nofun, fun _ => .answer rfl (.refl _ s)⟩
  | .readReports _, rfl => ⟨_, _, rfl, nofun, fun body => (judgeReadReports_meets s body).mono fun _ ⟨_, h⟩ =>
      h ▸ ⟨rfl, rfl, fun _ => rfl⟩⟩
  | .bankOpen _, rfl => ⟨_, _, rfl, nofun, fun body => onBank_meets body fun b =>
      (unlessOpen_storeOnly (openBank_meets s body b)).mono fun _ => .of_storeOnly⟩
  | .blockBegin _, rfl => ⟨_, _, rfl, nofun, fun body => onBank_meets body fun b =>
      (unlessOpen_storeOnly (beginBlock_meets s body b)).mono fun _ => .of_storeOnly⟩
  | .stepRecord _, rfl => ⟨_, _, rfl, nofun, fun body => onBank_meets body fun b => by
      split
      · exact .refuse rfl
      · exact (takeStep_meets s _ body b).mono fun _ => .of_storeOnly⟩
  | .blockCommit _, rfl => ⟨_, _, rfl, nofun, fun body => onBank_meets body fun b => by
      split
      · exact .refuse rfl
      · exact (commitBlock_meets s _ b).mono fun _ => .of_storeOnly⟩
  | .bankClose _, rfl => ⟨_, _, rfl, nofun, fun body => onBank_meets body fun b =>
      unlessOpen_meets (fun _ _ => ⟨rfl, rfl, fun _ => rfl⟩) fun _ => (closeBank_meets s b).mono fun t h => by
        rcases h with h | ⟨v, p, rfl⟩
        · exact .of_storeOnly h
        · exact .of_sizes (s := s.setStore v) (bindAtClose_sizes _ _ _)⟩
  | .bankClearAbort _, rfl => ⟨_, _, rfl, nofun, fun body => onBank_meets body fun b =>
      (unlessOpen_storeOnly (clearBank_meets s b)).mono fun _ => .of_storeOnly⟩
  | .bankErase _, rfl => ⟨_, _, rfl, nofun, fun body => onBank_meets body fun b =>
      (unlessOpen_storeOnly (eraseBank_meets s b)).mono fun _ => .of_storeOnly⟩
  | .partEntry _, rfl => ⟨_, _, rfl, nofun, fun body => (writePart_meets s body).mono fun _ => .of_storeOnly⟩
  | .reelLoad _, rfl => ⟨_, _, rfl, fun _ => rfl, fun body => meets_ite (fun _ => .refuse rfl) fun _ =>
      (onDispenser_meets body (loadReel_meets s body)).mono fun _ => .of_oneDispenser⟩
  | .serviceBegin _, rfl => ⟨_, _, rfl, fun _ => rfl, fun body =>
      (onDispenser_meets body (beginService_meets s)).mono fun _ => .of_oneDispenser⟩
  | .serviceEnd _, rfl => ⟨_, _, rfl, fun _ => rfl, fun body =>
      (onDispenser_meets body (endService_meets s)).mono fun _ => .of_oneDispenser⟩
  | .lock _, rfl => ⟨_, _, rfl, fun _ => rfl, fun body =>
      (onDispenser_meets body (lockDispenser_meets s)).mono fun _ => .of_oneDispenser⟩
  | .unlock _, rfl => ⟨_, _, rfl, fun _ => rfl, fun body =>
      (onDispenser_meets body (unlockDispenser_meets s)).mono fun _ => .of_oneDispenser⟩
  | .releaseGroup _, rfl => ⟨_, _, rfl, fun _ => rfl, fun body => (releaseGroup_meets s body).mono fun _ ⟨_, _, h⟩ =>
      h ▸ ⟨rfl, rfl, fun _ => rfl⟩⟩
  | .readDispenser _, rfl => ⟨_, _, rfl, nofun, fun body => onDispenser_meets body fun _ _ => .answer rfl (.refl _ s)⟩
  | .home _, rfl => ⟨_, _, rfl, fun _ => rfl, fun _ => (judgeHome_meets s).mono fun _ ⟨_, h⟩ =>
      .of_finish (.of_sizes (takeHome_sizes s)) h⟩
  | .jog _, rfl => ⟨_, _, rfl, fun _ => rfl, fun body => (judgeJog_meets s body).mono fun _ ⟨_, _, _, _, _, h⟩ =>
      .of_finish (.of_sizes (takeJog_sizes s _ _ _)) h⟩
  | .readPosition _, rfl => ⟨_, _, rfl, nofun, fun _ => .answer rfl (.refl _ s)⟩
  | .boardLoad _, rfl => ⟨_, _, rfl, fun _ => rfl, fun body =>
      (judgeBoardLoad_meets s body).mono fun _ ⟨_, _, _, _, _, _, h⟩ => h ▸ .of_sizes (takeBoard_sizes s _ _ _ _)⟩
  | .imageSkip _, rfl => ⟨_, _, rfl, fun _ => rfl, fun body => (judgeImageSkip_meets s body).mono fun _ ⟨_, _, h⟩ =>
      .of_finish (.of_sizes (joinMask_sizes s _ _)) h⟩
  | .boardWithdraw _, rfl => ⟨_, _, rfl, fun _ => rfl, fun body =>
      (judgeWithdraw_meets s body).mono fun _ ⟨_, _, b, h, hb⟩ =>
        .of_finish (.of_sizes ((sizes_setBoards _ b (congrArg _ hb)).trans (by simp))) h⟩
  | .readBoard _, rfl => ⟨_, _, rfl, nofun, fun body => (judgeReadBoard_meets s body).mono fun t h => by subst h; exact .refl _ t⟩
  | .start _, rfl => ⟨_, _, rfl, fun _ => rfl, fun _ => (judgeStart_meets s).mono fun t h => by
      have hu : KeepsPort (.start bytes) s (takeStart s) :=
        .of_sizes (s := resumeTransfer (setRun s .running)) (tryComplete_sizes _)
      exact .of_finish hu h.2⟩
  | .stop _, rfl => ⟨_, _, rfl, fun _ => rfl, fun body => execStop_meets s body fun q =>
      (judgeStop_meets s q).mono fun t h => by
        rcases h with rfl | ⟨hu, h | h⟩
        · exact .refl _ t
        · exact .of_finish (u := setStopping s .atRest) ⟨rfl, rfl, fun _ => rfl⟩ h
        · exact .of_finish (u := closeCurrent (setStopping s .atBoardEnd))
            (.of_sizes (s := setStopping s .atBoardEnd) (closeCurrent_sizes _)) h⟩
  | .runReset _, rfl => ⟨_, _, rfl, fun _ => rfl, fun _ => (judgeRunReset_meets s).mono fun _ ⟨_, h⟩ =>
      .of_finish (u := takeReset s) ⟨rfl, rfl, fun _ => rfl⟩ h⟩
  | .alarmAck _, rfl => ⟨_, _, rfl, nofun, fun body => (judgeAck_meets s body).mono fun _ ⟨_, h⟩ =>
      h ▸ ⟨rfl, rfl, fun _ => rfl⟩⟩
  | .alarmClear _, rfl => ⟨_, _, rfl, nofun, fun body => (judgeClear_meets s body).mono fun _ ⟨_, h⟩ =>
      .of_finish (.of_sizes (dropAlarm_sizes s _)) h⟩
  | .readAlarms _, rfl => ⟨_, _, rfl, nofun, fun _ => .answer rfl (.refl _ s)⟩

end Sys2Proof.Machine
end

section
/-! PROOF. The port as a whole: its checks, its answers, what a refusal leaves, and who owns the queue, the store, the setup
record and the response (R1, R183 to R185, R187). -/

namespace Sys2Proof.Machine

/-! ### Frames -/

/-- A frame whose length byte is not the body length, or with fewer bytes than that, holds no body. -/
theorem requestBody_of_malformed {len : Nat} {n : Byte} {rest : List Byte} (h : n.toNat ≠ len ∨ rest.length < n.toNat) :
    requestBody len (n :: rest) = none := by
  have hnot : ¬(n.toNat = len ∧ len ≤ rest.length) := by omega
  simp only [requestBody]
  split
  case isTrue hwell => exact absurd hwell hnot
  case isFalse => rfl

section
variable {s : State} {code : Byte} {len : Nat} {always : Bool} {judge : List Byte → Verdict}

theorem request_of_malformed {bytes : List Byte} (h : requestBody len bytes = none) :
    request s code len always bytes judge = respond s .refusedRange code .empty := by
  simp [request, h]

/-- A well-formed request that needs a configured station, before SETUP (R185). -/
theorem request_of_unconfigured {body : List Byte} (extra : List Byte) (hl : body.length = len) (h : len < 256)
    (hu : s.jam.run = .unconfigured) :
    request s code len false (framed body extra) judge = respond s .refusedState code .empty := by
  subst hl
  simp [request, requestBody_framed body extra h, hu]

end

/-- Every body length of the table fits the length byte. -/
theorem Instr.length_lt {c : Instr} {code : Byte} {len : Nat} {bytes : List Byte}
    (h : c.request = some (code, len, bytes)) : len < 256 := by
  cases c <;> cases h <;> decide

/-- Settles O8: every request is one call of the port, whose checks come before its judge. -/
theorem thePortRefusesMalformedAndUnconfiguredRequests : Obligations.ThePortRefusesMalformedAndUnconfiguredRequests := by
  unfold Obligations.ThePortRefusesMalformedAndUnconfiguredRequests
  intro c code len bytes s hc
  obtain ⟨always, judge, hexec, hneeds, -⟩ := exec_isRequest s c hc
  rw [hexec]
  refine ⟨?early, ?malformed, ?unconfigured⟩
  case early =>
    rintro rfl
    rw [request_of_malformed (by rfl)]
  case malformed =>
    rintro n rest rfl h
    rw [request_of_malformed (requestBody_of_malformed h)]
  case unconfigured =>
    rintro body extra rfl hl hn hu
    rw [hneeds hn, request_of_unconfigured extra hl (Instr.length_lt hc) hu]

/-! ### Answers -/

/-- The response of a request: its code and the next number; and either the request answered with a state of its judge, or a
refusal changed the response alone (R183, R184). -/
theorem request_response {s : State} (code : Byte) (len : Nat) (always : Bool) (bytes : List Byte)
    {judge : List Byte → Verdict} {c : Instr} (hj : ∀ body, (judge body).Meets (KeepsPort c s)) :
    (∃ rc, rc.refuses = true ∧ request s code len always bytes judge = respond s rc code .empty) ∨
    (∃ rc body t, rc.refuses = false ∧ KeepsPort c s t ∧
      request s code len always bytes judge = respond t rc code body) := by
  obtain ⟨-, hr⟩ | ⟨-, -, hr⟩ | ⟨-, body, -, hr⟩ := request_spec s code len always bytes judge
  · exact .inl ⟨_, rfl, hr⟩
  · exact .inl ⟨_, rfl, hr⟩
  · have hv := hj body
    cases h : judge body with
    | refuse rc =>
      rw [h] at hv hr
      exact .inl ⟨rc, hv, hr⟩
    | answer rc answer t =>
      rw [h] at hv hr
      exact .inr ⟨rc, answer, t, hv.1, hv.2, hr⟩

/-- What a request of the table does to the response (R183, R184). -/
theorem exec_response {c : Instr} {code : Byte} {len : Nat} {bytes : List Byte} (s : State)
    (hc : c.request = some (code, len, bytes)) :
    (∃ rc, rc.refuses = true ∧ exec c s = .next (respond s rc code .empty)) ∨
    (∃ rc body t, rc.refuses = false ∧ KeepsPort c s t ∧ exec c s = .next (respond t rc code body)) := by
  obtain ⟨always, judge, hexec, -, hj⟩ := exec_isRequest s c hc
  rw [hexec]
  simpa only [Host.Outcome.next.injEq] using request_response code len always bytes hj

/-- Settles O9: a refusal and an answer both replace the response under the request's code. -/
theorem everyRequestIsAnsweredUnderItsCode : Obligations.EveryRequestIsAnsweredUnderItsCode := by
  unfold Obligations.EveryRequestIsAnsweredUnderItsCode
  intro c code len bytes s hc
  obtain ⟨rc, -, h⟩ | ⟨rc, body, t, -, ⟨-, hresponse, -⟩, h⟩ := exec_response s hc
  · exact ⟨_, h, rfl, rfl⟩
  · refine ⟨_, h, rfl, ?_⟩
    rw [← hresponse]
    rfl

/-- Settles O10: an answer has a code that does not refuse, and a refusal replaces the response alone. -/
theorem aRefusalChangesTheResponseAlone : Obligations.ARefusalChangesTheResponseAlone := by
  unfold Obligations.ARefusalChangesTheResponseAlone
  intro c code len bytes s t hc ht hrefuses
  obtain ⟨rc, -, h⟩ | ⟨rc, body, u, hnot, -, h⟩ := exec_response s hc
  · cases ht.symm.trans h
    rfl
  · cases ht.symm.trans h
    rw [respond, State.setConsole] at hrefuses
    exact absurd hrefuses (by rw [hnot]; exact Bool.false_ne_true)

/-! ### Owners -/

/-- The queue, the setup record and the response through a command other than PIN_RESET (R183, R187). -/
theorem exec_owners {c : Instr} {s t : State} (h : exec c s = .next t) (hp : c ≠ .pinReset) :
    t.pending = s.pending ∧ ((∀ b, c ≠ .setup b) → t.console.setup = s.console.setup) ∧
    (c.request = none → (∀ n b, c ≠ .unknownRequest n b) → t.console.response = s.console.response) := by
  cases hr : c.request with
  | some r =>
    obtain ⟨code, len, bytes⟩ := r
    obtain ⟨rc, -, h'⟩ | ⟨rc, body, u, -, ⟨hpending, -, hsetup⟩, h'⟩ := exec_response s hr
    · cases h.symm.trans h'
      exact ⟨rfl, fun _ => rfl, nofun⟩
    · cases h.symm.trans h'
      exact ⟨hpending, hsetup, nofun⟩
  | none =>
    by_cases hu : ∃ n b, c = .unknownRequest n b
    · obtain ⟨n, b, rfl⟩ := hu
      cases h
      exact ⟨rfl, fun _ => rfl, fun _ hn => absurd rfl (hn n b)⟩
    · have hk := exec_event_kept s c hr hp fun n b e => hu ⟨n, b, e⟩
      rw [h, leads_next] at hk
      obtain ⟨hpending, hresponse, hsetup⟩ : KeepsPort .pinReset s t := .of_sizes hk.1
      exact ⟨hpending, fun _ => hsetup nofun, fun _ _ => hresponse⟩

/-- Settles O12: the queue, the setup record and the response by the kind of the command; the store by its frame. -/
theorem onlyTheOwnersChangeStoreSetupAndResponse : Obligations.OnlyTheOwnersChangeStoreSetupAndResponse := by
  unfold Obligations.OnlyTheOwnersChangeStoreSetupAndResponse
  intro c s t h
  by_cases hp : c = .pinReset
  · subst hp
    cases h
    exact ⟨rfl, fun hn => absurd rfl hn⟩
  · obtain ⟨hpending, hsetup, hresponse⟩ := exec_owners h hp
    refine ⟨hpending, fun _ => ⟨fun ho => ?_, hsetup, hresponse⟩⟩
    have hstore := exec_keepsStore s c hp ho
    rwa [h] at hstore

/-! ### Next states -/

/-- The outcome is a next state. -/
def GoesOn (o : Host.Outcome State Fault Refusal) : Prop := ∃ t, o = .next t

theorem goesOn_next (t : State) : GoesOn (.next t) := ⟨t, rfl⟩

theorem goesOn_ite {p : Prop} [Decidable p] {a b : Host.Outcome State Fault Refusal} (ha : GoesOn a) (hb : GoesOn b) :
    GoesOn (if p then a else b) := by
  split
  · exact ha
  · exact hb

theorem goesOn_if {p : Prop} [Decidable p] (t u : State) : GoesOn (if p then .next t else .next u) :=
  goesOn_ite (goesOn_next t) (goesOn_next u)

/-- A command that is no request has a next state too. -/
theorem exec_event_goesOn (s : State) : ∀ c : Instr, c.request = none → GoesOn (exec c s)
  | .pinReset, _ | .readTransaction _, _ | .unknownRequest _ _, _ | .transferMark, _ | .advanceMark, _ | .dropMark, _
  | .verifyMark, _ | .gateMark, _ | .downMark, _ | .clinchMark, _ | .upMark, _ | .homeInput _, _ | .tapeEnd _ _, _
  | .indexHoldLevelChange _, _ | .entrySensorEmpty, _ | .frameDropped, _ | .withdrawFrame _, _ | .claimFrame _, _
  | .oweFrame _, _ | .announceFrame _, _ | .passportHead _, _ | .passportEntry _, _ | .statusFrame _, _ => goesOn_next _
  | .withdrawClampOpen, _ | .revolutionStart, _ | .restoringTurnStart, _ | .pitchConfirm, _ | .markTimeoutExpiry, _
  | .chainTimerExpiry, _ | .actuatorTimerExpiry _, _ | .indexMark _, _ | .guardOpen, _ | .guardClose, _ | .lineIndex, _
  | .clampClosed, _ | .passportWaitExpiry, _ | .silenceExpiry _, _ | .statusIntervalExpiry, _ => goesOn_if _ _
  | .restMark, _ => by
      refine goesOn_ite (goesOn_next _) ?_
      split
      · exact goesOn_if _ _
      · exact goesOn_next _
  | .gateHoldLimitExpiry, _ => by
      refine goesOn_ite ?_ (goesOn_next _)
      dsimp only
      split <;> exact goesOn_next _
  | .leadSenseConfirm, _ => by
      simp only [exec, execLeadSenseConfirm]
      split
      · exact goesOn_if _ _
      · exact goesOn_next _
  | .clinchConfirm, _ => by
      simp only [exec, execClinchConfirm]
      split
      · exact goesOn_if _ _
      · exact goesOn_next _
  | .verifyWord _, _ => by
      simp only [exec, execVerifyWord]
      split
      · exact goesOn_if _ _
      · exact goesOn_next _
  | .actuatorInPosition _, _ => by
      simp only [exec, execActuatorInPosition]
      split <;> exact goesOn_next _
  | .axisStep _, _ => by
      simp only [exec, execAxisStep]
      split
      · exact goesOn_next _
      all_goals exact goesOn_if _ _
  | .settleExpiry, _ => by
      simp only [exec, execSettleExpiry]
      split
      · exact goesOn_if _ _
      · exact goesOn_next _
  | .homeLimitExpiry, _ => by
      simp only [exec, execHomeLimitExpiry]
      split
      · exact goesOn_if _ _
      all_goals exact goesOn_next _
  | .dropConfirm _, _ => by
      simp only [exec, execDropConfirm]
      split <;> exact goesOn_next _
  | .entrySensor, _ => by
      simp only [exec, execEntrySensor]
      split <;> exact goesOn_next _
  | .exitSensor, _ => by
      simp only [exec, execExitSensor]
      split <;> exact goesOn_next _
  | .transferLimitExpiry, _ => by
      simp only [exec, execTransferLimitExpiry]
      split
      · exact goesOn_if _ _
      · exact goesOn_next _
  | .frameBegin, _ => by
      simp only [exec, execFrameBegin]
      split
      · exact goesOn_if _ _
      · exact goesOn_next _
  | .frameSent, _ => by
      simp only [exec, execFrameSent]
      split <;> exact goesOn_next _
  | .frameAttemptFailed, _ => by
      simp only [exec, execFrameAttemptFailed]
      split <;> exact goesOn_next _

/-- Settles O7: a request is one call of the port, which answers; every other command by the branches of its meaning. -/
theorem everyCommandAnswersANextState : Obligations.EveryCommandAnswersANextState := by
  unfold Obligations.EveryCommandAnswersANextState
  intro c s
  cases hr : c.request with
  | some r =>
    obtain ⟨always, judge, h, -⟩ := exec_isRequest s c (code := r.1) (len := r.2.1) (bytes := r.2.2) hr
    exact ⟨_, h⟩
  | none => exact exec_event_goesOn s c hr

/-- Settles O11: READ_TRANSACTION is no change, and a code that names no request replaces the response. -/
theorem readsAndUnknownCodes : Obligations.ReadsAndUnknownCodes := by
  unfold Obligations.ReadsAndUnknownCodes
  exact fun s bytes code => ⟨rfl, rfl⟩

end Sys2Proof.Machine
end

section
/-! PROOF. Steps, pin reset and its safety (R1, R121, R125), and the codes of transactions and of the cam encoder (R97, R183). -/

namespace Sys2Proof.Machine

/-! ### Steps and pin reset -/

/-- Settles O1: a nonempty queue takes the second branch of the step. -/
theorem stepRunsTheFrontCommand : Obligations.StepRunsTheFrontCommand := by
  unfold Obligations.StepRunsTheFrontCommand
  intro s c rest h
  simp only [step, h]

/-- Settles O3: every block is set to its initial value but for the levels and the queue that PIN_RESET carries over. -/
theorem pinResetPutsEveryBlockAtItsResetValues : Obligations.PinResetPutsEveryBlockAtItsResetValues := by
  unfold Obligations.PinResetPutsEveryBlockAtItsResetValues
  exact fun s => ⟨_, rfl, rfl, rfl, rfl, rfl, rfl, rfl, rfl, rfl, rfl, rfl, rfl, rfl, rfl, rfl⟩

/-- No context is held after reset (R118). -/
theorem ctxAt_reset (i : Nat) : ctxAt State.reset i = none := by
  show (List.replicate 5 (none : Option Context)).getD i none = none
  rw [List.getD_eq_getElem?_getD, List.getElem?_replicate]
  split <;> rfl

/-- No chain record is live after reset: there is none before SETUP (R32). -/
theorem clipAt_reset_live (p : Nat) : (clipAt State.reset p).live = none := rfl

theorem reset_holdInv : HoldInv State.reset := ⟨rfl, fun _ => ⟨rfl, rfl⟩⟩

theorem reset_sized : Sized State.reset :=
  ⟨List.length_replicate, List.length_replicate, List.length_replicate, rfl, List.length_replicate, List.length_replicate,
    Nat.zero_le _, Nat.zero_le _, Nat.zero_le _, by decide, by decide, by decide, ⟨fun _ => rfl, fun _ => rfl⟩⟩

theorem reset_shape : Shape State.reset :=
  { reset_sized with
    contexts := fun i c h => by rw [ctxAt_reset] at h; cases h
    banks := fun b => by cases b <;> rfl
    block := nofun
    normalKinds := rfl
    announces := Nat.zero_le _
    statuses := Nat.zero_le _ }

theorem reset_lawful : Lawful State.reset where
  bound i c b h := by rw [ctxAt_reset] at h; cases h
  liveOnce p q i j h := by rw [clipAt_reset_live] at h; cases h
  counters ax := by cases ax <;> exact Nat.zero_le _
  operation := rfl
  poses p i h := by rw [clipAt_reset_live] at h; cases h
  travels := nofun
  idle := fun _ => rfl
  untouched i c h := by rw [ctxAt_reset] at h; cases h
  jaws := nofun

/-- Settles O4: after reset no context, no live clip, no operation and no queued frame is there to break a rule. -/
theorem resetIsSafe : Obligations.ResetIsSafe := ⟨reset_holdInv, reset_shape, reset_lawful⟩

/-! ### Codes -/

/-- A byte or a cam code is the literal of its value. -/
theorem ofNat_of_toNat_eq {w n : Nat} {c : BitVec w} (h : c.toNat = n) : BitVec.ofNat w n = c := by
  rw [← h, BitVec.ofNat_toNat, BitVec.setWidth_eq]

theorem encode_decodeTransaction (bytes : List Byte) : encodeTransaction (decodeTransaction bytes) = some bytes := by
  cases bytes with
  | nil => rfl
  | cons c rest =>
    simp only [decodeTransaction]
    split
    case h_1 => rfl
    case h_33 => rfl
    all_goals exact congrArg (fun b => some (b :: rest)) (ofNat_of_toNat_eq (by assumption))

theorem decode_encodeCamCode {c : Instr} {code : BitVec 4} (h : encodeCamCode c = some code) :
    decodeCamCode code = some c := by
  unfold encodeCamCode at h
  split at h
  case h_10 => cases h
  all_goals
    cases h
    rfl

theorem encode_decodeCamCode {c : Instr} {code : BitVec 4} (h : decodeCamCode code = some c) :
    encodeCamCode c = some code := by
  unfold decodeCamCode at h
  split at h
  case h_10 => cases h
  all_goals
    cases h
    exact congrArg some (ofNat_of_toNat_eq (by assumption))

/-- The transaction of a well-formed command decodes to it: a request by its code, and an event of another pin has none. -/
theorem decode_encodeTransaction (c : Instr) : Laws.Transaction.Statement c := by
  cases c with
  | readTransaction bytes => exact Laws.Transaction.readTransaction bytes
  | unknownRequest code bytes => exact Laws.Transaction.unknownRequest code bytes
  | _ => exact fun _ _ h => by cases h <;> rfl

/-- Settles O60: a transaction by its code byte, a cam code by its four bits. -/
theorem transactionsAndCamCodesDecode : Obligations.TransactionsAndCamCodesDecode := by
  unfold Obligations.TransactionsAndCamCodesDecode
  exact ⟨fun c bytes hw h => decode_encodeTransaction c bytes hw h, encode_decodeTransaction,
    fun _ _ => decode_encodeCamCode, fun _ _ => encode_decodeCamCode⟩

end Sys2Proof.Machine
end

section
/-! SUPPORT. What the end of a command makes of the line (R151): nothing but a STATUS, queued when the run state, the current
serial or the holding flag has changed. -/

namespace Sys2Proof.Machine

/-! ### The line through the end of a command -/

@[simp] theorem setPositioning_line (s : State) (r : Option Positioning) : (setPositioning s r).line = s.line := rfl
@[simp] theorem setActuator_line (s : State) (a : Actuator) (r : ActRecord) : (setActuator s a r).line = s.line := rfl
@[simp] theorem report_line (s : State) (k : ReportKind) : (report s k).line = s.line := rfl
@[simp] theorem setSlot_line (s : State) (i : Nat) (c : Option Context) : (setSlot s i c).line = s.line := rfl
@[simp] theorem enterAlarm_line (s : State) (c : AlarmClass) (src : AlarmSource) : (enterAlarm s c src).line = s.line := rfl
@[simp] theorem setRun_line (s : State) (r : RunState) : (setRun s r).line = s.line := rfl
@[simp] theorem leaveGate_line (s : State) : (leaveGate s).line = s.line := rfl
@[simp] theorem testFinished_line (s : State) : (testFinished s).line = s.line := by
  unfold testFinished; (repeat' split) <;> simp
@[simp] theorem dropStale_line (s : State) : (dropStale s).line = s.line := by
  unfold dropStale; (repeat' split) <;> simp
@[simp] theorem beginPositioning_line (s : State) (atUp : Bool) (pos : Nat) (i : ClipItem) :
    (beginPositioning s atUp pos i).line = s.line := by
  unfold beginPositioning; (repeat' split) <;> simp
@[simp] theorem raiseCountdown_line (s : State) (k : ItemKey) (t : Nat) : (raiseCountdown s k t).line = s.line := by
  unfold raiseCountdown; (repeat' split) <;> simp
@[simp] theorem aimTable_line (atUp : Bool) (s : State) : (aimTable atUp s).line = s.line := by
  unfold aimTable; (repeat' split) <;> simp [setOp]
@[simp] theorem aimActuator_line (atUp : Bool) (pos : Nat) (i : ClipItem) (s : State) (a : Actuator) :
    (aimActuator atUp pos i s a).line = s.line := by
  unfold aimActuator commandActuator; dsimp only; (repeat' split) <;> simp
@[simp] theorem keepBack_line (s : State) : (keepBack s).line = s.line := by unfold keepBack; split <;> rfl
@[simp] theorem aimActuators_line (atUp : Bool) (s : State) : (aimActuators atUp s).line = s.line := by
  unfold aimActuators; (repeat' split) <;> simp [actuators]
@[simp] theorem zeroCountdown_line (before s : State) : (zeroCountdown before s).line = s.line := by
  unfold zeroCountdown; (repeat' split) <;> simp
@[simp] theorem releaseGate_line (s : State) : (releaseGate s).line = s.line := by
  unfold releaseGate; split <;> simp
@[simp] theorem completeRun_line (s : State) : (completeRun s).line = s.line := by
  unfold completeRun; (repeat' split) <;> simp
@[simp] theorem updateHold_line (s : State) : (updateHold s).line = s.line := by
  unfold updateHold watchDownstream; dsimp only; split <;> simp [updatePull]

/-- The state at the end of a command, before its STATUS. -/
def consequences (atUp : Bool) (before s : State) : State :=
  updateHold (dropStale (completeRun (releaseGate (aim atUp before (testFinished s)))))

theorem finish_eq (atUp : Bool) (before s : State) :
    finish atUp before s = statusOnChange before (consequences atUp before s) := rfl

theorem consequences_line (atUp : Bool) (before s : State) : (consequences atUp before s).line = s.line := by
  simp [consequences, aim]

/-- What a STATUS says is not changed by queueing it. -/
theorem statusContent_queueStatus (s : State) : statusContent (queueStatus s) = statusContent s := rfl

/-- The normal queue after a command that changes the run state of a configured station: a STATUS of the new state joins it
(R147, R151). -/
theorem finish_normal_of_run (atUp : Bool) (before s : State) (hr : before.jam.run ≠ (finish atUp before s).jam.run)
    (hs : setupDone s = true) :
    (finish atUp before s).line.normal =
      withStatus (normalBegun s) s.line.normal (.status (statusContent (finish atUp before s))) := by
  rw [finish_eq] at hr ⊢
  rw [statusOnChange_jam] at hr
  have hnot : ¬(before.jam.run = (consequences atUp before s).jam.run ∧
      currentSerial before = currentSerial (consequences atUp before s) ∧
      before.boards.pulled = (consequences atUp before s).boards.pulled) := fun h => hr h.1
  have hsetup : (consequences atUp before s).console.setup = s.console.setup :=
    (congrArg Sizes.setup (statusOnChange_sizes before (consequences atUp before s))).symm.trans
      (congrArg Sizes.setup (finish_sizes atUp before s))
  have hdone : setupDone (consequences atUp before s) = true := by
    rw [← hs]
    simp only [setupDone, hsetup]
  have hline := consequences_line atUp before s
  rw [statusOnChange, if_neg hnot, statusContent_queueStatus]
  simp only [queueStatus, State.setLine_line, hdone, if_true, normalBegun, hline]

end Sys2Proof.Machine
end

section
/-! PROOF. SETUP (R186, R187), the snapshots (R25, R94, R140, R188) and the passing of time (log 1). -/

namespace Sys2Proof.Machine

/-! ### SETUP -/

section
variable {s : State} {body : List Byte}

theorem exec_setup_framed (s : State) (extra : List Byte) (hl : body.length = 131) :
    exec (.setup (framed body extra)) s = .next ((judgeSetup s body).conclude s 0x01) :=
  congrArg Host.Outcome.next (request_framed s 0x01 true extra (judgeSetup s) hl (by decide) (.inl rfl))

theorem judgeSetup_of_parsed {c : Setup} (hu : s.jam.run = .unconfigured) (hc : parseSetup body = some c) :
    judgeSetup s body = .done (finish false s (configure s c)) := by
  simp only [judgeSetup, if_pos hu, hc]

theorem judgeSetup_of_out_of_range (hu : s.jam.run = .unconfigured) (hc : parseSetup body = none) :
    judgeSetup s body = .refuse .refusedRange := by
  simp only [judgeSetup, if_pos hu, hc]

theorem judgeSetup_of_configured (hu : s.jam.run ≠ .unconfigured) : judgeSetup s body = .refuse .refusedState :=
  if_neg hu

end

theorem finish_configure_run (s : State) (c : Setup) : (finish false s (configure s c)).jam.run = .idle :=
  (finish_run false s (configure s c) rfl).1

/-- The queues are emptied, so the STATUS of the new run state stands alone (R151, R187). -/
theorem finish_configure_normal {s : State} (c : Setup) (hu : s.jam.run = .unconfigured) :
    (finish false s (configure s c)).line.normal = [.status (statusContent (finish false s (configure s c)))] :=
  finish_normal_of_run false s (configure s c) (by rw [hu, finish_configure_run]; exact nofun) rfl

/-- Settles O13: SETUP reaches its judge in any run state, and the end of the command leaves the configured blocks as they
are but for the STATUS. -/
theorem setupConfiguresTheBlocks : Obligations.SetupConfiguresTheBlocks := by
  unfold Obligations.SetupConfiguresTheBlocks
  intro s body extra hl
  rw [exec_setup_framed s extra hl]
  refine ⟨fun c hu hc => ?configured, fun hu hc => ?range, fun hu => ?state⟩
  case configured =>
    have hrun := finish_configure_run s c
    rw [judgeSetup_of_parsed hu hc]
    refine ⟨_, rfl, ?work, hrun, ?normal⟩
    case work =>
      simp only [Verdict.done, Verdict.conclude]
      rw [respond_work, finish_work, finish_response]
      rfl
    case normal =>
      refine (finish_configure_normal c hu).trans ?_
      rw [statusContent, hrun]
      rfl
  case range => rw [judgeSetup_of_out_of_range hu hc]; rfl
  case state => rw [judgeSetup_of_configured hu]; rfl

/-! ### Snapshots -/

section
variable {s : State} {f : Nat → Dispenser → Verdict} {body : List Byte}

theorem onDispenser_of_above (hd : 63 < at8 body 0) : onDispenser s body f = .refuse .refusedRange := if_pos hd

theorem onDispenser_of_absent (hd : at8 body 0 ≤ 63) (ha : (dispAt s (at8 body 0)).state = .absent) :
    onDispenser s body f = .refuse .refusedState :=
  (if_neg (Nat.not_lt.mpr hd)).trans (if_pos ha)

theorem onDispenser_of_present (hd : at8 body 0 ≤ 63) (ha : (dispAt s (at8 body 0)).state ≠ .absent) :
    onDispenser s body f = f (at8 body 0) (dispAt s (at8 body 0)) :=
  (if_neg (Nat.not_lt.mpr hd)).trans (if_neg ha)

end

section
variable (s : State) (extra : List Byte)

theorem exec_readDispenser_framed (d : Byte) :
    exec (.readDispenser (framed [d] extra)) s =
      .next ((onDispenser s [d] fun d _ => .answer .done (.dispenser (dispenserReply s d)) s).conclude s 0x26) :=
  congrArg Host.Outcome.next (request_framed s 0x26 true extra
    (fun body => onDispenser s body fun d _ => .answer .done (.dispenser (dispenserReply s d)) s)
    List.length_singleton (by decide) (.inl rfl))

theorem exec_readBoard_framed {body : List Byte} (hl : body.length = 4) :
    exec (.readBoard (framed body extra)) s = .next ((judgeReadBoard s body).conclude s 0x43) :=
  congrArg Host.Outcome.next (request_framed s 0x43 true extra (judgeReadBoard s) hl (by decide) (.inl rfl))

/-- A read request without a body is answered with its snapshot in any run state. -/
theorem request_snapshot (code : Byte) (snapshot : Body) :
    request s code 0 true (framed [] extra) (fun _ => .answer .done snapshot s) = respond s .done code snapshot :=
  request_framed s code true extra (fun _ => .answer .done snapshot s) List.length_nil (by decide) (.inl rfl)

end

/-- Settles O14: the two reads without a body always return their snapshot; the other two by what their body names. -/
theorem snapshotsAreReadWithoutChange : Obligations.SnapshotsAreReadWithoutChange := by
  unfold Obligations.SnapshotsAreReadWithoutChange
  intro s extra
  refine ⟨congrArg Host.Outcome.next (request_snapshot s extra 0x02 _), congrArg Host.Outcome.next (request_snapshot s extra 0x32 _), fun d hd ha => ?read,
    fun d hd => ?above, fun d hd ha => ?absent, fun body slot c hl hslot hc => ?board, fun body hl hslot => ?none⟩
  case read => rw [exec_readDispenser_framed, onDispenser_of_present (body := [d]) hd ha]; rfl
  case above => rw [exec_readDispenser_framed, onDispenser_of_above (body := [d]) hd]; rfl
  case absent => rw [exec_readDispenser_framed, onDispenser_of_absent (body := [d]) hd ha]; rfl
  case board =>
    rw [exec_readBoard_framed s extra hl]
    simp only [judgeReadBoard, hslot, Option.bind_some, hc, Verdict.conclude]
  case none =>
    rw [exec_readBoard_framed s extra hl]
    simp only [judgeReadBoard, hslot, Option.bind_none, Verdict.conclude]

/-! ### Time -/

theorem step_of_empty {s : State} (h : s.pending = []) : step s = .next (idle s) := by simp only [step, h]

/-- Settles O2: on an empty queue the step is the first due command's joining, or one microsecond. -/
theorem emptyQueueLetsTimePass : Obligations.EmptyQueueLetsTimePass := by
  unfold Obligations.EmptyQueueLetsTimePass
  intro s hp
  rw [step_of_empty hp]
  refine ⟨fun c rest hd => ?joins, fun hd => ?passes⟩
  case joins => simp only [idle, hd]
  case passes =>
    have htick : idle s = tick s := by simp only [idle, hd]
    rw [htick]
    exact ⟨tick s, rfl, rfl, rfl, rfl, rfl, rfl, rfl, rfl, hp, rfl, rfl, rfl, rfl, fun a => by cases a <;> rfl, rfl, rfl, rfl⟩

end Sys2Proof.Machine
end

section
/-! PROOF. BANK_OPEN, STEP, BANK_ERASE and PART_ENTRY (R4 to R7, R9, R11, R14, R17). -/

namespace Sys2Proof.Machine

/-! ### BANK_OPEN (R6) -/

theorem bankOfNat_of_above {n : Nat} (h : 1 < n) : bankOfNat n = none := by
  match n, h with
  | n + 2, _ => rfl

theorem bankOfNat_of_le {n : Nat} (h : n ≤ 1) : ∃ b, bankOfNat n = some b := by
  match n, h with
  | 0, _ => exact ⟨.zero, rfl⟩
  | 1, _ => exact ⟨.one, rfl⟩

/-- A bank request that names no bank is out of range (1.4). -/
theorem onBank_of_unnamed {body : List Byte} (f : BankId → Verdict) (h : bankOfNat (at8 body 0) = none) :
    onBank body f = .refuse .refusedRange := by
  simp only [onBank, h]

section
variable {s : State} {b : BankId} {body : List Byte} {images : List (Option Image)}

/-- A BANK_OPEN whose body has a field out of range (R6). -/
theorem openBank_of_out_of_range (h : parseImages body = none ∨ parseImages body = some (List.replicate 8 none) ∨
    at16 body 1 = 0 ∨ at16 body 3 = 0 ∨ 512 < at16 body 3) : openBank s body b = .refuse .refusedRange := by
  cases hi : parseImages body with
  | none => simp only [openBank, hi]
  | some images =>
    have hrange : at16 body 1 = 0 ∨ (!within 1 (at16 body 3) 512) = true ∨ (!images.any Option.isSome) = true := by
      rw [hi] at h
      rcases h with h | h | h | h
      · cases h
      · cases h
        exact .inr (.inr rfl)
      · exact .inl h
      · refine .inr (.inl ?_)
        rw [Bool.not_eq_true', ← Bool.not_eq_true, within_iff]
        omega
    simp only [openBank, hi, if_pos hrange]

/-- A BANK_OPEN with its fields in range is judged by the use of the bank, then by the states of both (R6). -/
theorem openBank_of_in_range (hi : parseImages body = some images) (hany : images.any Option.isSome = true)
    (hid : 1 ≤ at16 body 1) (hlo : 1 ≤ at16 body 3) (hhi : at16 body 3 ≤ 512) :
    openBank s body b =
      if inUse s b then .refuse .refusedInUse
      else if (s.store.bank b).state = .loading ∨ (s.store.bank b).state = .aborted ∨ heldElsewhere s b (at16 body 1) then
        .refuse .refusedState
      else .done (putBank s b { state := .loading, programId := some (at16 body 1), declared := at16 body 3,
                                images := images, steps := [], abortCause := none }) := by
  have hrange : ¬(at16 body 1 = 0 ∨ (!within 1 (at16 body 3) 512) = true ∨ (!images.any Option.isSome) = true) := by
    rw [hany, (within_iff _ _ _).mpr ⟨hlo, hhi⟩]
    simp only [Bool.not_true, Bool.false_eq_true, or_self, or_false]
    omega
  simp only [openBank, hi, if_neg hrange]

/-- The other bank holds the program when it is READY or LOADING with its id (R6). -/
theorem heldElsewhere_iff (s : State) (b : BankId) (p : Nat) :
    heldElsewhere s b p = true ↔
      ((s.store.bank b.other).state = .ready ∨ (s.store.bank b.other).state = .loading) ∧
        (s.store.bank b.other).programId = some p := by
  simp [heldElsewhere]

end

theorem exec_bankOpen_of_unnamed (s : State) {body : List Byte} (extra : List Byte) (hl : body.length = 53)
    (h : 1 < at8 body 0) : exec (.bankOpen (framed body extra)) s = .next (respond s .refusedRange 0x10 .empty) := by
  refine congrArg Host.Outcome.next ((request_framed s 0x10 true extra _ hl (by decide) (.inl rfl)).trans ?_)
  rw [onBank_of_unnamed _ (bankOfNat_of_above h)]
  rfl

/-- Settles O17: the bank number, then the ranges, then the use of the bank and the states of both banks. -/
theorem bankOpenStartsALoad : Obligations.BankOpenStartsALoad := by
  unfold Obligations.BankOpenStartsALoad
  refine ⟨fun s body extra hl h => exec_bankOpen_of_unnamed s extra hl h, fun s body extra hl hle hopen h => ?range,
    fun s body extra b images hl hb hopen hi hany hid hlo hhi => ?inRange⟩
  case range =>
    obtain ⟨b, hb⟩ := bankOfNat_of_le hle
    rw [exec_bankOpen_framed s extra hl hb, unlessOpen_of_none _ hopen, openBank_of_out_of_range h]
    rfl
  case inRange =>
    rw [exec_bankOpen_framed s extra hl hb, unlessOpen_of_none _ hopen, openBank_of_in_range hi hany hid hlo hhi]
    refine ⟨fun hu hs hother hp => ?held, fun hu hs hother => ?opened, fun hu => ?used, fun hu hs => ?busy⟩
    case held =>
      have hheld := (heldElsewhere_iff s b (at16 body 1)).mpr ⟨hother, hp⟩
      rw [hu, if_neg Bool.false_ne_true, if_pos (.inr (.inr hheld))]
      rfl
    case opened =>
      have hfree : ¬((s.store.bank b).state = .loading ∨ (s.store.bank b).state = .aborted ∨
          heldElsewhere s b (at16 body 1) = true) := by
        rw [heldElsewhere_iff]
        rintro (h | h | ⟨ho, hp⟩)
        · simp [h] at hs
        · simp [h] at hs
        · exact hother ho hp
      rw [hu, if_neg Bool.false_ne_true, if_neg hfree]
      rfl
    case used => rw [hu, if_pos rfl]; rfl
    case busy =>
      rw [hu, if_neg Bool.false_ne_true, if_pos (hs.imp_right .inl)]
      rfl

/-! ### STEP (R4, R5, R9) -/

/-- A detent's span lies within 4 g.u. of the measured one (R5). -/
theorem detentOf_spec {d : Int} {k : Nat} (h : detentOf d = some k) :
    k ≤ 42 ∧ (d - (200 + 20 * (k : Int))).natAbs ≤ 4 := by
  unfold detentOf at h
  dsimp only at h
  split at h
  case isTrue hk =>
    cases h
    omega
  case isFalse => cases h

/-- A step record that has no defect is in the range of every field (R4). -/
theorem stepDefect_eq_none {v : Bank} {received : List StepRecord} {r : RawStep} (h : stepDefect v received r = none) :
    r.id ≤ 4095 ∧ r.image ≤ 7 ∧ r.part ≠ 0 ∧ r.holes.inRange = true ∧
    axial (r.holes.bX - r.holes.aX) (r.holes.bY - r.holes.aY) = true ∧
    (detentOf ((r.holes.bX - r.holes.aX).natAbs + (r.holes.bY - r.holes.aY).natAbs)).isSome = true ∧
    (v.steps ++ received).any (·.id == r.id) = false := by
  unfold stepDefect at h
  dsimp only at h
  split_ifs at h with hid himage hpart hgeometry hspan hdup
  simp only [not_or, Bool.not_eq_true, Bool.not_eq_false', Option.isNone_eq_false_iff] at hid himage hgeometry hspan hdup
  exact ⟨by omega, by omega, hpart, hgeometry.1, hgeometry.2, hspan, hdup⟩

theorem axial_iff (dx dy : Int) : axial dx dy = true ↔ ¬(dx = 0 ↔ dy = 0) := by
  by_cases hx : dx = 0 <;> by_cases hy : dy = 0 <;> simp [axial, hx, hy]

section
variable {s : State} {ob : OpenBlock} {body : List Byte} {b : BankId}

theorem takeStep_of_other_bank (h : ob.bank ≠ b) : takeStep s ob body b = aborted s ob.bank .wrongBank := if_pos h.symm

theorem takeStep_of_full (hb : ob.bank = b) (h : ob.steps.length = ob.size) :
    takeStep s ob body b = aborted s b .stepExcess := by
  subst hb
  exact (if_neg (by simp)).trans (if_pos h.ge)

/-- With room in the block the record is judged by its first defect (R4). -/
theorem takeStep_of_room (hb : ob.bank = b) (h : ob.steps.length < ob.size) :
    takeStep s ob body b =
      match stepDefect (s.store.bank b) ob.steps (parseStep body) with
      | some cause => aborted s b cause
      | none =>
        .done (s.setStore { s.store with block := some { ob with steps := ob.steps ++ [(parseStep body).stored] } }) := by
  subst hb
  exact (if_neg (by simp)).trans (if_neg (by omega))

theorem exec_stepRecord_of_none (s : State) (extra : List Byte) (hl : body.length = 14)
    (hb : bankOfNat (at8 body 0) = some b) (h : s.store.block = none) :
    exec (.stepRecord (framed body extra)) s = .next (respond s .refusedState 0x12 .empty) := by
  simp only [exec, execStepRecord, h]
  exact congrArg _ (request_onBank s 0x12 extra (fun _ _ => .refuse .refusedState) hl (by decide) hb)

theorem exec_stepRecord_of_some (s : State) (extra : List Byte) (hl : body.length = 14)
    (hb : bankOfNat (at8 body 0) = some b) (h : s.store.block = some ob) :
    exec (.stepRecord (framed body extra)) s = .next ((takeStep s ob body b).conclude s 0x12) := by
  simp only [exec, execStepRecord, h]
  exact congrArg _ (request_onBank s 0x12 extra (fun body b => takeStep s ob body b) hl (by decide) hb)

end

/-- Settles O19: STEP by the open block, then by the first defect of its record; what a record without one is. -/
theorem stepJoinsTheOpenBlock : Obligations.StepJoinsTheOpenBlock := by
  unfold Obligations.StepJoinsTheOpenBlock
  refine ⟨fun s body extra b hl hb => ⟨exec_stepRecord_of_none s extra hl hb, fun ob ho hob => ?other,
    fun ob ho hob hfull => ?full, fun ob cause ho hob hroom hd => ?defect, fun ob ho hob hroom hd => ?joins⟩,
    fun v received r h => ?passes⟩
  case other => rw [exec_stepRecord_of_some s extra hl hb ho, takeStep_of_other_bank hob]; rfl
  case full => rw [exec_stepRecord_of_some s extra hl hb ho, takeStep_of_full hob hfull]; rfl
  case defect => rw [exec_stepRecord_of_some s extra hl hb ho, takeStep_of_room hob hroom, hd]; rfl
  case joins => rw [exec_stepRecord_of_some s extra hl hb ho, takeStep_of_room hob hroom, hd]; rfl
  case passes =>
    obtain ⟨hid, himage, hpart, hrange, haxial, hspan, hdup⟩ := stepDefect_eq_none h
    obtain ⟨k, hk⟩ := Option.isSome_iff_exists.mp hspan
    have hstored : r.stored.span = k := by simp only [RawStep.stored, hk, Option.getD_some]
    obtain ⟨hle, hnear⟩ := detentOf_spec hk
    refine ⟨hid, himage, Nat.one_le_iff_ne_zero.mpr hpart, hrange, (axial_iff _ _).mp haxial, hstored ▸ hle, ?_, ?_⟩
    · rw [hstored, Nat.cast_add]
      exact hnear
    · simpa only [List.any_eq_false, beq_iff_eq] using hdup

/-! ### BANK_ERASE and the open block (R7, R11, R14) -/

section
variable {s : State} {b : BankId}

theorem eraseBank_of_aborted (h : (s.store.bank b).state = .aborted) :
    eraseBank s b = .done (putBank s b Bank.emptied) := by
  simp only [eraseBank, h]

theorem eraseBank_of_ready (h : (s.store.bank b).state = .ready) :
    eraseBank s b = if inUse s b then .refuse .refusedInUse else .done (putBank s b Bank.emptied) := by
  simp only [eraseBank, h]

theorem eraseBank_of_unready (h : (s.store.bank b).state = .empty ∨ (s.store.bank b).state = .loading) :
    eraseBank s b = .refuse .refusedState := by
  rcases h with h | h <;> simp only [eraseBank, h]

section
variable (s) {x : Byte} (extra : List Byte) (hb : bankOfNat x.toNat = some b)
include hb

theorem exec_bankErase_framed :
    exec (.bankErase (framed [x] extra)) s = .next ((unlessOpen s (eraseBank s b)).conclude s 0x16) :=
  congrArg Host.Outcome.next
    (request_onBank s 0x16 extra (fun _ b => unlessOpen s (eraseBank s b)) rfl (by decide) hb)

theorem exec_bankClose_framed :
    exec (.bankClose (framed [x] extra)) s = .next ((unlessOpen s (closeBank s b)).conclude s 0x14) :=
  congrArg Host.Outcome.next
    (request_onBank s 0x14 extra (fun _ b => unlessOpen s (closeBank s b)) rfl (by decide) hb)

end
end

/-- Settles O23: BANK_ERASE by the bank's state and use; with a block open each of the three requests aborts its bank. -/
theorem bankEraseAndTheOpenBlock : Obligations.BankEraseAndTheOpenBlock := by
  unfold Obligations.BankEraseAndTheOpenBlock
  intro s x extra b hb
  refine ⟨fun hn h => ?emptied, fun hn hr hu => ?used, fun hn h => ?unready, fun ob body ho hl hx =>
    ⟨abortBank s ob.bank .sequence, rfl, ?erase, ?close, ?opening⟩⟩
  case emptied =>
    rw [exec_bankErase_framed s extra hb, unlessOpen_of_none _ hn]
    rcases h with ha | ⟨hr, hu⟩
    · rw [eraseBank_of_aborted ha]; rfl
    · rw [eraseBank_of_ready hr, hu]; rfl
  case used => rw [exec_bankErase_framed s extra hb, unlessOpen_of_none _ hn, eraseBank_of_ready hr, hu]; rfl
  case unready => rw [exec_bankErase_framed s extra hb, unlessOpen_of_none _ hn, eraseBank_of_unready h]; rfl
  case erase => rw [exec_bankErase_framed s extra hb, unlessOpen_of_some _ ho]; rfl
  case close => rw [exec_bankClose_framed s extra hb, unlessOpen_of_some _ ho]; rfl
  case opening => rw [exec_bankOpen_framed s extra hl (by rw [hx, hb]), unlessOpen_of_some _ ho]; rfl

/-! ### PART_ENTRY (R17) -/

section
variable {s : State} {body : List Byte}

theorem exec_partEntry_framed (s : State) (extra : List Byte) (hl : body.length = 8) :
    exec (.partEntry (framed body extra)) s = .next ((writePart s body).conclude s 0x17) :=
  congrArg Host.Outcome.next (request_framed s 0x17 true extra (writePart s) hl (by decide) (.inl rfl))

/-- A flag byte is 0 or 1 (R195). -/
theorem flagOf_of_above {n : Nat} (h : 1 < n) : flagOf n = none := by
  match n, h with
  | n + 2, _ => rfl

theorem parsePartEntry_of_present {kind : PartKind} (hf : at8 body 1 = 1) (hk : partKindOf (at8 body 2) = some kind)
    (hc : at8 body 3 ≤ 7) (hb : at16 body 4 ≤ at16 body 6) :
    parsePartEntry body = some (some ⟨kind, at8 body 3, at16 body 4, at16 body 6⟩) := by
  simp only [parsePartEntry, hf, flagOf, hk, if_pos (And.intro hc hb)]

theorem parsePartEntry_of_out_of_range (h : 1 < at8 body 1 ∨
    (at8 body 1 = 1 ∧ (partKindOf (at8 body 2) = none ∨ 7 < at8 body 3 ∨ at16 body 6 < at16 body 4))) :
    parsePartEntry body = none := by
  rcases h with h | ⟨hf, h⟩
  · simp only [parsePartEntry, flagOf_of_above h]
  · simp only [parsePartEntry, hf, flagOf]
    split
    case h_1 => rfl
    case h_2 kind hk =>
      rw [hk] at h
      exact if_neg (by simp at h; omega)

theorem writePart_of_parsed {e : Option PartEntry} (hc : 1 ≤ at8 body 0) (hp : parsePartEntry body = some e) :
    writePart s body = .done (s.setStore { s.store with parts := s.store.parts.set (at8 body 0 - 1) e }) := by
  simp only [writePart, hp, if_neg (Nat.one_le_iff_ne_zero.mp hc)]

theorem writePart_of_out_of_range (h : at8 body 0 = 0 ∨ parsePartEntry body = none) :
    writePart s body = .refuse .refusedRange := by
  unfold writePart
  dsimp only
  split
  case h_1 => rfl
  case h_2 e he => exact if_pos (h.resolve_right (by rw [he]; exact nofun))

end

/-- Settles O24: PART_ENTRY by its present flag, and by the ranges of the entry when it is set. -/
theorem partEntryWritesOneEntry : Obligations.PartEntryWritesOneEntry := by
  unfold Obligations.PartEntryWritesOneEntry
  intro s body extra hl
  rw [exec_partEntry_framed s extra hl]
  refine ⟨fun hc hf => ?absent, fun kind hc hf hk hcls hb => ?present, fun h => ?range⟩
  case absent =>
    have hp : parsePartEntry body = some none := by simp only [parsePartEntry, hf, flagOf]
    rw [writePart_of_parsed hc hp]
    rfl
  case present => rw [writePart_of_parsed hc (parsePartEntry_of_present hf hk hcls hb)]; rfl
  case range => rw [writePart_of_out_of_range (h.imp_right parsePartEntry_of_out_of_range)]; rfl

end Sys2Proof.Machine
end

section
/-! SUPPORT. The records after a change: slots, clips, dispensers and groups. And what owing, handing back, closing a plan and
binding leave of the state: everything but one slot's context, the urgent queue and the reports (R48, R52 to R58). -/

namespace Sys2Proof.Machine

/-! ### Equal blocks -/

theorem travel_congr {s t : State} (h : t.console.setup = s.console.setup) : travel t = travel s := by
  funext ax
  simp only [travel, cfg, h]

theorem ctxAt_congr {s t : State} (h : t.boards.slots = s.boards.slots) : ctxAt t = ctxAt s := by
  funext i
  simp only [ctxAt, h]

theorem clipAt_congr {s t : State} (h : t.chain.clips = s.chain.clips) : clipAt t = clipAt s := by
  funext i
  simp only [clipAt, h]

/-! ### Slots and clips after a change -/

section
variable {s : State}

theorem ctxAt_modCtx (s : State) (i j : Nat) (f : Context → Context) :
    ctxAt (modCtx s i f) j = if i = j then (ctxAt s j).map f else ctxAt s j := by
  simp only [ctxAt, modCtx, State.setBoards_boards, List.getD_eq_getElem?_getD, List.getElem?_modify]
  cases s.boards.slots[j]? with
  | none => simp
  | some o => by_cases h : i = j <;> simp [h]

theorem ctxAt_lt {i : Nat} {c : Context} (h : ctxAt s i = some c) : i < s.boards.slots.length := by
  have := ctxAt_some h
  exact (List.getElem?_eq_some_iff.mp this).1

/-- A slot past the last one holds no context, and none can be put into it. -/
theorem ctxAt_setSlot (s : State) (i j : Nat) (o : Option Context) :
    ctxAt (setSlot s i o) j = if i = j ∧ j < s.boards.slots.length then o else ctxAt s j := by
  simp only [ctxAt, setSlot, State.setBoards_boards, List.getD_eq_getElem?_getD, List.getElem?_set]
  by_cases hij : i = j
  · subst hij
    by_cases hl : i < s.boards.slots.length
    · simp [hl]
    · simp [hl]
  · simp [hij]

theorem clipAt_setClip (s : State) (p r : Nat) (c : Clip) :
    clipAt (setClip s p c) r = if p = r ∧ r < s.chain.clips.length then c else clipAt s r := by
  simp only [clipAt, setClip, State.setChain_chain, List.getD_eq_getElem?_getD, List.getElem?_set]
  by_cases hpr : p = r
  · subst hpr
    by_cases hl : p < s.chain.clips.length
    · simp [hl]
    · simp [hl]
  · simp [hpr]

end

/-- A dispenser record after another is changed; past the records nothing changes. -/
theorem dispAt_modDisp (s : State) (d e : Nat) (f : Dispenser → Dispenser) :
    dispAt (modDisp s d f) e = if d = e ∧ e < s.disp.records.length then f (dispAt s e) else dispAt s e := by
  simp only [dispAt, modDisp, State.setDisp_disp, List.getD_eq_getElem?_getD, List.getElem?_modify]
  by_cases hl : e < s.disp.records.length
  · by_cases hde : d = e <;> simp [hl, hde]
  · simp [hl]

theorem groupAt_modGroup (s : State) (g e : Nat) (f : Group → Group) :
    groupAt (modGroup s g f) e = if g = e ∧ e < s.disp.groups.length then f (groupAt s e) else groupAt s e := by
  simp only [groupAt, modGroup, State.setDisp_disp, List.getD_eq_getElem?_getD, List.getElem?_modify]
  by_cases hl : e < s.disp.groups.length
  · by_cases hge : g = e <;> simp [hl, hge]
  · simp [hl]

/-! ### Operations on one slot's context -/

/-- From `s` to `t` nothing changes but the contexts, the urgent queue and the reports (with their number and overflow flag). -/
structure OnContexts (s t : State) : Prop where
  store : t.store = s.store
  disp : t.disp = s.disp
  chain : t.chain = s.chain
  planner : t.planner = s.planner
  pose : t.pose = s.pose
  table : t.table = s.table
  stroke : t.stroke = s.stroke
  jam : t.jam = s.jam
  inputs : t.inputs = s.inputs
  pending : t.pending = s.pending
  boards : t.boards = { s.boards with slots := t.boards.slots }
  line : t.line = { s.line with urgent := t.line.urgent }
  console : t.console = { s.console with
    reports := t.console.reports, overflow := t.console.overflow, nextReport := t.console.nextReport }

/-- From `s` to `t` nothing changes but the context of one slot, the urgent queue and the reports. -/
structure OnSlot (slot : Nat) (s t : State) : Prop extends OnContexts s t where
  others : ∀ j, j ≠ slot → ctxAt t j = ctxAt s j

namespace OnContexts

variable {s t u : State}

theorem refl (s : State) : OnContexts s s := ⟨rfl, rfl, rfl, rfl, rfl, rfl, rfl, rfl, rfl, rfl, rfl, rfl, rfl⟩

theorem trans (h : OnContexts s t) (g : OnContexts t u) : OnContexts s u where
  store := g.store.trans h.store
  disp := g.disp.trans h.disp
  chain := g.chain.trans h.chain
  planner := g.planner.trans h.planner
  pose := g.pose.trans h.pose
  table := g.table.trans h.table
  stroke := g.stroke.trans h.stroke
  jam := g.jam.trans h.jam
  inputs := g.inputs.trans h.inputs
  pending := g.pending.trans h.pending
  boards := by rw [g.boards, h.boards]
  line := by rw [g.line, h.line]
  console := by rw [g.console, h.console]

theorem setup (h : OnContexts s t) : t.console.setup = s.console.setup := by rw [h.console]

theorem response (h : OnContexts s t) : t.console.response = s.console.response := by rw [h.console]

/-- The part of the state that the end of a command leaves alone, but for the contexts and the urgent queue. -/
theorem work (h : OnContexts s t) : t.work = { s.work with contexts := t.work.contexts, urgent := t.work.urgent } := by
  have hl := h.line
  have hb := h.boards
  simp only [State.work, h.store, h.disp, h.chain, h.planner, h.pose, h.table, h.stroke, h.jam, h.inputs, h.pending, h.setup,
    h.response]
  rw [hb, hl]

theorem setSlots (h : OnContexts s t) (l : List (Option Context)) :
    OnContexts s (t.setBoards { t.boards with slots := l }) :=
  h.trans ⟨rfl, rfl, rfl, rfl, rfl, rfl, rfl, rfl, rfl, rfl, rfl, rfl, rfl⟩

end OnContexts

namespace OnSlot

variable {s t u : State} {slot : Nat}

theorem refl (slot : Nat) (s : State) : OnSlot slot s s := ⟨.refl s, fun _ _ => rfl⟩

theorem trans (h : OnSlot slot s t) (g : OnSlot slot t u) : OnSlot slot s u :=
  ⟨h.toOnContexts.trans g.toOnContexts, fun j hj => (g.others j hj).trans (h.others j hj)⟩

theorem setSlot (s : State) (slot : Nat) (o : Option Context) : OnSlot slot s (setSlot s slot o) :=
  ⟨(OnContexts.refl s).setSlots _, fun j hj => by
    rw [ctxAt_setSlot, if_neg fun h => hj h.1.symm]⟩

theorem modCtx (s : State) (slot : Nat) (f : Context → Context) : OnSlot slot s (modCtx s slot f) :=
  ⟨(OnContexts.refl s).setSlots _, fun j hj => by rw [ctxAt_modCtx, if_neg (Ne.symm hj)]⟩

theorem report (h : OnSlot slot s t) (k : ReportKind) : OnSlot slot s (report t k) :=
  h.trans ⟨⟨rfl, rfl, rfl, rfl, rfl, rfl, rfl, rfl, rfl, rfl, rfl, rfl, rfl⟩, fun _ _ => rfl⟩

theorem joinUrgent (h : OnSlot slot s t) (f : Frame) : OnSlot slot s (joinUrgent t f) :=
  h.trans ⟨⟨rfl, rfl, rfl, rfl, rfl, rfl, rfl, rfl, rfl, rfl, rfl, rfl, rfl⟩, fun _ _ => rfl⟩

/-- An item owed: its context, its OWE and the report of a lost item (R57). -/
theorem oweOwn (s : State) (slot i : Nat) : OnSlot slot s (oweOwn s slot i) := by
  unfold Machine.oweOwn
  split
  · exact .refl slot s
  · split
    · exact .refl slot s
    · dsimp only
      split_ifs
      · exact (OnSlot.setSlot s slot _).joinUrgent _
      · exact ((OnSlot.setSlot s slot _).report _).joinUrgent _
      · exact .refl slot s

theorem dropAdopted (s : State) (slot : Nat) (k : ItemKey) : OnSlot slot s (dropAdopted s slot k) := by
  unfold Machine.dropAdopted
  split
  · exact .refl slot s
  · split
    · exact .refl slot s
    · split_ifs
      · exact (OnSlot.setSlot s slot _).joinUrgent _
      · exact .refl slot s

theorem oweItem (s : State) (slot : Nat) (k : ItemKey) (o : Origin) : OnSlot slot s (oweItem s slot k o) := by
  unfold Machine.oweItem
  split
  · exact .dropAdopted s slot k
  · split
    · exact .oweOwn s slot _
    · exact .refl slot s

theorem oweRetries (slot : Nat) (l : List ItemKey) (s : State) : OnSlot slot s (oweRetries slot l s) := by
  induction l generalizing s with
  | nil => exact .refl slot s
  | cons k rest ih => exact (OnSlot.oweItem s slot k _).trans (ih _)

theorem oweOwns (slot : Nat) (l : List Nat) (s : State) : OnSlot slot s (oweOwns slot l s) := by
  induction l generalizing s with
  | nil => exact .refl slot s
  | cons i rest ih => exact (OnSlot.oweOwn s slot i).trans (ih _)

theorem oweAdopteds (slot : Nat) (l : List ItemKey) (s : State) : OnSlot slot s (oweAdopteds slot l s) := by
  induction l generalizing s with
  | nil => exact .refl slot s
  | cons k rest ih => exact (OnSlot.dropAdopted s slot k).trans (ih _)

theorem oweWaiting (s : State) (slot : Nat) : OnSlot slot s (oweWaiting s slot) := by
  unfold Machine.oweWaiting
  split
  · exact .refl slot s
  · exact (((OnSlot.modCtx s slot _).trans (.oweRetries slot _ _)).trans (.oweOwns slot _ _)).trans
      ((OnSlot.modCtx _ slot _).trans (.oweAdopteds slot _ _))

theorem planClose (s : State) (slot : Nat) : OnSlot slot s (planClose s slot) := by
  unfold Machine.planClose
  split
  · exact .refl slot s
  · split_ifs
    · exact .refl slot s
    · exact (OnSlot.modCtx s slot _).trans (.oweWaiting _ slot)

theorem makePending (s : State) (slot : Nat) (k : ItemKey) (o : Origin) (n : Nat) :
    OnSlot slot s (makePending s slot k o n) := by
  unfold Machine.makePending
  split
  · exact .refl slot s
  · split
    · split
      · exact .setSlot s slot _
      · exact .refl slot s
    · exact .setSlot s slot _

theorem queueRetry (s : State) (slot : Nat) (k : ItemKey) (o : Origin) (place : Nat) :
    OnSlot slot s (queueRetry s slot k o place) := by
  unfold Machine.queueRetry
  split
  · exact .refl slot s
  · split_ifs
    · exact .oweItem s slot k o
    · exact .setSlot s slot _

theorem handReturned (s : State) (slot : Nat) (k : ItemKey) (o : Origin) : OnSlot slot s (handReturned s slot k o) := by
  unfold Machine.handReturned
  split
  · exact .refl slot s
  · exact (OnSlot.makePending s slot k o _).trans (.queueRetry _ slot k o _)

theorem handCounted (s : State) (slot : Nat) (k : ItemKey) (o : Origin) : OnSlot slot s (handCounted s slot k o) := by
  unfold Machine.handCounted
  split
  · exact .refl slot s
  · split_ifs
    · exact (OnSlot.makePending s slot k o _).trans (.oweItem _ slot k o)
    · exact (OnSlot.makePending s slot k o _).trans (.queueRetry _ slot k o _)

theorem bindCtx (s : State) (slot : Nat) (b : BankId) : OnSlot slot s (bindCtx s slot b) := by
  unfold Machine.bindCtx
  split
  · exact .refl slot s
  · dsimp only
    split_ifs
    · exact (OnSlot.setSlot s slot _).trans (.oweWaiting _ slot)
    · exact .setSlot s slot _

end OnSlot

namespace OnContexts

/-- Items handed back as reverted, each in its own board's context (R52). -/
theorem handReverted (l : List ClipItem) (front : List Nat) (s : State) : OnContexts s (handReverted s l front) := by
  induction l generalizing s front with
  | nil => exact .refl s
  | cons i rest ih =>
    unfold Machine.handReverted
    split
    · exact ih _ _
    · exact ((OnSlot.makePending s i.board i.key i.origin _).trans
        (.queueRetry _ i.board i.key i.origin _)).toOnContexts.trans (ih _ _)

/-- A fold whose every step is on the contexts alone. -/
theorem foldl {α : Type} {f : State → α → State} (h : ∀ s a, OnContexts s (f s a)) (l : List α) (s : State) :
    OnContexts s (l.foldl f s) := by
  induction l generalizing s with
  | nil => exact .refl s
  | cons a rest ih => exact (h s a).trans (ih _)

theorem bindAtClose (s : State) (b : BankId) (programId : Nat) : OnContexts s (bindAtClose s b programId) :=
  .foldl (fun s i => (OnSlot.bindCtx s i b).toOnContexts) _ s

end OnContexts

end Sys2Proof.Machine
end

section
/-! PROOF. BANK_CLOSE and the contexts that it binds (R12, R16, R48). -/

namespace Sys2Proof.Machine

/-! ### Owing what a bound context has waiting (R48) -/

/-- An own item after everything waiting is owed: a PENDING one is OWED, any other stays (R48). -/
def OwnItem.owedIfPending (o : OwnItem) : OwnItem := if o.state = .pending then { o with state := .owed } else o

/-- Two contexts agree in their binding: bank, NO_PROGRAM, PLAN_CLOSED, retry list and cursor. -/
structure Context.SameBinding (c c' : Context) : Prop where
  bank : c'.bank = c.bank
  noProgram : c'.noProgram = c.noProgram
  planClosed : c'.planClosed = c.planClosed
  retry : c'.retry = c.retry
  cursor : c'.cursor = c.cursor

theorem Context.SameBinding.refl (c : Context) : c.SameBinding c := ⟨rfl, rfl, rfl, rfl, rfl⟩

theorem Context.SameBinding.trans {a b c : Context} (h : a.SameBinding b) (g : b.SameBinding c) : a.SameBinding c :=
  ⟨g.bank.trans h.bank, g.noProgram.trans h.noProgram, g.planClosed.trans h.planClosed, g.retry.trans h.retry,
    g.cursor.trans h.cursor⟩

theorem Context.SameBinding.joinOwnRun {c c' : Context} (h : c.SameBinding c') (d : ItemData) :
    c.SameBinding (c'.joinOwnRun d) := by
  unfold Context.joinOwnRun
  split <;> exact ⟨h.bank, h.noProgram, h.planClosed, h.retry, h.cursor⟩

theorem Context.joinOwnRun_own (c : Context) (d : ItemData) : (c.joinOwnRun d).own = c.own := by
  unfold Context.joinOwnRun
  split <;> rfl

section
variable {s : State} {slot : Nat} {c : Context}

theorem ctxAt_setSlot_self (hc : ctxAt s slot = some c) (o : Option Context) : ctxAt (setSlot s slot o) slot = o := by
  rw [ctxAt_setSlot, if_pos ⟨rfl, ctxAt_lt hc⟩]

theorem ctxAt_modCtx_self (hc : ctxAt s slot = some c) (f : Context → Context) :
    ctxAt (modCtx s slot f) slot = some (f c) := by
  rw [ctxAt_modCtx, if_pos rfl, hc]
  rfl

/-- A list item that does not pass the test is not changed by a change under the test. -/
theorem modify_owedIfPending_of_not {l : List OwnItem} {i : Nat}
    (h : (l[i]?).map (·.state) ≠ some .pending) : l.modify i OwnItem.owedIfPending = l := by
  refine List.ext_getElem? fun j => ?_
  rw [List.getElem?_modify]
  by_cases hij : i = j
  · subst hij
    cases hj : l[i]? with
    | none => rfl
    | some o =>
      rw [hj] at h
      have hnot : o.state ≠ .pending := fun e => h (congrArg some e)
      simp [OwnItem.owedIfPending, hnot]
  · simp [hij]

/-- Owing the own item at an index, whose step the bank holds, changes it alone among the own items. -/
theorem oweOwn_ctx (i : Nat) (hc : ctxAt s slot = some c) (hl : c.own.length ≤ (boundSteps s c).length) :
    ∃ c', ctxAt (oweOwn s slot i) slot = some c' ∧ c'.own = c.own.modify i OwnItem.owedIfPending ∧ c.SameBinding c' := by
  have hsame (hn : c.ownState i ≠ some .pending) : c.own = c.own.modify i OwnItem.owedIfPending :=
    (modify_owedIfPending_of_not hn).symm
  unfold oweOwn
  rw [hc]
  dsimp only
  split
  case h_1 hnone =>
    refine ⟨c, hc, hsame fun hp => ?_, .refl c⟩
    rw [ownItem, Option.map_eq_none_iff, List.getElem?_eq_none_iff] at hnone
    rw [Context.ownState, List.getElem?_eq_none (by omega)] at hp
    cases hp
  case h_2 d hd =>
    split
    case isFalse hn => exact ⟨c, hc, hsame hn, .refl c⟩
    case isTrue hp =>
      have hown : c.own.modify i (fun o => { o with state := .owed }) = c.own.modify i OwnItem.owedIfPending := by
        refine List.ext_getElem? fun j => ?_
        rw [List.getElem?_modify, List.getElem?_modify]
        by_cases hij : i = j
        · subst hij
          cases hi : c.own[i]? with
          | none => rfl
          | some o =>
            rw [Context.ownState, hi] at hp
            have hpending : o.state = .pending := Option.some.inj hp
            simp [OwnItem.owedIfPending, hpending]
        · simp [hij]
      have hcounted : c.SameBinding (c.modOwn i fun o => { o with state := .owed }).countOwed := ⟨rfl, rfl, rfl, rfl, rfl⟩
      refine ⟨(((c.modOwn i fun o => { o with state := .owed }).countOwed).joinOwnRun d), ?_, ?_, ?_⟩
      · split_ifs <;> exact ctxAt_setSlot_self hc _
      · rw [Context.joinOwnRun_own]
        exact hown
      · exact hcounted.joinOwnRun d

end

/-! ### Every own item from the cursor on -/

theorem getElem?_foldl_modify {α : Type} (f : α → α) (l : List Nat) (hl : l.Nodup) (a : List α) (j : Nat) :
    (l.foldl (fun a i => a.modify i f) a)[j]? = if j ∈ l then (a[j]?).map f else a[j]? := by
  induction l generalizing a with
  | nil => simp
  | cons i rest ih =>
    rw [List.nodup_cons] at hl
    rw [List.foldl_cons, ih hl.2, List.getElem?_modify]
    by_cases hij : i = j
    · subst hij
      simp [hl.1]
    · simp [hij, Ne.symm hij]

/-- A change at every index of a list is the change of every item. -/
theorem foldl_modify_range {α : Type} (f : α → α) (a : List α) :
    (List.range a.length).foldl (fun a i => a.modify i f) a = a.map f := by
  refine List.ext_getElem? fun j => ?_
  rw [getElem?_foldl_modify f _ List.nodup_range, List.getElem?_map]
  split
  case isTrue => rfl
  case isFalse hj =>
    rw [List.mem_range, not_lt] at hj
    rw [List.getElem?_eq_none hj]
    rfl

theorem boundSteps_congr {s t : State} {c c' : Context} (hs : t.store = s.store) (hb : c'.bank = c.bank) :
    boundSteps t c' = boundSteps s c := by
  simp only [boundSteps, hb, hs]

/-- The own items at the given indexes owed one after another. -/
theorem oweOwns_ctx {slot : Nat} (l : List Nat) {s : State} {c : Context} (hc : ctxAt s slot = some c)
    (hl : c.own.length ≤ (boundSteps s c).length) :
    ∃ c', ctxAt (oweOwns slot l s) slot = some c' ∧
      c'.own = l.foldl (fun a i => a.modify i OwnItem.owedIfPending) c.own ∧ c.SameBinding c' := by
  induction l generalizing s c with
  | nil => exact ⟨c, hc, rfl, .refl c⟩
  | cons i rest ih =>
    obtain ⟨c1, hc1, hown, hbind⟩ := oweOwn_ctx i hc hl
    have hl1 : c1.own.length ≤ (boundSteps (oweOwn s slot i) c1).length := by
      rw [boundSteps_congr (OnSlot.oweOwn s slot i).store hbind.bank, hown, List.length_modify]
      exact hl
    obtain ⟨c2, hc2, hown2, hbind2⟩ := ih hc1 hl1
    exact ⟨c2, hc2, by rw [hown2, hown]; rfl, hbind.trans hbind2⟩

/-- Dropping adopted items leaves the own items and the binding. -/
theorem dropAdopted_ctx {s : State} {slot : Nat} {c : Context} (k : ItemKey) (hc : ctxAt s slot = some c) :
    ∃ c', ctxAt (dropAdopted s slot k) slot = some c' ∧ c'.own = c.own ∧ c.SameBinding c' := by
  unfold dropAdopted
  rw [hc]
  dsimp only
  split
  · exact ⟨c, hc, rfl, .refl c⟩
  · split
    · exact ⟨_, ctxAt_setSlot_self hc _, rfl, ⟨rfl, rfl, rfl, rfl, rfl⟩⟩
    · exact ⟨c, hc, rfl, .refl c⟩

theorem oweAdopteds_ctx {slot : Nat} (l : List ItemKey) {s : State} {c : Context} (hc : ctxAt s slot = some c) :
    ∃ c', ctxAt (oweAdopteds slot l s) slot = some c' ∧ c'.own = c.own ∧ c.SameBinding c' := by
  induction l generalizing s c with
  | nil => exact ⟨c, hc, rfl, .refl c⟩
  | cons k rest ih =>
    obtain ⟨c1, hc1, hown, hbind⟩ := dropAdopted_ctx k hc
    obtain ⟨c2, hc2, hown2, hbind2⟩ := ih hc1
    exact ⟨c2, hc2, hown2.trans hown, hbind.trans hbind2⟩

/-- A context just bound, with its cursor at the first step and no retry, owes every PENDING own item (R48). -/
theorem oweWaiting_ctx {s : State} {slot : Nat} {c : Context} (hc : ctxAt s slot = some c) (hr : c.retry = [])
    (h0 : c.cursor = 0) (hl : c.own.length = (boundSteps s c).length) :
    ∃ c', ctxAt (oweWaiting s slot) slot = some c' ∧ c'.own = c.own.map OwnItem.owedIfPending ∧
      c'.cursor = c.own.length ∧ c'.bank = c.bank ∧ c'.noProgram = c.noProgram ∧ c'.planClosed = c.planClosed ∧
      c'.retry = [] := by
  have hrange : (List.range c.own.length).filter (fun i => decide (c.cursor ≤ i)) = List.range c.own.length :=
    List.filter_eq_self.mpr fun i _ => by simp [h0]
  unfold oweWaiting
  rw [hc]
  dsimp only
  rw [hr, hrange, oweRetries]
  obtain ⟨c2, hc2, hown2, hbind2⟩ :=
    oweOwns_ctx (List.range c.own.length) (s := modCtx s slot fun c => { c with retry := [] })
      (ctxAt_modCtx_self hc _) (le_of_eq hl)
  obtain ⟨c4, hc4, hown4, hbind4⟩ := oweAdopteds_ctx (c.adopted.map (·.item.key))
    (ctxAt_modCtx_self hc2 fun c' => { c' with cursor := c'.own.length })
  have hmap : c2.own = c.own.map OwnItem.owedIfPending := hown2.trans (foldl_modify_range OwnItem.owedIfPending c.own)
  have hlength : c2.own.length = c.own.length := by rw [hmap, List.length_map]
  exact ⟨c4, hc4, hown4.trans hmap, hbind4.cursor.trans hlength, hbind4.bank.trans hbind2.bank, hbind4.noProgram.trans hbind2.noProgram,
    hbind4.planClosed.trans hbind2.planClosed, hbind4.retry.trans hbind2.retry⟩

/-! ### Binding (R16) -/

/-- A context as the binding to a bank makes it (R15, R16). -/
def Context.boundTo (c : Context) (b : BankId) (steps : List StepRecord) : Context :=
  { c with bank := some b, noProgram := false, own := freshItems c.skipMask steps, cursor := 0, retry := [] }

section
variable {s : State} {slot : Nat} {b : BankId} {c : Context}

theorem bindCtx_eq (hc : ctxAt s slot = some c) :
    bindCtx s slot b =
      if c.planClosed then oweWaiting (setSlot s slot (some (c.boundTo b (s.store.bank b).steps))) slot
      else setSlot s slot (some (c.boundTo b (s.store.bank b).steps)) := by
  unfold bindCtx
  rw [hc]
  rfl

theorem bindCtx_of_open (hc : ctxAt s slot = some c) (hp : c.planClosed = false) :
    bindCtx s slot b = setSlot s slot (some (c.boundTo b (s.store.bank b).steps)) := by
  rw [bindCtx_eq hc, if_neg (by rw [hp]; exact Bool.false_ne_true)]

theorem bindCtx_of_closed (hc : ctxAt s slot = some c) (hp : c.planClosed = true) :
    ∃ c', ctxAt (bindCtx s slot b) slot = some c' ∧ c'.bank = some b ∧ c'.noProgram = false ∧ c'.planClosed = true ∧
      c'.retry = [] ∧ c'.cursor = (s.store.bank b).steps.length ∧
      c'.own = (freshItems c.skipMask (s.store.bank b).steps).map OwnItem.owedIfPending := by
  have hlen : (freshItems c.skipMask (s.store.bank b).steps).length = (s.store.bank b).steps.length := List.length_map _
  have hself := ctxAt_setSlot_self hc (some (c.boundTo b (s.store.bank b).steps))
  obtain ⟨c', hc', hown, hcursor, hbank, hnp, hclosed, hretry⟩ := oweWaiting_ctx hself rfl rfl hlen
  rw [bindCtx_eq hc, if_pos hp]
  exact ⟨c', hc', hbank, hnp, hclosed.trans hp, hretry, hcursor.trans hlen, hown⟩

end

/-- The slots that pass are the slots whose context does, each once. -/
theorem mem_slotsWhere {s : State} {p : Context → Bool} {i : Nat} :
    i ∈ slotsWhere s p ↔ i < Config.slots ∧ ∃ c, ctxAt s i = some c ∧ p c = true := by
  rw [slotsWhere, List.mem_filter, List.mem_range]
  cases ctxAt s i <;> simp

theorem slotsWhere_nodup (s : State) (p : Context → Bool) : (slotsWhere s p).Nodup := List.nodup_range.filter _

section
variable {b : BankId}

/-- A slot that is not bound keeps its context. -/
theorem ctxAt_foldl_bindCtx_of_not_mem {l : List Nat} {i : Nat} (hi : i ∉ l) (s : State) :
    ctxAt (l.foldl (fun s i => bindCtx s i b) s) i = ctxAt s i := by
  induction l generalizing s with
  | nil => rfl
  | cons j rest ih =>
    rw [List.mem_cons, not_or] at hi
    exact (ih hi.2 _).trans ((OnSlot.bindCtx s j b).others i hi.1)

/-- A slot among those bound is bound once, from the context that stood in it. -/
theorem ctxAt_foldl_bindCtx {l : List Nat} (hl : l.Nodup) {i : Nat} (hi : i ∈ l) (s : State) :
    ∃ u, OnContexts s u ∧ ctxAt u i = ctxAt s i ∧
      ctxAt (l.foldl (fun s i => bindCtx s i b) s) i = ctxAt (bindCtx u i b) i := by
  induction l generalizing s with
  | nil => cases hi
  | cons j rest ih =>
    rw [List.nodup_cons] at hl
    by_cases hij : i = j
    · subst hij
      exact ⟨s, .refl s, rfl, ctxAt_foldl_bindCtx_of_not_mem hl.1 _⟩
    · have hmem : i ∈ rest := (List.mem_cons.mp hi).resolve_left hij
      obtain ⟨u, hu, hctx, hfold⟩ := ih hl.2 hmem (bindCtx s j b)
      have hj := OnSlot.bindCtx s j b
      exact ⟨u, hj.toOnContexts.trans hu, hctx.trans (hj.others i hij), hfold⟩

/-- With no PLAN_CLOSED context to bind nothing is owed and nothing is reported. -/
theorem foldl_bindCtx_of_open {l : List Nat} (s : State)
    (h : ∀ i ∈ l, ∀ c, ctxAt s i = some c → c.planClosed = false) :
    (l.foldl (fun s i => bindCtx s i b) s).line.urgent = s.line.urgent ∧
    (l.foldl (fun s i => bindCtx s i b) s).console.reports = s.console.reports := by
  induction l generalizing s with
  | nil => exact ⟨rfl, rfl⟩
  | cons j rest ih =>
    have hstep : (bindCtx s j b).line.urgent = s.line.urgent ∧ (bindCtx s j b).console.reports = s.console.reports ∧
        ∀ i ∈ rest, ∀ c, ctxAt (bindCtx s j b) i = some c → c.planClosed = false := by
      cases hc : ctxAt s j with
      | none =>
        have hsame : bindCtx s j b = s := by simp only [bindCtx, hc]
        rw [hsame]
        exact ⟨rfl, rfl, fun i hi => h i (List.mem_cons_of_mem _ hi)⟩
      | some c =>
        have hopen := h j List.mem_cons_self c hc
        rw [bindCtx_of_open hc hopen]
        refine ⟨rfl, rfl, fun i hi x hx => ?_⟩
        by_cases hij : i = j
        · subst hij
          rw [ctxAt_setSlot_self hc] at hx
          cases hx
          exact hopen
        · rw [(OnSlot.setSlot s j _).others i hij] at hx
          exact h i (List.mem_cons_of_mem _ hi) x hx
    obtain ⟨hu, hr, hrest⟩ := hstep
    obtain ⟨hu', hr'⟩ := ih _ hrest
    exact ⟨hu'.trans hu, hr'.trans hr⟩

end

/-! ### BANK_CLOSE (R12) -/

/-- The state in which a bank has become READY and the contexts that wait for its program are bound (R12, R16). -/
def closedBank (s : State) (b : BankId) : State :=
  let s1 := putBank s b { s.store.bank b with state := .ready }
  match (s.store.bank b).programId with
  | some p => bindAtClose s1 b p
  | none => s1

section
variable {s : State} {b : BankId}

theorem closeBank_of_not_loading (h : (s.store.bank b).state ≠ .loading) : closeBank s b = .refuse .refusedState :=
  if_pos h

theorem closeBank_of_short (h : (s.store.bank b).state = .loading)
    (hl : (s.store.bank b).steps.length < (s.store.bank b).declared) : closeBank s b = aborted s b .shortClose :=
  (if_neg (by simp [h])).trans (if_pos hl)

theorem closeBank_of_complete (h : (s.store.bank b).state = .loading)
    (hl : (s.store.bank b).steps.length = (s.store.bank b).declared) : closeBank s b = .done (closedBank s b) :=
  (if_neg (by simp [h])).trans (if_neg (by omega))

/-- What BANK_CLOSE leaves: only contexts, the urgent queue and the reports beside the bank. -/
theorem closedBank_onContexts (s : State) (b : BankId) :
    OnContexts (putBank s b { s.store.bank b with state := .ready }) (closedBank s b) := by
  unfold closedBank
  dsimp only
  split
  · exact .bindAtClose _ b _
  · exact .refl _

/-- The contexts that BANK_CLOSE binds: EXPECTED, NO_PROGRAM, of the bank's program (R16). -/
def boundAtClose (s : State) (b : BankId) (c : Context) : Bool :=
  match (s.store.bank b).programId with
  | some p => c.state == .expected && c.noProgram && c.programId == some p
  | none => false

theorem boundAtClose_iff {c : Context} : boundAtClose s b c = true ↔
    c.state = .expected ∧ c.noProgram = true ∧ (s.store.bank b).programId.isSome = true ∧
      c.programId = (s.store.bank b).programId := by
  unfold boundAtClose
  cases (s.store.bank b).programId with
  | none => simp
  | some p => simp [and_assoc]

/-- BANK_CLOSE is one fold of the binding over the slots whose context it binds. -/
theorem closedBank_eq_foldl (s : State) (b : BankId) :
    closedBank s b = (slotsWhere s (boundAtClose s b)).foldl (fun s i => bindCtx s i b)
      (putBank s b { s.store.bank b with state := .ready }) := by
  unfold closedBank boundAtClose
  dsimp only
  cases (s.store.bank b).programId with
  | some p => rfl
  | none =>
    have hnone : slotsWhere s (fun _ => false) = [] := by
      refine List.filter_eq_nil_iff.mpr fun i _ => ?_
      cases ctxAt s i <;> simp
    rw [hnone]
    rfl

theorem closedBank_ctxAt_of_kept {i : Nat} (h : ∀ c, ctxAt s i = some c → boundAtClose s b c = false) :
    ctxAt (closedBank s b) i = ctxAt s i := by
  rw [closedBank_eq_foldl]
  refine ctxAt_foldl_bindCtx_of_not_mem (fun hm => ?_) _
  obtain ⟨-, c, hc, hp⟩ := mem_slotsWhere.mp hm
  rw [h c hc] at hp
  cases hp

/-- A context that BANK_CLOSE binds, seen at its own binding: the bank is READY with its steps then. -/
theorem closedBank_ctxAt_of_bound {i : Nat} {c : Context} (hi : i < 5) (hc : ctxAt s i = some c)
    (hb : boundAtClose s b c = true) :
    ∃ u, ctxAt u i = some c ∧ (u.store.bank b).steps = (s.store.bank b).steps ∧
      ctxAt (closedBank s b) i = ctxAt (bindCtx u i b) i := by
  rw [closedBank_eq_foldl]
  obtain ⟨u, hu, hctx, hfold⟩ := ctxAt_foldl_bindCtx (b := b) (slotsWhere_nodup s (boundAtClose s b))
    (mem_slotsWhere.mpr ⟨hi, c, hc, hb⟩) (putBank s b { s.store.bank b with state := .ready })
  refine ⟨u, hctx.trans hc, ?_, hfold⟩
  rw [hu.store]
  exact (congrArg Bank.steps (Store.bank_setBank_self s.store b { s.store.bank b with state := .ready })).trans rfl

end

/-- Settles O21: BANK_CLOSE by the bank's state and its committed count; what a complete one binds and owes. -/
theorem bankCloseMakesTheBankReady : Obligations.BankCloseMakesTheBankReady := by
  unfold Obligations.BankCloseMakesTheBankReady
  intro s x extra b hb hn
  rw [exec_bankClose_framed s extra hb, unlessOpen_of_none _ hn]
  refine ⟨fun h => ?refused, fun h hl => ?short, fun h hl => ?complete⟩
  case refused => rw [closeBank_of_not_loading h]; rfl
  case short => rw [closeBank_of_short h hl]; rfl
  case complete =>
    rw [closeBank_of_complete h hl]
    have hon := closedBank_onContexts s b
    refine ⟨respond (closedBank s b) .done 0x14 .empty, rfl, hon.store, ?_, hon.jam, hon.disp, hon.chain, hon.table, hon.stroke,
      hon.planner, hon.pose, hon.inputs, hon.boards, hon.line, fun hopen => ?_, fun i c hi hc he hnp hp hid hcl => ?_,
      fun i c hi hc he hnp hp hid hcl => ?_, fun i c hc hkept => ?_⟩
    · simp only [respond, State.setConsole_console, hon.response]
      rfl
    · have hfold := foldl_bindCtx_of_open (b := b) (l := slotsWhere s (boundAtClose s b))
        (putBank s b { s.store.bank b with state := .ready }) fun i hi c hc => by
          obtain ⟨-, c', hc', hbound⟩ := mem_slotsWhere.mp hi
          rw [show ctxAt s i = some c from hc] at hc'
          cases hc'
          exact hopen i c hc (boundAtClose_iff.mp hbound).2.1
      rw [← closedBank_eq_foldl] at hfold
      exact hfold
    · obtain ⟨u, hu, hsteps, hat⟩ := closedBank_ctxAt_of_bound hi hc (boundAtClose_iff.mpr ⟨he, hnp, hp, hid⟩)
      rw [bindCtx_of_open hu hcl, ctxAt_setSlot_self hu, hsteps] at hat
      exact hat
    · obtain ⟨u, hu, hsteps, hat⟩ := closedBank_ctxAt_of_bound hi hc (boundAtClose_iff.mpr ⟨he, hnp, hp, hid⟩)
      obtain ⟨c', hc', hbank, hnp', hclosed, hretry, hcursor, hown⟩ := bindCtx_of_closed (b := b) hu hcl
      rw [hsteps] at hcursor hown
      exact ⟨c', hat.trans hc', hbank, hnp', hclosed, hretry, hcursor, hown⟩
    · refine (closedBank_ctxAt_of_kept fun c' hc' => ?_).trans hc
      cases Option.some.inj (hc'.symm.trans hc)
      rw [← Bool.not_eq_true, boundAtClose_iff]
      rintro ⟨he, hnp, hp, hid⟩
      rcases hkept with hk | hk | hk | hk
      · exact hk he
      · rw [hk] at hnp; cases hnp
      · exact hk hid
      · rw [hk] at hp; cases hp

end Sys2Proof.Machine
end

section
/-! PROOF. The dispensers: REEL_LOAD, RELEASE_GROUP, SERVICE_BEGIN, LOCK, UNLOCK (R21, R22, R24, R31), TAPE_END (R26),
DROP_CONFIRM (R28, R29) and VERIFY_WORD (R18, R37, R39). -/

namespace Sys2Proof.Machine

/-! ### REEL_LOAD and RELEASE_GROUP -/

section
variable {s : State} {body : List Byte}

/-- A well-formed REEL_LOAD at a configured station (R21, R185). -/
theorem exec_reelLoad_framed (extra : List Byte) (hs : s.jam.run ≠ .unconfigured) (hl : body.length = 4) :
    exec (.reelLoad (framed body extra)) s = .next
      ((if at8 body 1 = 0 then .refuse .refusedRange else onDispenser s body (loadReel s body) : Verdict).conclude s 0x20) :=
  congrArg Host.Outcome.next (request_framed s 0x20 false extra
    (fun body => if at8 body 1 = 0 then .refuse .refusedRange else onDispenser s body (loadReel s body))
    hl (by decide) (.inr hs))

theorem loadReel_of_running {d : Nat} {r : Dispenser} (hr : r.state = .ready) (hrun : s.jam.run = .running) :
    loadReel s body d r = .refuse .refusedState := if_pos ⟨hr, hrun⟩

theorem loadReel_of_taken {d : Nat} (h : (dispAt s d).state ≠ .ready ∨ s.jam.run ≠ .running) :
    loadReel s body d (dispAt s d) =
      .answer .done (.dispenserState (if (dispAt s d).state = .service then .service else (dispAt s d).byLevel))
        (modDisp s d fun r => { r with
          part := some (at8 body 1), quantity := at16 body 2, faults := 0
          state := if (dispAt s d).state = .service then .service else (dispAt s d).byLevel }) := by
  rw [loadReel, if_neg (by rintro ⟨hr, hrun⟩; exact h.elim (absurd hr) (absurd hrun))]
  exact changeDispenser_dispAt s d fun r => { r with
    part := some (at8 body 1), quantity := at16 body 2, faults := 0
    state := if (dispAt s d).state = .service then .service else (dispAt s d).byLevel }

/-- A well-formed RELEASE_GROUP at a configured station (R31, R185). -/
theorem exec_releaseGroup_framed (extra : List Byte) (g : Byte) (hs : s.jam.run ≠ .unconfigured) :
    exec (.releaseGroup (framed [g] extra)) s = .next ((releaseGroup s [g]).conclude s 0x25) :=
  congrArg Host.Outcome.next
    (request_framed s 0x25 false extra (releaseGroup s) List.length_singleton (by decide) (.inr hs))

theorem releaseGroup_of_le {g : Byte} (h : g.toNat ≤ 15) :
    releaseGroup s [g] = .done (modGroup s g.toNat fun _ => { faults := 0, quarantined := false }) :=
  if_neg (Nat.not_lt.mpr h)

theorem releaseGroup_of_above {g : Byte} (h : 15 < g.toNat) : releaseGroup s [g] = .refuse .refusedRange := if_pos h

end

/-- Settles O25: the ranges, then the state of the dispenser; a group by its number alone. -/
theorem reelLoadAndReleaseGroup : Obligations.ReelLoadAndReleaseGroup := by
  unfold Obligations.ReelLoadAndReleaseGroup
  intro s extra hs
  refine ⟨fun body hl hd hp ha => ⟨fun hr hrun => ?running, fun h => ⟨_, rfl, ?taken⟩⟩, fun body hl h => ?range,
    fun g hg => ?released, fun g hg => ?above⟩
  case running =>
    rw [exec_reelLoad_framed extra hs hl, if_neg (by omega), onDispenser_of_present hd ha, loadReel_of_running hr hrun]
    rfl
  case taken =>
    rw [exec_reelLoad_framed extra hs hl, if_neg (by omega), onDispenser_of_present hd ha, loadReel_of_taken h]
    rfl
  case range =>
    rw [exec_reelLoad_framed extra hs hl]
    split
    case isTrue => rfl
    case isFalse hp => rw [onDispenser_of_above (h.resolve_right hp)]; rfl
  case released => rw [exec_releaseGroup_framed extra g hs, releaseGroup_of_le hg]; rfl
  case above => rw [exec_releaseGroup_framed extra g hs, releaseGroup_of_above hg]; rfl

/-! ### SERVICE_BEGIN, LOCK and UNLOCK -/

section
variable {s : State} {d : Nat}

theorem beginService_of_taken (h : (dispAt s d).state ∈ [.unloaded, .ready, .out, .jammed]) :
    beginService s d (dispAt s d) =
      .answer .done (.dispenserState .service) (modDisp s d fun r => { r with state := .service }) := by
  have hchange := changeDispenser_dispAt s d fun r => { r with state := .service }
  simp only [List.mem_cons, List.not_mem_nil, or_false] at h
  rcases h with h | h | h | h <;> simpa only [beginService, h] using hchange

theorem beginService_of_not_taken {r : Dispenser} (h : r.state = .absent ∨ r.state = .service ∨ r.state = .locked) :
    beginService s d r = .refuse .refusedState := by
  rcases h with h | h | h <;> simp only [beginService, h]

theorem lockDispenser_of_taken (h : (dispAt s d).state ∈ [.unloaded, .ready, .out]) :
    lockDispenser s d (dispAt s d) =
      .answer .done (.dispenserState .locked) (modDisp s d fun r => { r with state := .locked }) := by
  have hchange := changeDispenser_dispAt s d fun r => { r with state := .locked }
  simp only [List.mem_cons, List.not_mem_nil, or_false] at h
  rcases h with h | h | h <;> simpa only [lockDispenser, h] using hchange

theorem lockDispenser_of_not_taken {r : Dispenser}
    (h : r.state = .absent ∨ r.state = .service ∨ r.state = .locked ∨ r.state = .jammed) :
    lockDispenser s d r = .refuse .refusedState := by
  rcases h with h | h | h | h <;> simp only [lockDispenser, h]

theorem unlockDispenser_of_locked (h : (dispAt s d).state = .locked) :
    unlockDispenser s d (dispAt s d) =
      .answer .done (.dispenserState (dispAt s d).byReel) (modDisp s d fun r => { r with state := (dispAt s d).byReel }) :=
  (if_pos h).trans (changeDispenser_dispAt s d fun r => { r with state := (dispAt s d).byReel })

theorem unlockDispenser_of_not_locked {r : Dispenser} (h : r.state ≠ .locked) :
    unlockDispenser s d r = .refuse .refusedState := if_neg h

end

section
variable {s : State} {d : Byte} (extra : List Byte) (hs : s.jam.run ≠ .unconfigured) (hd : d.toNat ≤ 63)
include hs hd

theorem exec_serviceBegin_framed :
    exec (.serviceBegin (framed [d] extra)) s = .next ((beginService s d.toNat (dispAt s d.toNat)).conclude s 0x21) :=
  congrArg Host.Outcome.next (request_onDispenser 0x21 extra hs hd fun ha => beginService_of_not_taken (.inl ha))

theorem exec_lock_framed :
    exec (.lock (framed [d] extra)) s = .next ((lockDispenser s d.toNat (dispAt s d.toNat)).conclude s 0x23) :=
  congrArg Host.Outcome.next (request_onDispenser 0x23 extra hs hd fun ha => lockDispenser_of_not_taken (.inl ha))

theorem exec_unlock_framed :
    exec (.unlock (framed [d] extra)) s = .next ((unlockDispenser s d.toNat (dispAt s d.toNat)).conclude s 0x24) :=
  congrArg Host.Outcome.next (request_onDispenser 0x24 extra hs hd fun ha => unlockDispenser_of_not_locked (by simp [ha]))

end

/-- Settles O26: each of the three requests by the dispenser's state. -/
theorem serviceAndLockChangeTheState : Obligations.ServiceAndLockChangeTheState := by
  unfold Obligations.ServiceAndLockChangeTheState
  intro s d extra hs hd
  rw [exec_serviceBegin_framed extra hs hd, exec_lock_framed extra hs hd, exec_unlock_framed extra hs hd]
  refine ⟨fun h => ?begun, fun h => ?notBegun, fun h => ?locked, fun h => ?notLocked,
    fun h => ⟨(dispAt s d.toNat).byReel, Dispenser.byReel_eq _, ?unlocked⟩, fun h => ?notUnlocked, fun h => ⟨?absent, ?absent'⟩⟩
  case begun => rw [beginService_of_taken h]; rfl
  case notBegun =>
    simp only [List.mem_cons, List.not_mem_nil, or_false] at h
    rw [beginService_of_not_taken (.inr h)]
    rfl
  case locked => rw [lockDispenser_of_taken h]; rfl
  case notLocked =>
    simp only [List.mem_cons, List.not_mem_nil, or_false] at h
    rw [lockDispenser_of_not_taken (.inr h)]
    rfl
  case unlocked => rw [unlockDispenser_of_locked h]; rfl
  case notUnlocked => rw [unlockDispenser_of_not_locked h]; rfl
  case absent => rw [beginService_of_not_taken (.inl h)]; rfl
  case absent' => rw [lockDispenser_of_not_taken (.inl h)]; rfl

/-! ### TAPE_END -/

theorem noteTapeEnd_of_out {s : State} {d : Nat} (h : (dispAt s d).state = .ready) :
    noteTapeEnd s d true = report (modDisp s d fun r => { r with tapeEnd := true, state := .out })
      (.reelOut d (dispAt s d).part (dispAt s d).totalDrops) := by
  simp [noteTapeEnd, h]

theorem noteTapeEnd_of_stays {s : State} {d : Nat} {active : Bool} (h : (dispAt s d).state ≠ .ready ∨ active = false) :
    noteTapeEnd s d active = modDisp s d fun r => { r with tapeEnd := active } := by
  have hnot : (active && (dispAt s d).state == .ready) = false := by
    rcases h with h | h <;> simp [h]
  simp only [noteTapeEnd, hnot, Bool.false_eq_true, if_false]

/-- Settles O28: the level is written to one record; a READY dispenser at its tape's end becomes OUT with its report. -/
theorem tapeEndRecordsTheLevel : Obligations.TapeEndRecordsTheLevel := by
  unfold Obligations.TapeEndRecordsTheLevel
  intro s d active hlen
  have hself (f : Dispenser → Dispenser) : dispAt (modDisp s d.val f) d.val = f (dispAt s d.val) := by
    rw [dispAt_modDisp, if_pos ⟨rfl, by omega⟩]
  have hother (f : Dispenser → Dispenser) (e : Nat) (he : e ≠ d.val) : dispAt (modDisp s d.val f) e = dispAt s e := by
    rw [dispAt_modDisp, if_neg fun h => he h.1.symm]
  refine ⟨fun hr ha => ?out, fun h => ?stays⟩
  case out =>
    subst ha
    exact ⟨_, congrArg Host.Outcome.next (noteTapeEnd_of_out hr), hself _, hother _, rfl, rfl⟩
  case stays => exact ⟨_, congrArg Host.Outcome.next (noteTapeEnd_of_stays h), hself _, hother _, rfl, rfl⟩

/-! ### DROP_CONFIRM -/

section
variable {s : State} {d : Fin 64} {pos : Nat}

theorem exec_dropConfirm_of_outstanding (h : (dispAt s d.val).outstanding = some pos) :
    exec (.dropConfirm d) s = .next (finish false s (confirmDrop s pos d.val)) := by
  simp only [exec, execDropConfirm, h]

theorem exec_dropConfirm_of_missed (h : (dispAt s d.val).outstanding = none) (hm : (dispAt s d.val).missed = some pos) :
    exec (.dropConfirm d) s = .next (finish false s (lateConfirm s pos d.val)) := by
  simp only [exec, execDropConfirm, h, hm]

end

/-- Two changes of one record are one change. -/
theorem modDisp_modDisp (s : State) (d : Nat) (f g : Dispenser → Dispenser) :
    modDisp (modDisp s d f) d g = modDisp s d (g ∘ f) := by
  simp only [modDisp, State.setDisp_disp, List.modify_modify_eq]
  rfl

/-- Settles O29: the outstanding drop, else the missed position, each by the clip at its position; the end of the command
leaves what the confirm did. -/
theorem dropConfirmEndsTheDrop : Obligations.DropConfirmEndsTheDrop := by
  unfold Obligations.DropConfirmEndsTheDrop
  intro s d
  refine ⟨fun pos i ho hc hv => ⟨_, exec_dropConfirm_of_outstanding ho, ?loaded⟩,
    fun pos i ho hc hv => ⟨_, exec_dropConfirm_of_outstanding ho, ?verified⟩,
    fun pos k b e o ho hc => ⟨_, exec_dropConfirm_of_outstanding ho, ?surplus⟩,
    fun pos ho hm hc => ⟨_, exec_dropConfirm_of_missed ho hm, ?late⟩, fun ho hm => ?ignored⟩
  case loaded =>
    rw [finish_work]
    simp only [confirmDrop, hc, hv, if_true]
    rfl
  case verified =>
    rw [finish_work]
    simp only [confirmDrop, hc, hv, Bool.false_eq_true, if_false, clearFaults]
    exact congrArg (fun r => State.work ((s.setDisp { s.disp with records := r }).setChain
      { s.chain with clips := s.chain.clips.set pos (.verified i false) })) (List.modify_modify_eq _ _ _ _)
  case surplus =>
    rw [finish_work]
    simp only [confirmDrop, hc]
    rfl
  case late =>
    rw [finish_work]
    simp only [lateConfirm, hc, if_true]
    rfl
  case ignored => simp only [exec, execDropConfirm, ho, hm]

/-! ### VERIFY_WORD -/

section
variable {s : State} {bits : List Bool} {m : Measurement} {r : VerifyResult}

theorem exec_verifyWord_of_matching (hv : (cfg s).verifier = true) (hm : s.chain.measurement = some m)
    (hr : parseVerifyWord bits = some r) (ht : r.tag = m.tag) (hc : r.cls = m.entry.cls) :
    exec (.verifyWord bits) s = .next (finish false s (applyResult s m r)) := by
  have hmatch : ((cfg s).verifier && m.matches r) = true := by simp [hv, Measurement.matches, ht, hc]
  simp only [exec, execVerifyWord, hm, hr, if_pos hmatch]

theorem exec_verifyWord_of_discarded
    (h : s.chain.measurement = none ∨ (cfg s).verifier = false ∨ parseVerifyWord bits = none) :
    exec (.verifyWord bits) s = .next s := by
  simp only [exec, execVerifyWord]
  split
  case h_1 m r hm hr =>
    have hv : (cfg s).verifier = false := by
      rcases h with h | h | h
      · rw [hm] at h; cases h
      · exact h
      · rw [hr] at h; cases h
    exact if_neg (by simp [hv])
  case h_2 => rfl

theorem measured_of_loaded {i : ClipItem} (hc : clipAt s m.position = .loaded i) (hk : i.key = m.key) :
    measured s m = some i := by
  simp only [measured, hc, if_pos hk]

/-- A result is accepted by the kind of its entry, the value's window and the sense (R18). -/
theorem judge_accepts {e : PartEntry} {flip : Bool} (h : e.kind = .unchecked ∧ flip = false ∨
    e.lo ≤ r.value ∧ r.value ≤ e.hi ∧
      (e.kind = .nonpolar ∧ flip = false ∨ e.kind = .polar ∧ r.sense = .forward ∧ flip = false ∨
       e.kind = .polar ∧ r.sense = .reverse ∧ flip = true)) : judge e r = some flip := by
  obtain ⟨hk, rfl⟩ | ⟨hlo, hhi, ⟨hk, rfl⟩ | ⟨hk, hs, rfl⟩ | ⟨hk, hs, rfl⟩⟩ := h
  · simp only [judge, hk]
  · simp only [judge, hk, if_pos (And.intro hlo hhi)]
  · simp only [judge, hk, if_pos (And.intro hlo hhi), hs]
  · simp only [judge, hk, if_pos (And.intro hlo hhi), hs]

theorem judge_rejects {e : PartEntry} (hk : e.kind ≠ .unchecked)
    (h : r.value < e.lo ∨ e.hi < r.value ∨ (e.kind = .polar ∧ r.sense = .none)) : judge e r = Option.none := by
  unfold judge
  split
  case h_1 hu => exact absurd hu hk
  case h_2 hn =>
    rw [hn] at h
    exact if_neg (by rintro ⟨hlo, hhi⟩; simp at h; omega)
  case h_3 =>
    split
    case isFalse => rfl
    case isTrue hw =>
      obtain h | h | ⟨-, h⟩ := h
      · omega
      · omega
      · rw [h]

theorem applyResult_of_accepted {i : ClipItem} {flip : Bool} (hi : measured s m = some i)
    (hj : judge m.entry r = some flip) : applyResult s m r = acceptClip (clearMeasurement s) m.position i flip := by
  simp only [applyResult, hi, hj]

theorem applyResult_of_rejected {i : ClipItem} (hi : measured s m = some i) (hj : judge m.entry r = Option.none) :
    applyResult s m r = verifyReject (clearMeasurement s) m.position i := by
  simp only [applyResult, hi, hj]

end

/-! ### A counted fault -/

@[simp] theorem countDispenser_groups (s : State) (d : Nat) : (countDispenser s d).disp.groups = s.disp.groups := by
  unfold countDispenser
  dsimp only
  split <;> rfl

@[simp] theorem countDispenser_chain (s : State) (d : Nat) : (countDispenser s d).chain = s.chain := by
  unfold countDispenser
  dsimp only
  split <;> rfl

@[simp] theorem countGroup_chain (s : State) (d : Nat) : (countGroup s d).chain = s.chain := by
  unfold countGroup
  dsimp only
  split <;> rfl

@[simp] theorem countFault_chain (s : State) (d : Nat) : (countFault s d).chain = s.chain := by simp [countFault]

theorem countGroup_groups (s : State) (d : Nat) :
    (countGroup s d).disp.groups = s.disp.groups.modify (d / 4) (Group.fault (cfg s).quarantine) := by
  unfold countGroup
  dsimp only
  split <;> rfl

theorem groupAt_countFault (s : State) {d : Nat} (hd : d / 4 < s.disp.groups.length) :
    (groupAt (countFault s d) (d / 4)).faults = capAt 255 ((groupAt s (d / 4)).faults + 1) := by
  have hgroups := countGroup_groups (countDispenser s d) d
  rw [countDispenser_groups] at hgroups
  simp only [countFault, groupAt, hgroups, List.getD_eq_getElem?_getD, List.getElem?_modify, hd, getElem?_pos, if_true,
    Option.getD_some]
  rfl

/-- A rejected clip is REJECTED, and its group counts the fault (R39, R31). -/
theorem verifyReject_spec (s : State) (pos : Nat) {i : ClipItem} (hd : i.disp / 4 < s.disp.groups.length) :
    (verifyReject s pos i).chain = { s.chain with
      clips := s.chain.clips.set pos (.rejected i.key (some i.board) i.disp i.origin) } ∧
    (groupAt (verifyReject s pos i) (i.disp / 4)).faults = capAt 255 ((groupAt s (i.disp / 4)).faults + 1) := by
  have hon := OnSlot.handCounted (setClip s pos (.rejected i.key (some i.board) i.disp i.origin)) i.board i.key i.origin
  have hdisp : (rejectClip s pos i).disp = s.disp := hon.disp
  constructor
  · exact (countFault_chain (rejectClip s pos i) i.disp).trans hon.chain
  · have hfault := groupAt_countFault (rejectClip s pos i) (d := i.disp) (by rw [hdisp]; exact hd)
    refine Eq.trans ?_ (hfault.trans (by simp only [groupAt, hdisp]))
    rfl

theorem clipAt_lt_of_loaded {s : State} {p : Nat} {i : ClipItem} (h : clipAt s p = .loaded i) :
    p < s.chain.clips.length := by
  by_contra hp
  rw [clipAt, List.getD_eq_default _ _ (not_lt.mp hp)] at h
  cases h

/-- Settles O30: the word in force is judged by R18; an accepted clip is VERIFIED with its flip, a rejected one REJECTED with
its fault counted. -/
theorem aVerifyWordJudgesTheClip : Obligations.AVerifyWordJudgesTheClip := by
  unfold Obligations.AVerifyWordJudgesTheClip
  intro s bits
  refine ⟨fun m r i flip hv hm hr ht hcls hc hk h => ⟨_, exec_verifyWord_of_matching hv hm hr ht hcls, ?accepted⟩,
    fun m r i hv hm hr ht hcls hc hk hu hd h => ⟨_, exec_verifyWord_of_matching hv hm hr ht hcls, ?rejected⟩,
    exec_verifyWord_of_discarded⟩
  case accepted =>
    rw [finish_work, applyResult_of_accepted (measured_of_loaded hc hk) (judge_accepts h)]
    rfl
  case rejected =>
    rw [applyResult_of_rejected (measured_of_loaded hc hk) (judge_rejects hu h)]
    obtain ⟨hchain, hgroup⟩ := verifyReject_spec (clearMeasurement s) m.position (i := i) hd
    have hwork := finish_work false s (verifyReject (clearMeasurement s) m.position i)
    have hchain' : (finish false s (verifyReject (clearMeasurement s) m.position i)).chain = _ :=
      (congrArg Work.chain hwork).trans hchain
    have hdisp : (finish false s (verifyReject (clearMeasurement s) m.position i)).disp = _ := congrArg Work.disp hwork
    refine ⟨by rw [hchain']; rfl, ?_, ?_⟩
    · have hclips : (finish false s (verifyReject (clearMeasurement s) m.position i)).chain.clips =
          s.chain.clips.set m.position (.rejected i.key (some i.board) i.disp i.origin) := congrArg Chain.clips hchain'
      rw [clipAt, hclips, List.getD_eq_getElem?_getD, List.getElem?_set_self (clipAt_lt_of_loaded hc)]
      rfl
    · refine Eq.trans ?_ hgroup
      simp only [groupAt, hdisp]
      rfl

end Sys2Proof.Machine
end

section
/-! SUPPORT. More of what the end of a command leaves (log 5): the actuators and the table of a station that does not aim, a
positioning record without a clip, the gate-hold limit that does not run, the reports that stand. -/

namespace Sys2Proof.Machine

/-! ### The pose unit through the end of a command -/

@[simp] theorem setActuator_pose (s : State) (a : Actuator) (r : ActRecord) : (setActuator s a r).pose = s.pose := rfl
@[simp] theorem report_pose (s : State) (k : ReportKind) : (report s k).pose = s.pose := rfl
@[simp] theorem setSlot_pose (s : State) (i : Nat) (c : Option Context) : (setSlot s i c).pose = s.pose := rfl
@[simp] theorem queueStatus_pose (s : State) : (queueStatus s).pose = s.pose := rfl
@[simp] theorem enterAlarm_pose (s : State) (c : AlarmClass) (src : AlarmSource) : (enterAlarm s c src).pose = s.pose := rfl
@[simp] theorem setRun_pose (s : State) (r : RunState) : (setRun s r).pose = s.pose := rfl
@[simp] theorem leaveGate_pose (s : State) : (leaveGate s).pose = s.pose := rfl
@[simp] theorem testFinished_pose (s : State) : (testFinished s).pose = s.pose := by
  unfold testFinished; (repeat' split) <;> simp
@[simp] theorem keepBack_pose (s : State) : (keepBack s).pose = s.pose := by unfold keepBack; split <;> rfl
@[simp] theorem releaseGate_pose (s : State) : (releaseGate s).pose = s.pose := by unfold releaseGate; split <;> simp
@[simp] theorem completeRun_pose (s : State) : (completeRun s).pose = s.pose := by
  unfold completeRun; (repeat' split) <;> simp
@[simp] theorem updateHold_pose (s : State) : (updateHold s).pose = s.pose := by
  unfold updateHold watchDownstream; dsimp only; split <;> simp [updatePull]
@[simp] theorem statusOnChange_pose (before s : State) : (statusOnChange before s).pose = s.pose := by
  unfold statusOnChange; split <;> simp

/-- A record without a clip is not stale (R74). -/
theorem dropStale_of_clipless {s : State} (h : ∀ r, s.pose.positioning = some r → r.clip = none) : dropStale s = s := by
  unfold dropStale
  split
  case h_1 r hr => simp only [h r hr]
  case h_2 => rfl

section
variable {s : State} {r : Positioning} (hr : s.pose.positioning = some r) (hc : r.clip = none)
include hr

theorem beginPositioning_of_held (atUp : Bool) (pos : Nat) (i : ClipItem) : beginPositioning s atUp pos i = s := by
  simp only [beginPositioning, hr]

theorem aimTable_positioning_of_held (atUp : Bool) : (aimTable atUp s).pose = s.pose := by
  unfold aimTable
  split
  · rfl
  · split_ifs
    · rfl
    · rfl
    · dsimp only
      rw [beginPositioning_of_held hr]
      rfl

include hc

theorem raiseCountdown_of_clipless (k : ItemKey) (t : Nat) : raiseCountdown s k t = s := by
  simp [raiseCountdown, hr, hc]

theorem aimActuator_positioning_of_clipless (atUp : Bool) (pos : Nat) (i : ClipItem) (a : Actuator) :
    (aimActuator atUp pos i s a).pose = s.pose := by
  have hheld : s.pose.positioning.isSome = true := by rw [hr]; rfl
  unfold aimActuator
  dsimp only
  split
  · rfl
  · rw [raiseCountdown_of_clipless hr hc, if_pos hheld]
    split <;> rfl

theorem aimActuators_positioning_of_clipless (atUp : Bool) : (aimActuators atUp s).pose = s.pose := by
  unfold aimActuators
  split
  · exact keepBack_pose s
  · split
    · rfl
    · rename_i pos i _
      suffices h : ∀ (l : List Actuator) (u : State), u.pose = s.pose →
          (l.foldl (aimActuator atUp pos i) u).pose = s.pose from h actuators s rfl
      intro l
      induction l with
      | nil => exact fun u hu => hu
      | cons a rest ih =>
        intro u hu
        have hru : u.pose.positioning = some r := by rw [hu]; exact hr
        exact ih _ ((aimActuator_positioning_of_clipless hru hc atUp pos i a).trans hu)

theorem zeroCountdown_of_clipless (before : State) : zeroCountdown before s = s := by
  have hnone : reachedClip s = none := by
    unfold reachedClip
    split
    case h_1 r' pos i hr' _ =>
      rw [hr] at hr'
      cases hr'
      simp [hc]
    case h_2 => rfl
  simp [zeroCountdown, hr, hnone]

end

/-- The end of a command keeps a positioning record without a clip: it belongs to a JOG (R74, R92). -/
theorem finish_pose_of_clipless (atUp : Bool) (before : State) {s : State} {r : Positioning}
    (hr : s.pose.positioning = some r) (hc : r.clip = none) : (finish atUp before s).pose = s.pose := by
  have hclip {u : State} (hu : u.pose = s.pose) : ∀ x, u.pose.positioning = some x → x.clip = none := by
    intro x hx
    rw [hu, hr] at hx
    cases hx
    exact hc
  have hrec {u : State} (hu : u.pose = s.pose) : u.pose.positioning = some r := by rw [hu]; exact hr
  have htest : (testFinished s).pose = s.pose := testFinished_pose s
  have hdrop : dropStale (testFinished s) = testFinished s := dropStale_of_clipless (hclip htest)
  have htable : (aimTable atUp (testFinished s)).pose = s.pose :=
    (aimTable_positioning_of_held (hrec htest) atUp).trans htest
  have hact : (aimActuators atUp (aimTable atUp (testFinished s))).pose = s.pose :=
    (aimActuators_positioning_of_clipless (hrec htable) hc atUp).trans htable
  have haim : (aim atUp before (testFinished s)).pose = s.pose := by
    rw [aim, hdrop, zeroCountdown_of_clipless (hrec hact) hc, hact]
  have hrun : (completeRun (releaseGate (aim atUp before (testFinished s)))).pose = s.pose := by
    rw [completeRun_pose, releaseGate_pose, haim]
  rw [finish, statusOnChange_pose, updateHold_pose, dropStale_of_clipless (hclip hrun), hrun]

/-! ### A station that does not aim (R82) -/

/-- The station is not producing, or its home is invalid: it aims neither the table nor an actuator (R82, R106). -/
def NotAiming (s : State) : Prop := producing s = false ∨ s.table.homeValid = false

section
variable {s : State}

theorem NotAiming.congr {t : State} (h : NotAiming s) (hj : t.jam = s.jam) (ht : t.table = s.table) : NotAiming t :=
  h.imp (fun hp => by rw [← hp]; simp only [producing, hj]) fun hv => by rw [ht]; exact hv

theorem NotAiming.aims (h : NotAiming s) : aims s = false := by
  rcases h with h | h <;> simp [Machine.aims, h]

theorem NotAiming.aimedClip (h : NotAiming s) : aimedClip s = none := by
  simp [Machine.aimedClip, h.aims]

theorem NotAiming.wantedCommands (h : NotAiming s) : wantedCommands s = [] := by
  simp only [Machine.wantedCommands, h.aimedClip]

theorem NotAiming.reachedClip (h : NotAiming s) : reachedClip s = none := by
  unfold Machine.reachedClip
  rw [h.aimedClip]
  split
  · rename_i e
    cases e
  · rfl

theorem NotAiming.zeroCountdown (h : NotAiming s) (before : State) : zeroCountdown before s = s := by
  unfold Machine.zeroCountdown
  split
  · rw [if_neg (by simp [h.reachedClip])]
  · rfl

theorem NotAiming.aimTable (h : NotAiming s) (atUp : Bool) : aimTable atUp s = s := by
  simp only [Machine.aimTable, h.aimedClip]

theorem NotAiming.aimActuators (h : NotAiming s) (atUp : Bool) :
    aimActuators atUp s = if s.inputs.guardOpen then keepBack s else s := by
  simp only [Machine.aimActuators, h.aimedClip]

theorem keepBack_act (s : State) (a : Actuator) : (keepBack s).stroke.act a = s.stroke.act a := by
  unfold keepBack
  split
  · rfl
  · cases a <;> rfl

/-- A station that does not aim commands nothing: its actuators stay, and its record is dropped unless it has no clip. -/
theorem NotAiming.aim (h : NotAiming s) (atUp : Bool) (before : State) :
    aim atUp before s = if s.inputs.guardOpen then keepBack (dropStale s) else dropStale s := by
  have hd : NotAiming (dropStale s) := h.congr (dropStale_jam s) (dropStale_table s)
  have hguard : (dropStale s).inputs = s.inputs := by
    unfold dropStale
    (repeat' split) <;> rfl
  unfold Machine.aim
  rw [hd.aimTable, hd.aimActuators, hguard]
  split
  · exact NotAiming.zeroCountdown (hd.congr (keepBack_jam _) (keepBack_table _)) before
  · exact hd.zeroCountdown before

theorem leaveGate_act (s : State) (a : Actuator) : (leaveGate s).stroke.act a = s.stroke.act a := by cases a <;> rfl

theorem releaseGate_act (s : State) (a : Actuator) : (releaseGate s).stroke.act a = s.stroke.act a := by
  unfold releaseGate
  split
  · exact leaveGate_act s a
  · rfl

/-- The actuators of a station that does not aim stay as they are at the end of a command. -/
theorem NotAiming.finish_act (h : NotAiming s) (atUp : Bool) (before : State) (a : Actuator) :
    (finish atUp before s).stroke.act a = s.stroke.act a := by
  have ht : NotAiming (testFinished s) := h.congr (testFinished_jam s) (testFinished_table s)
  have haim : (Machine.aim atUp before (testFinished s)).stroke.act a = s.stroke.act a := by
    rw [ht.aim]
    split
    · rw [keepBack_act, dropStale_stroke, testFinished_stroke]
    · rw [dropStale_stroke, testFinished_stroke]
  rw [finish, statusOnChange_stroke, updateHold_stroke, dropStale_stroke, completeRun_stroke, releaseGate_act, haim]

/-- The table of a station that does not aim stays as it is at the end of a command. -/
theorem NotAiming.finish_table (h : NotAiming s) (atUp : Bool) (before : State) :
    (finish atUp before s).table = s.table := by
  have ht : NotAiming (testFinished s) := h.congr (testFinished_jam s) (testFinished_table s)
  have haim : (Machine.aim atUp before (testFinished s)).table = s.table := by
    rw [ht.aim]
    split
    · rw [keepBack_table, dropStale_table, testFinished_table]
    · rw [dropStale_table, testFinished_table]
  rw [finish, statusOnChange_table, updateHold_table, dropStale_table, completeRun_table, releaseGate_table, haim]

/-- A station that does not aim and holds no positioning record begins none. -/
theorem NotAiming.finish_positioning (h : NotAiming s) (hn : s.pose.positioning = none) (atUp : Bool) (before : State) :
    (finish atUp before s).pose = s.pose := by
  have ht : NotAiming (testFinished s) := h.congr (testFinished_jam s) (testFinished_table s)
  have hclip {u : State} (hu : u.pose = s.pose) : ∀ x, u.pose.positioning = some x → x.clip = none := by
    intro x hx
    rw [hu, hn] at hx
    cases hx
  have hdrop : dropStale (testFinished s) = testFinished s := dropStale_of_clipless (hclip (testFinished_pose s))
  have haim : (Machine.aim atUp before (testFinished s)).pose = s.pose := by
    rw [ht.aim, hdrop]
    split
    · rw [keepBack_pose, testFinished_pose]
    · rw [testFinished_pose]
  have hrun : (completeRun (releaseGate (Machine.aim atUp before (testFinished s)))).pose = s.pose := by
    rw [completeRun_pose, releaseGate_pose, haim]
  rw [finish, statusOnChange_pose, updateHold_pose, dropStale_of_clipless (hclip hrun), hrun]

end

/-! ### The gate-hold limit and the reports -/

theorem Stroke.motion_gateTimer (k : Stroke) : k.motion.gateTimer = k.gateTimer := rfl

/-- A gate-hold limit that does not run is not started by the end of a command (R109). -/
theorem finish_gateTimer (atUp : Bool) (before : State) {s : State} (h : s.stroke.gateTimer = none) :
    (finish atUp before s).stroke.gateTimer = none := by
  have haim : (aim atUp before (testFinished s)).stroke.gateTimer = none := by
    have hm : (aim atUp before (testFinished s)).stroke.motion = s.stroke.motion := by simp [aim]
    rw [← Stroke.motion_gateTimer, hm, Stroke.motion_gateTimer, h]
  rw [finish, statusOnChange_stroke, updateHold_stroke, dropStale_stroke, completeRun_stroke, releaseGate]
  split
  · rfl
  · exact haim

@[simp] theorem setPositioning_console (s : State) (r : Option Positioning) : (setPositioning s r).console = s.console := rfl
@[simp] theorem setActuator_console (s : State) (a : Actuator) (r : ActRecord) :
    (setActuator s a r).console = s.console := rfl
@[simp] theorem enterAlarm_console (s : State) (c : AlarmClass) (src : AlarmSource) :
    (enterAlarm s c src).console = s.console := rfl
@[simp] theorem setRun_console (s : State) (r : RunState) : (setRun s r).console = s.console := rfl
@[simp] theorem queueStatus_console (s : State) : (queueStatus s).console = s.console := rfl
@[simp] theorem leaveGate_console (s : State) : (leaveGate s).console = s.console := rfl
@[simp] theorem dropStale_console (s : State) : (dropStale s).console = s.console := by
  unfold dropStale; (repeat' split) <;> simp
@[simp] theorem beginPositioning_console (s : State) (atUp : Bool) (pos : Nat) (i : ClipItem) :
    (beginPositioning s atUp pos i).console = s.console := by
  unfold beginPositioning; (repeat' split) <;> simp
@[simp] theorem raiseCountdown_console (s : State) (k : ItemKey) (t : Nat) : (raiseCountdown s k t).console = s.console := by
  unfold raiseCountdown; (repeat' split) <;> simp
@[simp] theorem aimTable_console (atUp : Bool) (s : State) : (aimTable atUp s).console = s.console := by
  unfold aimTable; (repeat' split) <;> simp [setOp]
@[simp] theorem aimActuator_console (atUp : Bool) (pos : Nat) (i : ClipItem) (s : State) (a : Actuator) :
    (aimActuator atUp pos i s a).console = s.console := by
  unfold aimActuator commandActuator; dsimp only; (repeat' split) <;> simp
@[simp] theorem keepBack_console (s : State) : (keepBack s).console = s.console := by unfold keepBack; split <;> rfl
@[simp] theorem aimActuators_console (atUp : Bool) (s : State) : (aimActuators atUp s).console = s.console := by
  unfold aimActuators; (repeat' split) <;> simp [actuators]
@[simp] theorem zeroCountdown_console (before s : State) : (zeroCountdown before s).console = s.console := by
  unfold zeroCountdown; (repeat' split) <;> simp
@[simp] theorem releaseGate_console (s : State) : (releaseGate s).console = s.console := by
  unfold releaseGate; split <;> simp
@[simp] theorem completeRun_console (s : State) : (completeRun s).console = s.console := by
  unfold completeRun; (repeat' split) <;> simp
@[simp] theorem updateHold_console (s : State) : (updateHold s).console = s.console := by
  unfold updateHold watchDownstream; dsimp only; split <;> simp [updatePull]
@[simp] theorem statusOnChange_console (before s : State) : (statusOnChange before s).console = s.console := by
  unfold statusOnChange; split <;> simp

/-- The only report that the end of a command hands over is BOARD_DONE (R134). -/
theorem finish_console (atUp : Bool) (before s : State) : (finish atUp before s).console = (testFinished s).console := by
  simp [finish, aim]

theorem report_prefix (s : State) (k : ReportKind) : s.console.reports <+: (report s k).console.reports := by
  simp only [report, State.setConsole_console]
  split
  · exact List.prefix_append _ _
  · exact List.prefix_refl _

theorem testFinished_prefix (s : State) : s.console.reports <+: (testFinished s).console.reports := by
  unfold testFinished
  split
  · exact List.prefix_refl _
  · split
    · exact List.prefix_refl _
    · dsimp only
      split
      · exact report_prefix (setSlot s _ _) _
      · exact List.prefix_refl _

/-- The reports that stand stay at the front of the queue (R189). -/
theorem finish_prefix (atUp : Bool) (before s : State) :
    s.console.reports <+: (finish atUp before s).console.reports := by
  rw [finish_console]
  exact testFinished_prefix s

end Sys2Proof.Machine
end

section
/-! PROOF. O31 and O32: HOME and JOG taken (R89, R90, R92). -/

namespace Sys2Proof.Machine

/-! ### The response and the records beside the actuators -/

@[simp] theorem respond_pose (s : State) (rc : ResultCode) (code : Byte) (b : Body) :
    (respond s rc code b).pose = s.pose := rfl
@[simp] theorem respond_inputs (s : State) (rc : ResultCode) (code : Byte) (b : Body) :
    (respond s rc code b).inputs = s.inputs := rfl

theorem Stroke.act_setAct_same (k : Stroke) (a : Actuator) (r : ActRecord) : (k.setAct a r).act a = r := by cases a <;> rfl

theorem Stroke.act_setAct_other (k : Stroke) {a b : Actuator} (h : b ≠ a) (r : ActRecord) :
    (k.setAct a r).act b = k.act b := by
  cases a <;> cases b <;> simp_all [Stroke.setAct, Stroke.act]

theorem setActuator_act_same (s : State) (a : Actuator) (r : ActRecord) : (setActuator s a r).stroke.act a = r :=
  s.stroke.act_setAct_same a r

theorem setActuator_act_other (s : State) {a b : Actuator} (h : b ≠ a) (r : ActRecord) :
    (setActuator s a r).stroke.act b = s.stroke.act b := s.stroke.act_setAct_other h r

@[simp] theorem LastPose.setValue_valid (l : LastPose) (a : Actuator) (v : Nat) : (l.setValue a v).valid = l.valid := by
  cases a <;> rfl

@[simp] theorem takeValue_table (s : State) (a : Actuator) (v : Nat) : (takeValue s a v).table = s.table := by
  unfold takeValue; split <;> rfl
@[simp] theorem takeValue_jam (s : State) (a : Actuator) (v : Nat) : (takeValue s a v).jam = s.jam := by
  unfold takeValue; split <;> rfl
@[simp] theorem takeValue_stroke (s : State) (a : Actuator) (v : Nat) : (takeValue s a v).stroke = s.stroke := by
  unfold takeValue; split <;> rfl
@[simp] theorem takeValue_positioning (s : State) (a : Actuator) (v : Nat) :
    (takeValue s a v).pose.positioning = s.pose.positioning := by unfold takeValue; split <;> rfl
@[simp] theorem takeValue_valid (s : State) (a : Actuator) (v : Nat) :
    (takeValue s a v).pose.last.valid = s.pose.last.valid := by
  unfold takeValue
  split
  · exact LastPose.setValue_valid _ a v
  · rfl

theorem Verdict.conclude_started (s t : State) (code : Byte) :
    (Verdict.started t).conclude s code = respond t .started code .empty := rfl

/-! ### HOME commands its actuators (R89) -/

theorem HomeRun.done_setDone_same (h : HomeRun) (a : Actuator) (b : Bool) : (h.setDone a b).done a = b := by cases a <;> rfl

theorem HomeRun.done_setDone_other (h : HomeRun) {a c : Actuator} (hc : c ≠ a) (b : Bool) :
    (h.setDone a b).done c = h.done c := by
  cases a <;> cases c <;> simp_all [HomeRun.setDone, HomeRun.done]

/-- Two records of HOME that differ in their actuators alone. -/
def HomeRun.SameAxes (h h' : HomeRun) : Prop := h'.begun = h.begun ∧ h'.limit = h.limit ∧ h'.x = h.x ∧ h'.y = h.y

theorem HomeRun.SameAxes.trans {h h' h'' : HomeRun} (h1 : h.SameAxes h') (h2 : h'.SameAxes h'') : h.SameAxes h'' :=
  ⟨h2.1.trans h1.1, h2.2.1.trans h1.2.1, h2.2.2.1.trans h1.2.2.1, h2.2.2.2.trans h1.2.2.2⟩

theorem HomeRun.sameAxes_setDone (h : HomeRun) (a : Actuator) (b : Bool) : h.SameAxes (h.setDone a b) := by
  cases a <;> exact ⟨rfl, rfl, rfl, rfl⟩

/-- `t` follows `s` by the commands of HOME to the actuators of a list: one that stands at its reference value is done, and any
other is set to it (R89; log 11). -/
structure Commanded (l : List Actuator) (s t : State) (h h' : HomeRun) : Prop where
  table : t.table = { s.table with op := .home h' }
  jam : t.jam = s.jam
  positioning : t.pose.positioning = s.pose.positioning
  valid : t.pose.last.valid = s.pose.last.valid
  axes : h.SameAxes h'
  standing : ∀ a ∈ l, (s.stroke.act a).standsAt = some 0 → (t.stroke.act a).setting = none ∧ h'.done a = true
  setting : ∀ a ∈ l, (s.stroke.act a).standsAt ≠ some 0 → (t.stroke.act a).setting = some 0 ∧ h'.done a = h.done a
  others : ∀ a, a ∉ l → t.stroke.act a = s.stroke.act a ∧ h'.done a = h.done a

theorem homeActuator_commanded {s : State} {h : HomeRun} (hop : s.table.op = .home h) (a : Actuator) :
    ∃ h', Commanded [a] s (homeActuator s a) h h' := by
  unfold homeActuator
  split
  case isTrue hs =>
    have hop' : (settleActuator s a 0).table.op = .home h := by simp [settleActuator, hop]
    simp only [markHome, hop']
    refine ⟨h.setDone a true, ?_, ?_, ?_, ?_, h.sameAxes_setDone a true, ?_, ?_, ?_⟩
    · simp [setOp, settleActuator]
    · simp [setOp, settleActuator]
    · simp [setOp, settleActuator]
    · simp [setOp, settleActuator]
    · intro b hb _
      rw [List.mem_singleton.mp hb]
      exact ⟨by simp [setOp, settleActuator, setActuator_act_same], h.done_setDone_same a true⟩
    · intro b hb hne
      rw [List.mem_singleton.mp hb] at hne
      exact absurd hs hne
    · intro b hb
      have hne : b ≠ a := fun e => hb (List.mem_singleton.mpr e)
      exact ⟨by simp [setOp, settleActuator, setActuator_act_other s hne], h.done_setDone_other hne true⟩
  case isFalse hs =>
    refine ⟨h, ?_, rfl, rfl, rfl, ⟨rfl, rfl, rfl, rfl⟩, ?_, ?_, ?_⟩
    · rw [← hop]; rfl
    · intro b hb hst
      rw [List.mem_singleton.mp hb] at hst
      exact absurd hst hs
    · intro b hb _
      rw [List.mem_singleton.mp hb, setActuator_act_same]
      exact ⟨rfl, rfl⟩
    · exact fun b hb => ⟨setActuator_act_other s (fun e => hb (List.mem_singleton.mpr e)) _, rfl⟩

theorem Commanded.cons {a : Actuator} {l : List Actuator} {s t u : State} {h h' h'' : HomeRun} (ha : a ∉ l)
    (h1 : Commanded [a] s t h h') (h2 : Commanded l t u h' h'') : Commanded (a :: l) s u h h'' where
  table := by rw [h2.table, h1.table]
  jam := h2.jam.trans h1.jam
  positioning := h2.positioning.trans h1.positioning
  valid := h2.valid.trans h1.valid
  axes := h1.axes.trans h2.axes
  standing b hb hs := by
    obtain ⟨hact, hdone⟩ := h2.others a ha
    rcases List.mem_cons.mp hb with rfl | hb
    · rw [hact, hdone]
      exact h1.standing b (List.mem_singleton_self b) hs
    · have hne : b ∉ [a] := fun e => ha (List.mem_singleton.mp e ▸ hb)
      exact h2.standing b hb (by rw [(h1.others b hne).1]; exact hs)
  setting b hb hs := by
    obtain ⟨hact, hdone⟩ := h2.others a ha
    rcases List.mem_cons.mp hb with rfl | hb
    · rw [hact, hdone]
      exact h1.setting b (List.mem_singleton_self b) hs
    · have hne : b ∉ [a] := fun e => ha (List.mem_singleton.mp e ▸ hb)
      have := h2.setting b hb (by rw [(h1.others b hne).1]; exact hs)
      rwa [(h1.others b hne).2] at this
  others b hb := by
    obtain ⟨hba, hbl⟩ := not_or.mp fun e => hb (List.mem_cons.mpr e)
    obtain ⟨hact, hdone⟩ := h1.others b fun e => hba (List.mem_singleton.mp e)
    obtain ⟨hact', hdone'⟩ := h2.others b hbl
    exact ⟨hact'.trans hact, hdone'.trans hdone⟩

theorem homeActuators_commanded (l : List Actuator) (hl : l.Nodup) {s : State} {h : HomeRun} (hop : s.table.op = .home h) :
    ∃ h', Commanded l s (l.foldl homeActuator s) h h' := by
  induction l generalizing s h with
  | nil => exact ⟨h, by rw [← hop]; rfl, rfl, rfl, rfl, ⟨rfl, rfl, rfl, rfl⟩, nofun, nofun, fun _ _ => ⟨rfl, rfl⟩⟩
  | cons a rest ih =>
    obtain ⟨ha, hrest⟩ := List.nodup_cons.mp hl
    obtain ⟨h1, c1⟩ := homeActuator_commanded hop a
    obtain ⟨h2, c2⟩ := ih hrest (s := homeActuator s a) (h := h1) (by rw [c1.table])
    exact ⟨h2, .cons ha c1 c2⟩

theorem testHome_of_unfinished {s : State} {h : HomeRun} (hop : s.table.op = .home h) (hf : h.finished = false) :
    testHome s = s := by
  simp [testHome, hop, hf]

theorem HomeRun.finished_of_searching {h : HomeRun} (hx : h.x.phase ≠ .ended) : h.finished = false := by
  simp [HomeRun.finished, hx]

/-- An axis whose home input is inactive begins its approach with the guard closed (R90). -/
theorem homeApproach_of_inactive {s : State} {h : HomeRun} {ax : Axis} (hop : s.table.op = .home h)
    (hg : s.inputs.guardOpen = false) (hi : s.inputs.home ax = false) :
    homeApproach s ax = s.setTable { (s.table.setDir ax false) with
      op := .home (h.setAxis ax { phase := .approach, interval := some (intervalAt (ratesOf s ax) 0) }) } := by
  have hop' : (s.setTable (s.table.setDir ax false)).table.op = .home h := by cases ax <;> exact hop
  simp only [homeApproach, hi, Bool.false_eq_true, if_false, setHomeAxis, hop', homeInterval, hg]
  rfl

/-- The record of HOME as both axes begin their approach (R90). -/
def HomeRun.approaching (s : State) (h : HomeRun) : HomeRun :=
  { h with begun := true
           x := { phase := .approach, interval := some (intervalAt (ratesOf s .x) 0) }
           y := { phase := .approach, interval := some (intervalAt (ratesOf s .y) 0) } }

/-- HOME begins with the guard closed and both home inputs inactive: both axes approach, and the actuators are commanded (R89,
R90). -/
theorem beginHome_spec {s : State} {h : HomeRun} (hop : s.table.op = .home h) (hg : s.inputs.guardOpen = false)
    (hx : s.inputs.homeX = false) (hy : s.inputs.homeY = false) :
    ∃ h', Commanded actuators (s.setTable { s.table with dirX := false, dirY := false }) (beginHome s)
      (h.approaching s) h' := by
  have hb : beginHome s = testHome (actuators.foldl homeActuator (s.setTable { s.table with
      dirX := false, dirY := false, op := .home (h.approaching s) })) := by
    simp only [beginHome, hop]
    let hX : HomeRun :=
      { h with begun := true, x := { phase := .approach, interval := some (intervalAt (ratesOf s .x) 0) } }
    have atX : homeApproach (setOp s (.home { h with begun := true })) .x =
        s.setTable { s.table with dirX := false, op := .home hX } :=
      homeApproach_of_inactive (ax := .x) (h := { h with begun := true }) rfl hg hx
    have atY : homeApproach (s.setTable { s.table with dirX := false, op := .home hX }) .y =
        s.setTable { s.table with dirX := false, dirY := false, op := .home (h.approaching s) } :=
      homeApproach_of_inactive (ax := .y) (h := hX) rfl hg hy
    rw [atX, atY]
  obtain ⟨h', c⟩ := homeActuators_commanded actuators (by decide) (h := h.approaching s)
    (s := s.setTable { s.table with dirX := false, dirY := false, op := .home (h.approaching s) }) rfl
  rw [hb, testHome_of_unfinished (h := h') (by rw [c.table])
    (h'.finished_of_searching (by rw [c.axes.2.2.1]; exact nofun))]
  exact ⟨h', c.table, c.jam, c.positioning, c.valid, c.axes, c.standing, c.setting, c.others⟩

/-! ### HOME (O31) -/

/-- HOME at a configured station is judged (R89). -/
theorem exec_home_framed {s : State} (extra : List Byte) (hu : s.jam.run ≠ .unconfigured) :
    exec (.home (framed [] extra)) s = .next ((judgeHome s).conclude s 0x30) :=
  congrArg Host.Outcome.next
    (request_framed s 0x30 false (body := []) extra (fun _ => judgeHome s) rfl (by decide) (.inr hu))

/-- HOME in IDLE or READY with the table free is taken (R89). -/
theorem exec_home_taken {s : State} (extra : List Byte) (hr : s.jam.run = .idle ∨ s.jam.run = .ready)
    (hb : tableBusy s = false) :
    exec (.home (framed [] extra)) s = .next (respond (finish false s (takeHome s)) .started 0x30 .empty) := by
  have hu : s.jam.run ≠ .unconfigured := by rcases hr with h | h <;> simp [h]
  rw [exec_home_framed extra hu, judgeHome, if_pos ⟨hr, by simp [hb]⟩]
  rfl

/-- A station that is IDLE or READY with its home invalid stays in that run state and does not aim. -/
theorem finish_home {s t : State} (hj : t.jam = s.jam) (hr : s.jam.run = .idle ∨ s.jam.run = .ready) :
    (finish false s t).jam.run = s.jam.run := by
  rw [← hj] at hr ⊢
  exact (finish_run false s t (by rcases hr with h | h <;> rw [h] <;> rfl)).1

/-- Settles O31: HOME taken waits for the guard, or begins with both axes in approach and the actuators commanded. -/
theorem homeBeginsOrWaitsForTheGuard : Obligations.HomeBeginsOrWaitsForTheGuard := by
  intro s extra hu
  refine ⟨fun h => ?refused, fun hr hb hg => ?waits, fun hr hb hg hx hy => ?begins⟩
  case refused =>
    rw [exec_home_framed extra hu, judgeHome, if_neg]
    · rfl
    · rintro ⟨hr, hf⟩
      rcases h with ⟨h1, h2⟩ | h
      · exact hr.elim h1 h2
      · simp [h] at hf
  case waits =>
    refine ⟨_, exec_home_taken extra hr hb, ?_, ?_⟩
    · rw [respond_work, finish_work, finish_response, takeHome, if_pos hg]
      rfl
    · exact finish_home (by rw [takeHome, if_pos hg]; rfl) hr
  case begins =>
    have hop := tableBusy_none hb
    obtain ⟨h, c⟩ := beginHome_spec (h := HomeRun.waiting (ms (cfg s).homeLimit))
      (s := (setPositioning (setLast s { s.pose.last with valid := false }) none).setTable
        { s.table with homeValid := false, op := .home (HomeRun.waiting (ms (cfg s).homeLimit)) }) rfl hg hx hy
    have htake : takeHome s = beginHome ((setPositioning (setLast s { s.pose.last with valid := false }) none).setTable
        { s.table with homeValid := false, op := .home (HomeRun.waiting (ms (cfg s).homeLimit)) }) := by
      rw [takeHome, if_neg (by simp [hg])]
    rw [← htake] at c
    have haim : NotAiming (takeHome s) := .inr (by rw [c.table]; rfl)
    have hpose : (finish false s (takeHome s)).pose = (takeHome s).pose :=
      haim.finish_positioning c.positioning false s
    refine ⟨_, h, exec_home_taken extra hr hb, ?_⟩
    simp only [respond_table, respond_pose, respond_stroke, respond_jam, haim.finish_table, hpose, haim.finish_act, c.table]
    refine ⟨trivial, c.axes.1, c.axes.2.1, c.axes.2.2.1, c.axes.2.2.2, rfl, rfl, rfl, rfl, rfl, c.valid, c.positioning, ?_,
      finish_home c.jam hr⟩
    intro a
    have ha : a ∈ actuators := by cases a <;> decide
    refine ⟨fun hs => ?_, c.standing a ha⟩
    obtain ⟨hset, hdone⟩ := c.setting a ha hs
    refine ⟨hset, hdone.trans ?_⟩
    cases a <;> rfl

/-! ### JOG (O32) -/

/-- The positioning record of a JOG: it has no clip (R92). -/
def jogRecord (s : State) (ax : Axis) (target : Nat) : Positioning :=
  { clip := none, pose := none, tx := (jogMotion s ax target).tx, ty := (jogMotion s ax target).ty,
    tp := predictJog s ax target, r := predictJog s ax target, atUp := false }

theorem jogMotion_target (s : State) (ax : Axis) (target : Nat) : (jogMotion s ax target).target ax = target := by
  cases ax <;> rfl

theorem axisMotion_of_ne {rs : List Nat} {cur target : Nat} (h : cur ≠ target) : (axisMotion rs cur target).isDone = false := by
  have hd : distance cur target ≠ 0 := by unfold distance; omega
  simp [axisMotion, hd, AxisMotion.isDone]

/-- A motion with an axis that is not done goes on. -/
theorem testStand_of_moving {s : State} {m : Motion} (hm : s.table.op.motion = some m)
    (h : m.x.isDone = false ∨ m.y.isDone = false) : testStand s = s := by
  rcases h with h | h <;> simp [testStand, hm, h]

/-- A JOG taken with the guard open waits (R84, R92). -/
theorem takeJog_of_open {s : State} (ax : Axis) (target : Nat) (check : Bool) (hg : s.inputs.guardOpen = true) :
    takeJog s ax target check =
      setPositioning (setOp s (.jog ax check (jogMotion s ax target))) (some (jogRecord s ax target)) := by
  rw [takeJog, if_pos hg]
  rfl

/-- A JOG taken with the guard closed runs (R80, R92). -/
theorem takeJog_of_closed {s : State} (ax : Axis) (target : Nat) (check : Bool) (hg : s.inputs.guardOpen = false) :
    takeJog s ax target check = testStand (runFresh
      (setPositioning (setOp s (.jog ax check (jogMotion s ax target))) (some (jogRecord s ax target)))) := by
  rw [takeJog, if_neg (by simp [hg])]
  rfl

/-- What a JOG that runs leaves: a fresh motion toward its target, with its positioning record (R80, R92). -/
theorem takeJog_running {s : State} (ax : Axis) (target : Nat) (check : Bool) (hg : s.inputs.guardOpen = false)
    (hne : s.table.counter ax ≠ target) :
    let v := freshMotion s (jogMotion s ax target).tx (jogMotion s ax target).ty
    (takeJog s ax target check).table.op = .jog ax check v ∧ (takeJog s ax target check).table.x = s.table.x ∧
    (takeJog s ax target check).table.y = s.table.y ∧
    (takeJog s ax target check).pose.positioning = some (jogRecord s ax target) := by
  intro v
  let s1 := setPositioning (setOp s (.jog ax check (jogMotion s ax target))) (some (jogRecord s ax target))
  have hfresh : runFresh s1 = setPositioning (s1.setTable (v.direct { s.table with op := .jog ax check v }))
      (some (jogRecord s ax target)) := by
    have hcount := v.direct_counters { s.table with op := .jog ax check v }
    have htime : predictJog (s1.setTable (v.direct { s.table with op := .jog ax check v })) ax target =
        predictJog s ax target := by
      have hc : (v.direct { s.table with op := .jog ax check v }).counter ax = s.table.counter ax := by
        cases ax
        · exact hcount.1
        · exact hcount.2.1
      simp only [predictJog, State.setTable_table, hc]
      rfl
    have hrec : runFresh s1 = rePredictJog (s1.setTable (v.direct { s.table with op := .jog ax check v })) ax
        ((jogMotion s ax target).target ax) := rfl
    rw [hrec, jogMotion_target]
    change setPositioning (s1.setTable (v.direct { s.table with op := .jog ax check v }))
      (some { jogRecord s ax target with
        tp := predictJog (s1.setTable (v.direct { s.table with op := .jog ax check v })) ax target
        r := predictJog (s1.setTable (v.direct { s.table with op := .jog ax check v })) ax target }) = _
    rw [htime]
    rfl
  have hcount := v.direct_counters { s.table with op := .jog ax check v }
  have hop : (runFresh s1).table.op = .jog ax check v := by
    rw [hfresh]
    exact hcount.2.2.2.2.2
  have hmove : v.x.isDone = false ∨ v.y.isDone = false := by
    cases ax
    · exact .inl (axisMotion_of_ne hne)
    · exact .inr (axisMotion_of_ne hne)
  have hstand : testStand (runFresh s1) = runFresh s1 := testStand_of_moving (m := v) (by rw [hop]; rfl) hmove
  rw [takeJog_of_closed ax target check hg, hstand]
  refine ⟨hop, ?_, ?_, ?_⟩
  · rw [hfresh]; exact hcount.1
  · rw [hfresh]; exact hcount.2.1
  · rw [hfresh]; rfl

/-- JOG with its axis and its check flag in range, judged (R92, R185). -/
theorem judgeJog_eq {s : State} {body : List Byte} {ax : Axis} {check : Bool} (hax : axisOf (at8 body 0) = some ax)
    (hcheck : flagOf (at8 body 3) = some check) :
    judgeJog s body =
      if travel s ax < at16 body 1 then .refuse .refusedRange
      else if !(s.jam.run == .ready || s.jam.run == .halted) || tableBusy s ||
        (check && (!s.table.homeValid || (s.table.phase ax).isNone)) then .refuse .refusedState
      else .started (finish false s (takeJog s ax (at16 body 1) check)) := by
  simp only [judgeJog, hax, hcheck]

/-- Settles O32: JOG is refused by its range and then by the state, waits for the guard, or runs toward its target. -/
theorem jogStartsTowardItsTarget : Obligations.JogStartsTowardItsTarget := by
  intro s body extra ax check hl hu hax hcheck
  have hexec : exec (.jog (framed body extra)) s = .next ((judgeJog s body).conclude s 0x31) :=
    congrArg Host.Outcome.next (request_framed s 0x31 false extra (judgeJog s) hl (by decide) (.inr hu))
  rw [hexec, judgeJog_eq hax hcheck]
  refine ⟨fun hout => by rw [if_pos hout]; rfl, fun hin hstate => ?refused, fun hin hr hb hhome => ?taken⟩
  case refused =>
    rw [if_neg (by omega), if_pos]
    · rfl
    · rcases hstate with ⟨h1, h2⟩ | h
      · simp [h1, h2]
      · simp [h]
  case taken =>
    have hready : (!(s.jam.run == .ready || s.jam.run == .halted) || tableBusy s ||
        (check && (!s.table.homeValid || (s.table.phase ax).isNone))) = false := by
      have hc : (check && (!s.table.homeValid || (s.table.phase ax).isNone)) = false := by
        cases check with
        | false => rfl
        | true =>
          obtain ⟨hv, hp⟩ := hhome rfl
          obtain ⟨p, hp⟩ := Option.isSome_iff_exists.mp hp
          simp [hv, hp]
      rw [hc, hb]
      rcases hr with h | h <;> simp [h]
    rw [if_neg (by omega), hready, if_neg Bool.false_ne_true, Verdict.conclude_started]
    let m := jogMotion s ax (at16 body 1)
    by_cases hg : s.inputs.guardOpen = true
    · have htake := takeJog_of_open ax (at16 body 1) check hg
      have htable : (takeJog s ax (at16 body 1) check).table = { s.table with op := .jog ax check m } := by rw [htake]; rfl
      refine ⟨_, m, rfl, fun _ => ⟨?_, rfl, ?_, ?_⟩, jogMotion_target .., ?_, ?_, fun h => ?_⟩
      · rw [respond_table, finish_table _ _ _ (by rw [htable]; exact nofun), htable]
      · rw [respond_work, finish_work, finish_response, htake]
        rfl
      · rw [respond_pose, finish_pose_of_clipless (r := jogRecord s ax (at16 body 1)) _ _ (by rw [htake]; rfl) rfl, htake]
        rfl
      · cases ax <;> rfl
      · cases ax <;> rfl
      · rw [hg] at h
        cases h
    · have hg : s.inputs.guardOpen = false := by simpa using hg
      by_cases hne : s.table.counter ax = at16 body 1
      · refine ⟨_, m, rfl, fun h => ?_, jogMotion_target .., ?_, ?_, fun _ h => absurd hne h⟩
        · rw [hg] at h
          cases h
        · cases ax <;> rfl
        · cases ax <;> rfl
      · obtain ⟨hop, hx, hy, hpos⟩ := takeJog_running ax (at16 body 1) check hg hne
        have htable := finish_table false s _ (by rw [hop]; exact nofun)
        refine ⟨_, freshMotion s m.tx m.ty, rfl, fun h => ?_, ?_, ?_, ?_, fun _ _ => ⟨?_, rfl, ?_, ?_, ?_, ?_⟩⟩
        · rw [hg] at h
          cases h
        · cases ax <;> rfl
        · cases ax <;> rfl
        · cases ax <;> rfl
        · rw [respond_table, htable, hop]
        · cases ax <;> rfl
        · rw [respond_table, htable, hx]
        · rw [respond_table, htable, hy]
        · rw [respond_pose, finish_pose_of_clipless _ _ hpos rfl, hpos]
          rfl

end Sys2Proof.Machine
end

section
/-! PROOF. O33, O34, O36 and O37: axis steps, the end of a motion, the actuators' reports and the guard (R79 to R85, R93,
R107). -/

namespace Sys2Proof.Machine

/-! ### Where the table stands -/

/-- The counters, the phases and the home of the table: where it stands, whatever it does. -/
def Table.place (t : Table) : Nat × Nat × Option Nat × Option Nat × Bool := (t.x, t.y, t.phaseX, t.phaseY, t.homeValid)

theorem Table.counter_of_place {t u : Table} (h : t.place = u.place) (ax : Axis) : t.counter ax = u.counter ax := by
  cases ax
  · exact congrArg Prod.fst h
  · exact congrArg (fun p => p.2.1) h

@[simp] theorem Motion.direct_place (m : Motion) (t : Table) : (m.direct t).place = t.place := by
  have h := m.direct_counters t
  simp only [Table.place, h]

@[simp] theorem endMotion_place (s : State) (o : JogOutcome) : (endMotion s o).table.place = s.table.place := by
  unfold endMotion; split <;> rfl

@[simp] theorem completeMotion_place (s : State) : (completeMotion s).table.place = s.table.place := by
  unfold completeMotion
  dsimp only
  split
  · rfl
  · split <;> rfl
  · rfl
  · rfl

@[simp] theorem rePredict_table (s : State) (k : ItemKey) : (rePredict s k).table = s.table := by
  unfold rePredict; (repeat' split) <;> rfl
@[simp] theorem rePredictJog_table (s : State) (ax : Axis) (n : Nat) : (rePredictJog s ax n).table = s.table := by
  unfold rePredictJog; split <;> rfl

@[simp] theorem runFresh_place (s : State) : (runFresh s).table.place = s.table.place := by
  unfold runFresh
  split
  · rw [rePredict_table]; exact Motion.direct_place _ _
  · rw [rePredictJog_table]; exact Motion.direct_place _ _
  · rfl
  · rfl

@[simp] theorem axesStand_place (s : State) : (axesStand s).table.place = s.table.place := by
  unfold axesStand
  split
  · rfl
  · (repeat' split) <;> simp [setOp] <;> rfl

@[simp] theorem testStand_place (s : State) : (testStand s).table.place = s.table.place := by
  unfold testStand; (repeat' split) <;> simp

/-- The end of a command leaves the place of the table alone. -/
theorem finish_place (atUp : Bool) (before s : State) : (finish atUp before s).table.place = s.table.place :=
  congrArg (fun w : Work => (w.x, w.y, w.phaseX, w.phaseY, w.homeValid)) (finish_work atUp before s)

/-- An operation of the table with another motion is MOVE or JOG as before. -/
theorem Operation.motion_withMotion {op : Operation} {m : Motion} (h : op.motion = some m) (v : Motion) :
    (op.withMotion v).motion = some v := by
  cases op <;> first | rfl | cases h

theorem Operation.ne_none_of_motion {op : Operation} {m : Motion} (h : op.motion = some m) : op ≠ .none := by
  rintro rfl
  cases h

/-! ### AXIS_STEP (O33) -/

theorem exec_axisStep_motion {s : State} {ax : Axis} {m : Motion} (hm : s.table.op.motion = some m)
    (hs : m.steps ax = true) : exec (.axisStep ax) s = .next (finish false s (stepMotion s ax m)) := by
  change execAxisStep ax s = _
  unfold execAxisStep
  split <;> rename_i hop <;> rw [hop] at hm <;> cases hm
  · exact if_pos hs
  · exact if_pos hs

theorem exec_axisStep_home {s : State} {ax : Axis} {h : HomeRun} (hop : s.table.op = .home h)
    (hi : (h.axis ax).interval.isSome = true) : exec (.axisStep ax) s = .next (finish false s (stepHome s ax h)) := by
  change execAxisStep ax s = _
  simp only [execAxisStep, hop, hi, if_true]

/-- A step of a MOVE or JOG before its axes are tested for standing (R79, R80). -/
def steppedOnce (s : State) (ax : Axis) (m : Motion) : State :=
  setOp ((s.setTable (s.table.setCounter ax (stepped (m.axis ax).up (s.table.counter ax)))).setInputs
    (s.inputs.afterStep ax (m.axis ax).up)) (s.table.op.withMotion (m.setAxis ax ((m.axis ax).next (ratesOf s ax))))

theorem stepMotion_eq (s : State) (ax : Axis) (m : Motion) : stepMotion s ax m = testStand (steppedOnce s ax m) := rfl

theorem stepMotion_place (s : State) (ax : Axis) (m : Motion) : (stepMotion s ax m).table.place =
    (s.table.setCounter ax (stepped (m.axis ax).up (s.table.counter ax))).place := by
  rw [stepMotion_eq, testStand_place]
  rfl

/-- While the axis has further steps the motion goes on. -/
theorem stepMotion_of_further {s : State} {ax : Axis} {m : Motion} (hm : s.table.op.motion = some m)
    (hd : ((m.axis ax).next (ratesOf s ax)).isDone = false) : stepMotion s ax m = steppedOnce s ax m := by
  rw [stepMotion_eq]
  refine testStand_of_moving (m := m.setAxis ax ((m.axis ax).next (ratesOf s ax))) (Operation.motion_withMotion hm _) ?_
  cases ax
  · exact .inl hd
  · exact .inr hd

theorem Table.counter_setCounter_same (t : Table) (ax : Axis) (n : Nat) : (t.setCounter ax n).counter ax = n := by
  cases ax <;> rfl

theorem Table.counter_setCounter_other (t : Table) {ax other : Axis} (h : other ≠ ax) (n : Nat) :
    (t.setCounter ax n).counter other = t.counter other := by
  cases ax <;> cases other <;> first | rfl | exact absurd rfl h

/-- Settles O33: a step moves its counter alone, and while the axis has further steps the next interval runs. -/
theorem axisStepsMoveTheCounter : Obligations.AxisStepsMoveTheCounter := by
  intro s ax
  refine ⟨fun m hm hs => ?counts, fun m hm hs hd => ?further, fun h hop hp hi => ?approach, fun h hop hp hi => ?search,
    fun hop => ?idle⟩
  case counts =>
    have hplace := (finish_place false s (stepMotion s ax m)).trans (stepMotion_place s ax m)
    refine ⟨_, exec_axisStep_motion hm hs, ?_, fun other ho => ?_, ?_, ?_, ?_⟩
    · rw [Table.counter_of_place hplace, Table.counter_setCounter_same]
      rfl
    · rw [Table.counter_of_place hplace, Table.counter_setCounter_other _ ho]
    · exact (congrArg (fun p => p.2.2.1) hplace).trans (by cases ax <;> rfl)
    · exact (congrArg (fun p => p.2.2.2.1) hplace).trans (by cases ax <;> rfl)
    · exact (congrArg (fun p => p.2.2.2.2) hplace).trans (by cases ax <;> rfl)
  case further =>
    have hstep := stepMotion_of_further hm hd
    have htable : (finish false s (steppedOnce s ax m)).table = (steppedOnce s ax m).table :=
      finish_table false s _ (Operation.ne_none_of_motion (Operation.motion_withMotion hm _))
    refine ⟨_, exec_axisStep_motion hm hs, ?_, ?_⟩
    · rw [hstep, htable]
      rfl
    · rw [finish_work, hstep, htable]
      cases ax <;> rfl
  case approach =>
    have hstep : stepHome s ax h = setOp (s.setInputs (s.inputs.afterStep ax false))
        (.home (h.setAxis ax { phase := .approach, interval := homeInterval s ax })) := by
      simp only [stepHome, hp, setHomeAxis, State.setInputs_table, hop]
    have htable : (finish false s (stepHome s ax h)).table = (stepHome s ax h).table :=
      finish_table false s _ (by rw [hstep]; exact nofun)
    refine ⟨_, exec_axisStep_home hop hi, ?_, ?_⟩
    · rw [htable, hstep]
      rfl
    · rw [finish_work, htable, hstep]
      rfl
  case search =>
    have hcount : ∀ n, (s.table.setCounter ax n).op = .home h := fun n => by cases ax <;> exact hop
    have hstep : stepHome s ax h = setOp ((s.setTable (s.table.setCounter ax (s.table.counter ax + 1))).setInputs
        (s.inputs.afterStep ax true)) (.home (h.setAxis ax
          (if travel s ax ≤ s.table.counter ax + 1 then { phase := .atTravel, interval := none }
           else { phase := .search, interval := homeInterval s ax }))) := by
      simp only [stepHome, hp, setHomeAxis, State.setInputs_table, State.setTable_table, hcount]
    have htable : (finish false s (stepHome s ax h)).table = (stepHome s ax h).table :=
      finish_table false s _ (by rw [hstep]; exact nofun)
    refine ⟨_, exec_axisStep_home hop hi, ?_, ?_⟩
    · rw [htable, hstep]
      exact Table.counter_setCounter_same _ _ _
    · rw [htable, hstep]
      rfl
  case idle =>
    change execAxisStep ax s = _
    simp only [execAxisStep, hop]

/-! ### SETTLE_EXPIRY (O34) -/

theorem exec_settleExpiry {s : State} {m : Motion} (hm : s.table.op.motion = some m) (hs : m.state = .settling)
    (ht : m.settle.isSome = true) : exec .settleExpiry s = .next (finish false s (completeMotion s)) := by
  change execSettleExpiry s = _
  simp only [execSettleExpiry, hm, hs, ht, true_and, if_true]

/-- Settles O34: a motion that settles completes. -/
theorem settleExpiryCompletesTheMotion : Obligations.SettleExpiryCompletesTheMotion := by
  intro s
  refine ⟨fun k m hop hs ht => ?move, fun ax c m hop hs ht => ?jog, fun hn => ?nothing⟩
  case move =>
    have hdone : completeMotion s = setLast (setOp s .none) { s.pose.last with x := m.tx, y := m.ty } := by
      simp only [completeMotion, hop]
    refine ⟨_, exec_settleExpiry (m := m) (by rw [hop]; rfl) hs ht, ?_, ?_⟩
    · rw [finish_work, hdone]
      simp only [State.work, hop]
      rfl
    · exact finish_idle_table false s _ (by rw [hdone]; rfl)
  case jog =>
    have hdone : completeMotion s = endJog
        (if s.table.homeValid then setLast s (s.pose.last.setAxis ax (m.target ax)) else s) ax m .reached := by
      simp only [completeMotion, hop]
    refine ⟨_, exec_settleExpiry (m := m) (by rw [hop]; rfl) hs ht, ?_, ?_⟩
    · rw [finish_work, hdone]
      split <;> rfl
    · refine List.IsPrefix.trans ?_ (finish_prefix false s _)
      rw [hdone]
      split <;> exact List.prefix_refl _
  case nothing =>
    change execSettleExpiry s = _
    unfold execSettleExpiry
    split
    case h_1 m hm => exact if_neg fun h => hn m hm h.1
    case h_2 => rfl

/-! ### ACTUATOR_IN_POSITION (O36) -/

theorem exec_inPosition {s : State} {a : Actuator} {v : Nat} (h : (s.stroke.act a).setting = some v) :
    exec (.actuatorInPosition a) s = .next (finish false s (reportPosition s a v)) := by
  change execActuatorInPosition a s = _
  simp only [execActuatorInPosition, h]

theorem testHome_stroke (s : State) : (testHome s).stroke = s.stroke := by
  unfold testHome; dsimp only; (repeat' split) <;> rfl

theorem markHome_stroke (s : State) (a : Actuator) : (markHome s a).stroke = s.stroke := by
  unfold markHome; split <;> rfl

theorem markHome_jam (s : State) (a : Actuator) : (markHome s a).jam = s.jam := by
  unfold markHome; split <;> rfl

theorem settleActuator_act (s : State) (a : Actuator) (v : Nat) :
    (settleActuator s a v).stroke.act a = { setting := none, timer := none, standsAt := some v } := by
  rw [settleActuator, takeValue_stroke, setActuator_act_same]

/-- The end of HOME makes an IDLE station READY; a station that does not produce does not produce after it (R91, R164). -/
theorem testHome_producing {s : State} (h : producing s = false) : producing (testHome s) = false := by
  unfold testHome
  split
  · split
    · dsimp only
      split
      · rfl
      · exact h
    · exact h
  · exact h

theorem reportPosition_act (s : State) (a : Actuator) (v : Nat) :
    (reportPosition s a v).stroke.act a = { setting := none, timer := none, standsAt := some v } := by
  unfold reportPosition
  dsimp only
  split
  · split
    · rw [testHome_stroke, markHome_stroke, settleActuator_act]
    · exact settleActuator_act s a v
  · exact settleActuator_act s a v

theorem reportPosition_producing {s : State} (h : producing s = false) (a : Actuator) (v : Nat) :
    producing (reportPosition s a v) = false := by
  have hs : producing (settleActuator s a v) = false := by
    rw [← h]; simp only [producing, settleActuator, takeValue_jam, setActuator_jam]
  unfold reportPosition
  dsimp only
  split
  · split
    · refine testHome_producing ?_
      rw [← hs]; simp only [producing, markHome_jam]
    · exact hs
  · exact hs

theorem reportPosition_of_not_home {s : State} (h : ∀ r, s.table.op ≠ .home r) (a : Actuator) (v : Nat) :
    reportPosition s a v = settleActuator s a v := by
  unfold reportPosition
  dsimp only
  split
  · rename_i r hr
    exact absurd hr (by rw [settleActuator, takeValue_table]; exact h r)
  · rfl

/-- The value an actuator reported is taken into the last settled pose, in a halt only while the record is valid (R107). -/
theorem settleActuator_work (s : State) (a : Actuator) (v : Nat) : (settleActuator s a v).work =
    { s.work with last := if s.pose.last.valid = true ∨ (s.jam.run ≠ .halting ∧ s.jam.run ≠ .halted)
                          then s.pose.last.setValue a v else s.pose.last } := by
  have hcond : ((setActuator s a { setting := none, timer := none, standsAt := some v }).pose.last.valid ||
      !halted (setActuator s a { setting := none, timer := none, standsAt := some v })) = true ↔
      (s.pose.last.valid = true ∨ (s.jam.run ≠ .halting ∧ s.jam.run ≠ .halted)) := by
    simp [halted]
  rw [settleActuator, takeValue]
  split
  case isTrue h =>
    rw [if_pos (hcond.mp h)]
    cases a <;> rfl
  case isFalse h =>
    rw [if_neg fun e => h (hcond.mpr e), setActuator_work]
    rfl

/-- Settles O36: a report ends the setting, and outside HOME the last settled pose takes its value. -/
theorem anInPositionReportEndsTheSetting : Obligations.AnInPositionReportEndsTheSetting := by
  intro s a
  refine ⟨fun v hv hh => ⟨_, exec_inPosition hv, ?_⟩, fun v hv hp => ⟨_, exec_inPosition hv, ?_⟩, fun hn => ?_⟩
  · rw [finish_work, reportPosition_of_not_home hh, settleActuator_work]
  · have hact := NotAiming.finish_act (.inl (reportPosition_producing hp a v)) false s a
    rw [hact, reportPosition_act]
    exact ⟨rfl, rfl⟩
  · change execActuatorInPosition a s = _
    simp only [execActuatorInPosition, hn]

/-! ### The guard (O37) -/

theorem exec_guardOpen {s : State} (h : s.inputs.guardOpen = false) :
    exec .guardOpen s = .next (finish false s (openGuard s)) := by
  change execGuardOpen s = _
  simp only [execGuardOpen, h, Bool.false_eq_true, if_false]

theorem exec_guardClose {s : State} (h : s.inputs.guardOpen = true) :
    exec .guardClose s = .next (finish false s (closeGuard s)) := by
  change execGuardClose s = _
  simp only [execGuardClose, h, if_true]

/-- The levels of the inputs but the index hold line's after the end of a command. -/
theorem finish_guard (atUp : Bool) (before s : State) : (finish atUp before s).inputs.guardOpen = s.inputs.guardOpen :=
  congrArg (fun w : Work => w.levels.guardOpen) (finish_work atUp before s)

@[simp] theorem commandWanted_table (p : Pose) (flip : Bool) (s : State) (a : Actuator) :
    (commandWanted p flip s a).table = s.table := by
  unfold commandWanted; split <;> rfl
@[simp] theorem commandWanted_work (p : Pose) (flip : Bool) (s : State) (a : Actuator) :
    (commandWanted p flip s a).work = s.work := by
  unfold commandWanted
  split
  · exact setActuator_work _ _ _
  · rfl
@[simp] theorem commandWanted_inputs (p : Pose) (flip : Bool) (s : State) (a : Actuator) :
    (commandWanted p flip s a).inputs = s.inputs := by
  unfold commandWanted; split <;> rfl
@[simp] theorem commandWanted_motion (p : Pose) (flip : Bool) (s : State) (a : Actuator) :
    (commandWanted p flip s a).stroke.motion = s.stroke.motion := by
  unfold commandWanted
  split
  · exact setActuator_motion _ _ _
  · rfl

theorem foldl_commandWanted {α : Type} (g : State → α) (p : Pose) (flip : Bool)
    (hg : ∀ s a, g (commandWanted p flip s a) = g s) (l : List Actuator) (s : State) :
    g (l.foldl (commandWanted p flip) s) = g s := by
  induction l generalizing s with
  | nil => rfl
  | cons a rest ih => exact (ih _).trans (hg s a)

/-- What the actuators kept back leave alone (R106, R114). -/
theorem commandKept_congr {α : Type} (g : State → α) (hk : ∀ s : State, g (s.setStroke { s.stroke with keptBack := [] }) = g s)
    (hg : ∀ p flip s a, g (commandWanted p flip s a) = g s) (s : State) : g (commandKept s) = g s := by
  unfold commandKept
  dsimp only
  split
  · split
    · exact (foldl_commandWanted g _ _ (hg _ _) _ _).trans (hk s)
    · exact hk s
  · exact hk s
  · exact hk s

@[simp] theorem commandKept_table (s : State) : (commandKept s).table = s.table :=
  commandKept_congr (fun t => t.table) (fun _ => rfl) (fun p f t a => commandWanted_table p f t a) s
@[simp] theorem commandKept_inputs (s : State) : (commandKept s).inputs = s.inputs :=
  commandKept_congr (fun t => t.inputs) (fun _ => rfl) (fun p f t a => commandWanted_inputs p f t a) s
@[simp] theorem commandKept_work (s : State) : (commandKept s).work = s.work :=
  commandKept_congr (fun t => t.work) (fun _ => rfl) (fun p f t a => commandWanted_work p f t a) s
@[simp] theorem commandKept_motion (s : State) : (commandKept s).stroke.motion = s.stroke.motion :=
  commandKept_congr (fun t => t.stroke.motion) (fun _ => rfl) (fun p f t a => commandWanted_motion p f t a) s

@[simp] theorem resumeShaft_table (s : State) : (resumeShaft s).table = s.table := by
  unfold resumeShaft; (repeat' split) <;> rfl
@[simp] theorem resumeShaft_inputs (s : State) : (resumeShaft s).inputs = s.inputs := by
  unfold resumeShaft; (repeat' split) <;> rfl

theorem resumeShaft_work {s : State} (h : s.stroke.restoreHeld = false) : (resumeShaft s).work = s.work := by
  unfold resumeShaft
  rw [h]
  split <;> rfl

/-- A motion that is not stepping stays as it is when the guard opens (R84). -/
theorem guardTable_of_standing {s : State} (h : ∀ m, s.table.op.motion = some m → m.state ≠ .stepping) : guardTable s = s := by
  unfold guardTable
  split
  case h_1 m hm => exact if_neg (h m hm)
  case h_2 => rfl

theorem runFresh_op {s : State} {m : Motion} (hm : s.table.op.motion = some m) :
    (runFresh s).table.op = s.table.op.withMotion (freshMotion s m.tx m.ty) := by
  have hdirect : ∀ t : Table, ((freshMotion s m.tx m.ty).direct t).op = t.op :=
    fun t => ((freshMotion s m.tx m.ty).direct_counters t).2.2.2.2.2
  unfold runFresh
  split <;> rename_i hop <;> rw [hop] at hm <;> cases hm
  · rw [rePredict_table, State.setTable_table, hdirect, hop]
    rfl
  · rw [rePredictJog_table, State.setTable_table, hdirect, hop]
    rfl

theorem runFresh_inputs (s : State) : (runFresh s).inputs = s.inputs := by
  unfold runFresh rePredict rePredictJog; dsimp only; (repeat' split) <;> rfl

/-- A HELD motion runs afresh when the guard closes, unless its axes stand at the target (R85). -/
theorem resumeTable_of_held {s : State} {m : Motion} (hm : s.table.op.motion = some m) (hh : m.state = .held)
    (hd : (freshMotion s m.tx m.ty).x.isDone = false ∨ (freshMotion s m.tx m.ty).y.isDone = false) :
    resumeTable s = runFresh s := by
  have hstand : testStand (runFresh s) = runFresh s :=
    testStand_of_moving (m := freshMotion s m.tx m.ty) (by rw [runFresh_op hm]; exact Operation.motion_withMotion hm _) hd
  unfold resumeTable
  split <;> rename_i hop <;> rw [hop] at hm <;> cases hm
  · rw [hh]
  · rw [hh]
    exact hstand

/-- Settles O37: the guard's opening brakes a motion, its closing resumes it and takes a clamp change kept back. -/
theorem theGuardStopsAndResumesMotion : Obligations.TheGuardStopsAndResumesMotion := by
  intro s
  refine ⟨fun hg => ?_, fun hg => ?_, fun hg hs => ?standing, fun hg m hm hs => ?stepping, fun hg hop hr => ?closing,
    fun hg m hm hh hd => ?resuming⟩
  · change execGuardOpen s = _
    exact if_pos hg
  · change execGuardClose s = _
    exact if_neg (by simp [hg])
  case standing =>
    have hopen : openGuard s = (s.setInputs { s.inputs with guardOpen := true }).setStroke
        { s.stroke with gateTimer := none } := by
      rw [openGuard, guardTable_of_standing (s := s.setInputs { s.inputs with guardOpen := true }) hs]
      rfl
    refine ⟨_, exec_guardOpen hg, ?_, finish_gateTimer false s rfl⟩
    rw [finish_work, hopen]
    rfl
  case stepping =>
    have hbrake : guardTable (s.setInputs { s.inputs with guardOpen := true }) =
        setOp (s.setInputs { s.inputs with guardOpen := true }) (s.table.op.withMotion (m.brake s)) := by
      unfold guardTable
      rw [State.setInputs_table, hm]
      exact if_pos hs
    have htable : (openGuard s).table = { s.table with op := s.table.op.withMotion (m.brake s) } := by
      simp only [openGuard, hbrake]
      rfl
    have hfin : (finish false s (openGuard s)).table = (openGuard s).table := finish_table false s _ (by
      rw [htable]
      exact Operation.ne_none_of_motion (Operation.motion_withMotion hm _))
    refine ⟨_, exec_guardOpen hg, ?_, ?_, ?_, ?_⟩
    · rw [finish_guard, openGuard, hbrake]
      rfl
    · rw [hfin, htable]
    · rw [hfin, htable]
    · rw [hfin, htable, Motion.brake, hs]
  case closing =>
    have hclamp : setClamp (s.setInputs { s.inputs with guardOpen := false }) s.boards.clampWanted =
        (s.setBoards { s.boards with clampOut := s.boards.clampWanted }).setInputs { s.inputs with
          guardOpen := false, clampClosed := s.inputs.clampClosed && s.boards.clampWanted } := rfl
    have hresume : resumeTable (setClamp (s.setInputs { s.inputs with guardOpen := false }) s.boards.clampWanted) =
        setClamp (s.setInputs { s.inputs with guardOpen := false }) s.boards.clampWanted := by
      rw [hclamp]
      simp only [resumeTable, State.setInputs_table, State.setBoards_table, hop]
    have hheld : (commandKept (setClamp (s.setInputs { s.inputs with guardOpen := false })
        s.boards.clampWanted)).stroke.restoreHeld = false :=
      (congrArg Stroke.restoreHeld
        (commandKept_motion (setClamp (s.setInputs { s.inputs with guardOpen := false }) s.boards.clampWanted))).trans hr
    refine ⟨_, exec_guardClose hg, ?_⟩
    rw [finish_work, closeGuard, hresume, resumeShaft_work hheld, commandKept_work, hclamp]
    rfl
  case resuming =>
    have hresume : resumeTable (setClamp (s.setInputs { s.inputs with guardOpen := false }) s.boards.clampWanted) =
        runFresh (setClamp (s.setInputs { s.inputs with guardOpen := false }) s.boards.clampWanted) :=
      resumeTable_of_held hm hh hd
    have htable : (closeGuard s).table.op = s.table.op.withMotion (freshMotion s m.tx m.ty) := by
      rw [closeGuard, resumeShaft_table, commandKept_table, hresume]
      exact runFresh_op (s := setClamp (s.setInputs { s.inputs with guardOpen := false }) s.boards.clampWanted) hm
    refine ⟨_, exec_guardClose hg, ?_, ?_⟩
    · rw [finish_guard, closeGuard, resumeShaft_inputs, commandKept_inputs, hresume, runFresh_inputs]
      rfl
    · rw [finish_table _ _ _ (by rw [htable]; exact Operation.ne_none_of_motion (Operation.motion_withMotion hm _)), htable]

end Sys2Proof.Machine
end

section
/-! SUPPORT. What a STOP alarm does and leaves alone (R86, R115, R169): the brake of the shaft, the drops it abandons, the end of
the table operation, the run state and the entry in the list. -/

namespace Sys2Proof.Machine

/-! ### What the head and its drops change -/

/-- From `s` to `t` nothing changes but the stroke controller, the dispenser records, the clips, the contexts, the urgent queue
and the reports. -/
structure OnHead (s t : State) : Prop where
  store : t.store = s.store
  planner : t.planner = s.planner
  pose : t.pose = s.pose
  table : t.table = s.table
  jam : t.jam = s.jam
  inputs : t.inputs = s.inputs
  pending : t.pending = s.pending
  chain : t.chain = { s.chain with clips := t.chain.clips }
  length : t.chain.clips.length = s.chain.clips.length
  boards : t.boards = { s.boards with slots := t.boards.slots }
  line : t.line = { s.line with urgent := t.line.urgent }
  console : t.console = { s.console with
    reports := t.console.reports, overflow := t.console.overflow, nextReport := t.console.nextReport }

/-- From `s` to `t` nothing changes but the dispenser records, the clips, the contexts, the urgent queue and the reports. -/
structure OnDrops (s t : State) : Prop extends OnHead s t where
  stroke : t.stroke = s.stroke

theorem OnHead.refl (s : State) : OnHead s s := ⟨rfl, rfl, rfl, rfl, rfl, rfl, rfl, rfl, rfl, rfl, rfl, rfl⟩

theorem OnHead.trans {s t u : State} (h : OnHead s t) (g : OnHead t u) : OnHead s u where
  store := g.store.trans h.store
  planner := g.planner.trans h.planner
  pose := g.pose.trans h.pose
  table := g.table.trans h.table
  jam := g.jam.trans h.jam
  inputs := g.inputs.trans h.inputs
  pending := g.pending.trans h.pending
  chain := by rw [g.chain, h.chain]
  length := g.length.trans h.length
  boards := by rw [g.boards, h.boards]
  line := by rw [g.line, h.line]
  console := by rw [g.console, h.console]

theorem OnHead.setStroke (s : State) (k : Stroke) : OnHead s (s.setStroke k) :=
  ⟨rfl, rfl, rfl, rfl, rfl, rfl, rfl, rfl, rfl, rfl, rfl, rfl⟩

theorem OnHead.setClip (s : State) (pos : Nat) (c : Clip) : OnHead s (setClip s pos c) :=
  ⟨rfl, rfl, rfl, rfl, rfl, rfl, rfl, rfl, List.length_set, rfl, rfl, rfl⟩

theorem OnHead.modDisp (s : State) (d : Nat) (f : Dispenser → Dispenser) : OnHead s (modDisp s d f) :=
  ⟨rfl, rfl, rfl, rfl, rfl, rfl, rfl, rfl, rfl, rfl, rfl, rfl⟩

theorem OnContexts.onDrops {s t : State} (h : OnContexts s t) : OnDrops s t where
  store := h.store
  planner := h.planner
  pose := h.pose
  table := h.table
  jam := h.jam
  inputs := h.inputs
  pending := h.pending
  chain := by rw [h.chain]
  length := by rw [h.chain]
  boards := h.boards
  line := h.line
  console := h.console
  stroke := h.stroke

theorem OnContexts.onHead {s t : State} (h : OnContexts s t) : OnHead s t := h.onDrops.toOnHead

theorem OnDrops.refl (s : State) : OnDrops s s := ⟨.refl s, rfl⟩

theorem OnDrops.trans {s t u : State} (h : OnDrops s t) (g : OnDrops t u) : OnDrops s u :=
  ⟨h.toOnHead.trans g.toOnHead, g.stroke.trans h.stroke⟩

theorem OnDrops.setClip (s : State) (pos : Nat) (c : Clip) : OnDrops s (setClip s pos c) := ⟨.setClip s pos c, rfl⟩

theorem OnDrops.modDisp (s : State) (d : Nat) (f : Dispenser → Dispenser) : OnDrops s (modDisp s d f) := ⟨.modDisp s d f, rfl⟩

theorem OnDrops.foldl {α : Type} {f : State → α → State} (h : ∀ s a, OnDrops s (f s a)) (l : List α) (s : State) :
    OnDrops s (l.foldl f s) := by
  induction l generalizing s with
  | nil => exact .refl s
  | cons a rest ih => exact (h s a).trans (ih _)

theorem OnDrops.handReturned (s : State) (slot : Nat) (k : ItemKey) (o : Origin) : OnDrops s (handReturned s slot k o) :=
  (OnSlot.handReturned s slot k o).toOnContexts.onDrops

theorem OnDrops.abandonDrop (s : State) (pos d : Nat) : OnDrops s (abandonDrop s pos d) := by
  have hend : OnDrops s (endDrop s pos d) := .modDisp s d _
  unfold Machine.abandonDrop
  dsimp only
  split
  · exact (hend.trans (.setClip _ pos _)).trans (.handReturned _ _ _ _)
  · exact hend.trans (.setClip _ pos _)
  · exact hend

/-- The drops and plans given up at a brake applied at once (R29, R52). -/
theorem OnDrops.abandonDrops (s : State) : OnDrops s (abandonDrops s) :=
  ((OnDrops.foldl (fun s (x : Nat × Nat) => .abandonDrop s x.1 x.2) _ s).trans
    (.foldl (fun s (x : Nat × ClipItem) => .setClip s x.1 _) _ _)).trans (OnContexts.handReverted _ _ _).onDrops

theorem OnContexts.countSuspect (s : State) (board : Option Nat) : OnContexts s (countSuspect s board) := by
  unfold Machine.countSuspect
  split
  · exact (OnSlot.modCtx s _ _).toOnContexts
  · exact .refl s

theorem OnContexts.countEjected (s : State) (board : Option Nat) : OnContexts s (countEjected s board) := by
  unfold Machine.countEjected
  split
  · exact (OnSlot.modCtx s _ _).toOnContexts
  · exact .refl s

/-! ### The brake of the shaft -/

theorem OnHead.wasteJaw (s : State) : OnHead s (wasteJaw s) := .setStroke s _

theorem OnHead.returnJaw (s : State) : OnHead s (returnJaw s) := by
  unfold Machine.returnJaw
  split
  · exact (OnHead.wasteJaw s).trans (OnDrops.handReturned _ _ _ _).toOnHead
  · exact .wasteJaw s
  · exact .refl s

theorem OnHead.jawAtBrake (s : State) (r : Revolution) : OnHead s (jawAtBrake s r) := by
  unfold Machine.jawAtBrake
  split
  · split_ifs
    · exact .returnJaw s
    · exact .setStroke s _
    · exact (OnHead.setStroke s _).trans (OnContexts.countSuspect _ _).onHead
  · exact .refl s

theorem OnHead.jawAtHalt (s : State) (r : Revolution) (slip : Bool) : OnHead s (jawAtHalt s r slip) := by
  unfold Machine.jawAtHalt
  split
  · split
    · exact .returnJaw s
    · exact .setStroke s _
    · exact .setStroke s _
  · exact .refl s

theorem OnHead.brakeShaft (s : State) : OnHead s (brakeShaft s) := .setStroke s _

theorem OnHead.haltShaft (s : State) (c : AlarmClass) : OnHead s (haltShaft s c) := by
  unfold Machine.haltShaft
  split
  · exact .brakeShaft s
  · split
    · exact .refl s
    · split
      · have hb := (OnHead.jawAtBrake s ‹_›).trans (.brakeShaft _)
        split
        · exact hb
        · exact hb.trans (OnDrops.abandonDrops _).toOnHead
      · exact .jawAtHalt s _ _

/-- A brake applied at once stops the shaft and removes the revolution (R115). -/
theorem haltShaft_atOnce {s : State} {c : AlarmClass} (hc : c.atOnce = true)
    (hr : s.stroke.shaft = .restoring ∨ s.stroke.rev.isSome = true) :
    (haltShaft s c).stroke.shaft = .stopped ∧ (haltShaft s c).stroke.rev = none := by
  unfold haltShaft
  split
  case isTrue => exact ⟨rfl, rfl⟩
  case isFalse hn =>
    split
    case h_1 hnone =>
      rcases hr with h | h
      · exact absurd h hn
      · rw [hnone] at h
        cases h
    case h_2 =>
      dsimp only
      split
      · exact ⟨rfl, rfl⟩
      · rw [(OnDrops.abandonDrops _).stroke]
        exact ⟨rfl, rfl⟩

/-! ### The end of the table operation -/

/-- From `s` to `t` nothing changes but the table operation, the positioning record and the reports. -/
structure OnMotion (s t : State) : Prop where
  store : t.store = s.store
  disp : t.disp = s.disp
  chain : t.chain = s.chain
  planner : t.planner = s.planner
  stroke : t.stroke = s.stroke
  boards : t.boards = s.boards
  line : t.line = s.line
  jam : t.jam = s.jam
  inputs : t.inputs = s.inputs
  pending : t.pending = s.pending
  place : t.table.place = s.table.place
  last : t.pose.last = s.pose.last

theorem OnMotion.refl (s : State) : OnMotion s s := ⟨rfl, rfl, rfl, rfl, rfl, rfl, rfl, rfl, rfl, rfl, rfl, rfl⟩

theorem OnMotion.setOp (s : State) (op : Operation) : OnMotion s (setOp s op) :=
  ⟨rfl, rfl, rfl, rfl, rfl, rfl, rfl, rfl, rfl, rfl, rfl, rfl⟩

theorem OnMotion.endMotion (s : State) (o : JogOutcome) : OnMotion s (endMotion s o) := by
  unfold Machine.endMotion
  split
  · exact ⟨rfl, rfl, rfl, rfl, rfl, rfl, rfl, rfl, rfl, rfl, rfl, rfl⟩
  · exact .setOp s _
  · exact .refl s
  · exact .setOp s _

theorem OnMotion.haltTable (s : State) (slip : Bool) : OnMotion s (haltTable s slip) := by
  unfold Machine.haltTable
  split
  · exact .endMotion s _
  · split
    · split <;> first | exact .setOp s _ | exact .endMotion s _
    · exact .endMotion s _

theorem endMotion_op (s : State) (o : JogOutcome) : (endMotion s o).table.op = .none := by
  unfold endMotion
  split
  · rfl
  · rfl
  · assumption
  · rfl

/-- TABLE_SLIP ends every operation, and so does any STOP alarm in HOME (R86, R88, R91). -/
theorem haltTable_op {s : State} {slip : Bool} (h : slip = true ∨ s.table.op.motion = none) :
    (haltTable s slip).table.op = .none := by
  unfold haltTable
  split
  · exact endMotion_op s _
  · rename_i hslip
    rcases h with h | h
    · exact absurd h hslip
    · rw [h]
      exact endMotion_op s _

/-! ### The alarm, the run state and what becomes invalid -/

theorem haltRun_eq (s : State) : haltRun s = s.setJam (haltRun s).jam := by
  unfold haltRun
  split <;> rfl

theorem haltRun_alarms (s : State) : (haltRun s).jam.alarms = s.jam.alarms := by
  unfold haltRun; split <;> rfl

theorem haltRun_of_running {s : State}
    (h : s.jam.run = .idle ∨ s.jam.run = .ready ∨ s.jam.run = .running ∨ s.jam.run = .stopping) :
    (haltRun s).jam.run = .halting ∧ (haltRun s).jam.qualifier = none := by
  unfold haltRun
  rcases h with h | h | h | h <;> rw [h] <;> exact ⟨rfl, rfl⟩

/-- A STOP alarm at a configured station leaves it HALTING or HALTED (R169). -/
theorem haltRun_of_configured {s : State} (h : s.jam.run ≠ .unconfigured) :
    (haltRun s).jam.run = .halting ∨ (haltRun s).jam.run = .halted := by
  unfold haltRun
  cases hr : s.jam.run <;> simp_all

/-- The block states that a STOP alarm's first part leaves: all but the alarm list with the run state, the home, the last
settled pose and the records of the actuators (R72, R88, R107, R169). -/
structure OnAlarm (s t : State) : Prop where
  store : t.store = s.store
  disp : t.disp = s.disp
  chain : t.chain = s.chain
  planner : t.planner = s.planner
  motion : t.stroke.motion = s.stroke.motion
  boards : t.boards = s.boards
  line : t.line = s.line
  console : t.console = s.console
  inputs : t.inputs = s.inputs
  pending : t.pending = s.pending
  table : t.table = { s.table with homeValid := t.table.homeValid }

/-- What a STOP alarm does before the blocks halt. -/
def raiseStop (s : State) (c : AlarmClass) (src : AlarmSource) : State := invalidate (haltRun (enterAlarm s c src)) c src

theorem invalidate_jam (s : State) (c : AlarmClass) (src : AlarmSource) : (invalidate s c src).jam = s.jam := by
  unfold invalidate
  split
  · dsimp only; split <;> rfl
  · rfl

theorem raiseStop_onAlarm (s : State) (c : AlarmClass) (src : AlarmSource) : OnAlarm s (raiseStop s c src) := by
  obtain ⟨j, hj⟩ : ∃ j, haltRun (enterAlarm s c src) = s.setJam j := ⟨_, haltRun_eq _⟩
  unfold raiseStop
  rw [hj]
  unfold invalidate
  split
  · dsimp only
    split
    · exact ⟨rfl, rfl, rfl, rfl, setActuator_motion _ _ _, rfl, rfl, rfl, rfl, rfl, rfl⟩
    · exact ⟨rfl, rfl, rfl, rfl, rfl, rfl, rfl, rfl, rfl, rfl, rfl⟩
  · exact ⟨rfl, rfl, rfl, rfl, rfl, rfl, rfl, rfl, rfl, rfl, rfl⟩

/-- TABLE_SLIP and ACTUATOR_FAULT make the home and the last settled pose invalid (R72, R88, R107). -/
theorem raiseStop_invalid (s : State) {c : AlarmClass} (src : AlarmSource) (h : c = .tableSlip ∨ c = .actuatorFault) :
    (raiseStop s c src).table.homeValid = false ∧ (raiseStop s c src).pose.last.valid = false := by
  unfold raiseStop invalidate
  rw [if_pos h]
  dsimp only
  split <;> exact ⟨rfl, rfl⟩

theorem stopAlarm_eq (s : State) {c : AlarmClass} (src : AlarmSource) (h : c ≠ .chainStall) :
    stopAlarm s c src = haltShaft (haltTable (raiseStop s c src) (c == .tableSlip)) c := by
  rw [stopAlarm]
  exact if_neg h

theorem stopAlarm_chainStall (s : State) (src : AlarmSource) :
    stopAlarm s .chainStall src =
      stallChain ((haltShaft (haltTable (raiseStop s .chainStall src) false) .chainStall).setStroke
        { (haltShaft (haltTable (raiseStop s .chainStall src) false) .chainStall).stroke with
          chainStep := .none, chainTimer := none, chainDriveOut := false }) := rfl

/-- CHAIN_STALL makes the chain unknown; the items of its live clips go back to their boards (R42). -/
theorem stallChain_onContexts (s : State) : OnContexts (makeUnknown s) (stallChain s) :=
  .foldl (fun s (i : ClipItem) => (OnSlot.handReturned s i.board i.key i.origin).toOnContexts) _ _

/-- The run state and the list after a STOP alarm: those of its first part (R169). -/
theorem stopAlarm_jam (s : State) (c : AlarmClass) (src : AlarmSource) : ∃ n,
    (stopAlarm s c src).jam = { (haltRun (enterAlarm s c src)).jam with purgeCount := n } := by
  have hfirst : (haltShaft (haltTable (raiseStop s c src) (c == .tableSlip)) c).jam = (haltRun (enterAlarm s c src)).jam := by
    rw [(OnHead.haltShaft _ _).jam, (OnMotion.haltTable _ _).jam, raiseStop, invalidate_jam]
  by_cases hc : c = .chainStall
  · subst hc
    refine ⟨0, ?_⟩
    rw [stopAlarm_chainStall, (stallChain_onContexts _).jam, ← hfirst]
    rfl
  · refine ⟨(haltRun (enterAlarm s c src)).jam.purgeCount, ?_⟩
    rw [stopAlarm_eq s src hc, hfirst]

/-- A STOP alarm entered in a list with room (R175). -/
theorem enterAlarm_stop {s : State} {c : AlarmClass} (src : AlarmSource) (hc : c.stop = true) (h : s.jam.alarms.length < 16) :
    (enterAlarm s c src).jam = s.jam.append s.jam.alarms c src s.stroke.revCount := by
  simp only [enterAlarm, State.setJam_jam, Jam.enter, hc, if_true, Jam.add]
  exact if_pos h

theorem enterAlarm_run (s : State) (c : AlarmClass) (src : AlarmSource) : (enterAlarm s c src).jam.run = s.jam.run := by
  simp only [enterAlarm, State.setJam_jam, Jam.enter_run]

theorem finish_qualifier_none (atUp : Bool) (before : State) {s : State} (h : s.jam.qualifier = none) :
    (finish atUp before s).jam.qualifier = none := by
  have hr : (releaseGate (aim atUp before (testFinished s))).jam = s.jam := by simp
  rw [finish, statusOnChange_jam, updateHold_qualifier, dropStale_jam]
  unfold completeRun
  (repeat' split) <;> first | rfl | (rw [hr]; exact h)

/-- A STOP alarm halts a station in IDLE, READY, RUNNING or STOPPING whose list has room (R169, R175). `u` is the state in which
it is raised. -/
theorem finish_stopAlarm_haltedBy {s u : State} {c : AlarmClass} (src : AlarmSource) (atUp : Bool) (before : State)
    (hc : c.stop = true) (hroom : s.jam.alarms.length < 16)
    (hrun : s.jam.run = .idle ∨ s.jam.run = .ready ∨ s.jam.run = .running ∨ s.jam.run = .stopping)
    (hj : u.jam = s.jam) (hn : u.stroke.revCount = s.stroke.revCount) :
    HaltedBy s (finish atUp before (stopAlarm u c src)) c src := by
  obtain ⟨n, hjam⟩ := stopAlarm_jam u c src
  obtain ⟨hr, hq⟩ := haltRun_of_running (s := enterAlarm u c src) (by rw [enterAlarm_run, hj]; exact hrun)
  have hlist : (stopAlarm u c src).jam.alarms = (u.jam.append u.jam.alarms c src u.stroke.revCount).alarms := by
    rw [hjam]
    exact (haltRun_alarms _).trans (congrArg Jam.alarms (enterAlarm_stop src hc (by rw [hj]; exact hroom)))
  refine ⟨?_, ?_, freeNumber (s.jam.alarms.map (·.number)) s.jam.nextNumber 17, ?_⟩
  · exact finish_halting atUp before _ (by rw [hjam]; exact hr)
  · exact finish_qualifier_none atUp before (by rw [hjam]; exact hq)
  · rw [finish_work]
    simp only [State.work, hlist, Jam.append, hj, hn, List.filter_append]
    simp [hc]

end Sys2Proof.Machine
end

section
/-! PROOF. O35 and O38: index marks, home inputs, and the expiries that raise STOP alarms (R87 to R91, R97, R104, R107, R109,
R128). -/

namespace Sys2Proof.Machine

/-! ### A STOP alarm's end of the command, projected -/

theorem OnAlarm.inputs_place {s t : State} (h : OnAlarm s t) : t.table.x = s.table.x ∧ t.table.y = s.table.y ∧
    t.table.op = s.table.op := by
  rw [h.table]
  exact ⟨rfl, rfl, rfl⟩

section
variable {s : State} {c : AlarmClass} (src : AlarmSource)

/-- The counters stay at a STOP alarm. -/
theorem stopAlarm_counters (hc : c ≠ .chainStall) :
    (stopAlarm s c src).table.x = s.table.x ∧ (stopAlarm s c src).table.y = s.table.y := by
  obtain ⟨hx, hy, -⟩ := (raiseStop_onAlarm s c src).inputs_place
  have hplace := (OnMotion.haltTable (raiseStop s c src) (c == .tableSlip)).place
  rw [stopAlarm_eq s src hc, (OnHead.haltShaft _ _).table]
  exact ⟨(congrArg (fun p => p.1) hplace).trans hx, (congrArg (fun p => p.2.1) hplace).trans hy⟩

/-- A STOP alarm that makes the home and the last settled pose invalid (R72, R88, R107). -/
theorem stopAlarm_invalid (h : c = .tableSlip ∨ c = .actuatorFault) :
    (stopAlarm s c src).table.homeValid = false ∧ (stopAlarm s c src).pose.last.valid = false := by
  obtain ⟨hh, hl⟩ := raiseStop_invalid s src h
  have hmotion := OnMotion.haltTable (raiseStop s c src) (c == .tableSlip)
  have hhead := OnHead.haltShaft (haltTable (raiseStop s c src) (c == .tableSlip)) c
  rw [stopAlarm_eq s src (by rcases h with h | h <;> rw [h] <;> decide)]
  refine ⟨?_, ?_⟩
  · rw [hhead.table]
    exact (congrArg (fun p => p.2.2.2.2) hmotion.place).trans hh
  · rw [hhead.pose, hmotion.last]
    exact hl

theorem stopAlarm_op (hc : c ≠ .chainStall) (h : c = .tableSlip ∨ s.table.op.motion = none) :
    (stopAlarm s c src).table.op = .none := by
  rw [stopAlarm_eq s src hc, (OnHead.haltShaft _ _).table]
  refine haltTable_op (h.imp (fun e => by simp [e]) fun e => ?_)
  rw [(raiseStop_onAlarm s c src).inputs_place.2.2, e]

theorem stopAlarm_transfer (hc : c ≠ .chainStall) : (stopAlarm s c src).boards.transfer = s.boards.transfer := by
  rw [stopAlarm_eq s src hc, (OnHead.haltShaft _ _).boards, (OnMotion.haltTable _ _).boards, (raiseStop_onAlarm s c src).boards]

end

/-- The parts of the state after the end of a command that come from the work alone. -/
theorem finish_requested (atUp : Bool) (before s : State) :
    (finish atUp before s).table.op.requested = s.table.op.requested :=
  congrArg Work.requested (finish_work atUp before s)

theorem finish_last (atUp : Bool) (before s : State) : (finish atUp before s).pose.last = s.pose.last :=
  congrArg Work.last (finish_work atUp before s)

theorem finish_homeValid (atUp : Bool) (before s : State) : (finish atUp before s).table.homeValid = s.table.homeValid :=
  congrArg Work.homeValid (finish_work atUp before s)

theorem finish_transfer (atUp : Bool) (before s : State) : (finish atUp before s).boards.transfer = s.boards.transfer :=
  congrArg Work.transfer (finish_work atUp before s)

theorem finish_chain (atUp : Bool) (before s : State) : (finish atUp before s).chain = s.chain :=
  congrArg Work.chain (finish_work atUp before s)

theorem finish_purgeCount (atUp : Bool) (before s : State) : (finish atUp before s).jam.purgeCount = s.jam.purgeCount :=
  congrArg Work.purgeCount (finish_work atUp before s)

/-! ### INDEX_MARK and HOME_INPUT (O35) -/

theorem phaseDistance_le_two {c p d : Nat} (hd : d ≤ 2) (h : (c + d) % 1024 = p ∨ (p + d) % 1024 = c % 1024) :
    phaseDistance c p ≤ 2 := by
  unfold phaseDistance distance
  dsimp only
  omega

theorem two_lt_phaseDistance {c p : Nat} (hp : p < 1024)
    (h : ∀ d, d ≤ 2 → (c + d) % 1024 ≠ p ∧ (p + d) % 1024 ≠ c % 1024) : 2 < phaseDistance c p := by
  have h0 := h 0 (by omega)
  have h1 := h 1 (by omega)
  have h2 := h 2 (by omega)
  unfold phaseDistance distance
  dsimp only
  omega

theorem exec_indexMark_passes {s : State} {ax : Axis} (h : indexFails s ax = false) : exec (.indexMark ax) s =
    .next (finish false s (homeIndex (s.setInputs (s.inputs.setIndex ax)) ax)) := by
  change execIndexMark ax s = _
  simp only [execIndexMark, h, Bool.false_eq_true, if_false]

theorem exec_indexMark_fails {s : State} {ax : Axis} (h : indexFails s ax = true) : exec (.indexMark ax) s =
    .next (finish false s (stopAlarm (s.setInputs (s.inputs.setIndex ax)) .tableSlip (.axis ax))) := by
  change execIndexMark ax s = _
  simp only [execIndexMark, h, if_true]

/-- An axis that is not checked, or whose counter agrees with the phase, passes (R87). -/
theorem indexFails_of_agreeing {s : State} {ax : Axis}
    (h : s.table.homeValid = false ∨ s.table.phase ax = none ∨ (∃ m, s.table.op = .jog ax false m) ∨
      ∃ p d, s.table.phase ax = some p ∧ p < 1024 ∧ d ≤ 2 ∧
        ((s.table.counter ax + d) % 1024 = p ∨ (p + d) % 1024 = s.table.counter ax % 1024)) :
    indexFails s ax = false := by
  rcases h with h | h | ⟨m, h⟩ | ⟨p, d, hp, -, hd, h⟩
  · simp [indexFails, indexChecked, h]
  · simp [indexFails, indexChecked, h]
  · simp [indexFails, indexChecked, h]
  · have := phaseDistance_le_two hd h
    simp [indexFails, hp, this]

/-- A checked axis whose counter differs from the phase by more than 2 steps on the circle fails (R87). -/
theorem indexFails_of_slipped {s : State} {ax : Axis} {p : Nat} (hv : s.table.homeValid = true)
    (hp : s.table.phase ax = some p) (hlt : p < 1024) (hj : ∀ a c m, s.table.op = .jog a c m → c = true ∨ a ≠ ax)
    (h : ∀ d, d ≤ 2 → (s.table.counter ax + d) % 1024 ≠ p ∧ (p + d) % 1024 ≠ s.table.counter ax % 1024) :
    indexFails s ax = true := by
  have hdist := two_lt_phaseDistance hlt h
  have hcheck : indexChecked s ax = true := by
    unfold indexChecked
    rw [hv, hp]
    split
    · rename_i a c m hop
      rcases hj a c m hop with hc | ha
      · simp [hc]
      · simp [ha]
    · rfl
  simp [indexFails, hcheck, hp, hdist]

/-- A mark in the search phase of HOME, before HOME is tested for its end (R90; log 15). -/
def searchEnded (s : State) (ax : Axis) (h : HomeRun) : State :=
  (s.setInputs (s.inputs.setIndex ax)).setTable { (s.table.setPhase ax (s.table.counter ax % 1024)) with
    op := .home (h.setAxis ax { phase := .ended, interval := none }) }

theorem homeIndex_of_searching {s : State} {ax : Axis} {h : HomeRun} (hop : s.table.op = .home h)
    (hp : (h.axis ax).phase = .search ∨ (h.axis ax).phase = .atTravel) :
    homeIndex (s.setInputs (s.inputs.setIndex ax)) ax = testHome (searchEnded s ax h) := by
  have hset : ∀ n, (s.table.setPhase ax n).op = .home h := fun n => by cases ax <;> exact hop
  unfold homeIndex
  rw [State.setInputs_table, hop]
  dsimp only
  rcases hp with hp | hp <;> rw [hp] <;> dsimp only <;>
    simp only [setHomeAxis, State.setTable_table, hset] <;> rfl

theorem homeIndex_of_not_searching {s : State} {ax : Axis}
    (h : ∀ r, s.table.op = .home r → (r.axis ax).phase = .approach ∨ (r.axis ax).phase = .ended) : homeIndex s ax = s := by
  unfold homeIndex
  split
  · rename_i r hop
    rcases h r hop with hp | hp <;> rw [hp]
  · rfl

theorem searchEnded_phase (s : State) (ax : Axis) (h : HomeRun) :
    (searchEnded s ax h).table.phase ax = some (s.table.counter ax % 1024) := by cases ax <;> rfl

theorem Table.phase_of_place {t u : Table} (h : t.place = u.place) (ax : Axis) : t.phase ax = u.phase ax := by
  cases ax
  · exact congrArg (fun p => p.2.2.1) h
  · exact congrArg (fun p => p.2.2.2.1) h

/-- HOME that is finished: the operation ends with the home valid, and the last settled pose is that of the references (R91). -/
theorem testHome_of_finished {s : State} {h : HomeRun} (hop : s.table.op = .home h) (hf : h.finished = true) :
    (testHome s).table = { s.table with op := .none, homeValid := true } ∧ (testHome s).pose.last = homePose s.table ∧
    (s.jam.run = .idle → (testHome s).jam.run = .ready) := by
  unfold testHome
  rw [hop]
  simp only [hf, if_true]
  split
  · exact ⟨rfl, rfl, fun _ => rfl⟩
  · rename_i hn
    exact ⟨rfl, rfl, fun h => absurd h hn⟩

/-- The home input of the approaching axis, its index input inactive: the counter becomes 0 and the search begins (R90). -/
theorem homeZero_of_inactive {s : State} {ax : Axis} {h : HomeRun} (hop : s.table.op = .home h)
    (hi : s.inputs.index ax = false) : homeZero s ax = s.setTable { ((s.table.setCounter ax 0).setDir ax true) with
      op := .home (h.setAxis ax { phase := .search, interval := homeInterval s ax }) } := by
  have hset : ((s.table.setCounter ax 0).setDir ax true).op = .home h := by cases ax <;> exact hop
  simp only [homeZero, hi, Bool.false_eq_true, if_false, setHomeAxis, State.setTable_table, hset]
  rfl

theorem HomeRun.finished_of_axis {h : HomeRun} {ax : Axis} (hp : (h.axis ax).phase ≠ .ended) : h.finished = false := by
  cases ax
  · exact h.finished_of_searching hp
  · have hp : h.y.phase ≠ .ended := hp
    simp [HomeRun.finished, hp]

theorem HomeRun.axis_setAxis (h : HomeRun) (ax : Axis) (v : HomeAxis) : (h.setAxis ax v).axis ax = v := by cases ax <;> rfl

theorem exec_homeInput (s : State) (ax : Axis) :
    exec (.homeInput ax) s = .next (finish false s (reachHome (s.setInputs (s.inputs.setHome ax)) ax)) := rfl

/-- Settles O35: index marks checked and taken in HOME's search, home inputs taken in its approach. -/
theorem indexMarksAndHomeInputs : Obligations.IndexMarksAndHomeInputs := by
  intro s ax
  refine ⟨fun hok hh => ?agrees, fun hv p hp hlt hj hd hu => ?slips, fun h hop hp hv hf => ?searched,
    fun h hop hp hv hf => ?finished, fun h hop hb hp hi => ?reached, fun hn => ?outside⟩
  case agrees =>
    refine ⟨_, exec_indexMark_passes (indexFails_of_agreeing hok), ?_⟩
    rw [finish_work, homeIndex_of_not_searching (s := s.setInputs (s.inputs.setIndex ax)) hh]
    rfl
  case slips =>
    have hne : AlarmClass.tableSlip ≠ .chainStall := by decide
    obtain ⟨hhome, hlast⟩ := stopAlarm_invalid (s := s.setInputs (s.inputs.setIndex ax)) (.axis ax) (.inl rfl)
    obtain ⟨hx, hy⟩ := stopAlarm_counters (s := s.setInputs (s.inputs.setIndex ax)) (.axis ax) hne
    have hplace := finish_place false s (stopAlarm (s.setInputs (s.inputs.setIndex ax)) .tableSlip (.axis ax))
    refine ⟨_, exec_indexMark_fails (indexFails_of_slipped hv hp hlt hj hd), ?_, ?_, ?_, ?_, ?_, ?_, fun hroom h1 h2 => ?_⟩
    · rw [finish_homeValid]; exact hhome
    · rw [finish_last]; exact hlast
    · exact (finish_requested false s _).trans (by rw [stopAlarm_op (.axis ax) hne (.inl rfl)]; rfl)
    · exact (congrArg (fun p => p.1) hplace).trans hx
    · exact (congrArg (fun p => p.2.1) hplace).trans hy
    · obtain ⟨n, hjam⟩ := stopAlarm_jam (s.setInputs (s.inputs.setIndex ax)) .tableSlip (.axis ax)
      have hstop := haltRun_of_configured (s := enterAlarm (s.setInputs (s.inputs.setIndex ax)) .tableSlip (.axis ax))
        (by rw [enterAlarm_run]; exact hu)
      have hrun := congrArg Jam.run hjam
      rcases hstop with h | h
      · exact finish_halting false s _ (hrun.trans h)
      · right
        rw [(finish_run false s _ (by rw [hrun]; exact congrArg RunState.settled h)).1]
        exact hrun.trans h
    · refine finish_stopAlarm_haltedBy (.axis ax) false s rfl hroom ?_ rfl rfl
      cases hr : s.jam.run <;> simp_all
  case searched =>
    have hstay : testHome (searchEnded s ax h) = searchEnded s ax h := testHome_of_unfinished rfl hf
    have htable : (finish false s (searchEnded s ax h)).table = (searchEnded s ax h).table := finish_table false s _ nofun
    refine ⟨_, exec_indexMark_passes (indexFails_of_agreeing (.inl hv)), ?_⟩
    rw [homeIndex_of_searching hop hp, hstay, htable]
    exact ⟨searchEnded_phase s ax h, rfl, by cases ax <;> rfl⟩
  case finished =>
    obtain ⟨htable, hlast, hready⟩ := testHome_of_finished (s := searchEnded s ax h) rfl hf
    have hplace := finish_place false s (testHome (searchEnded s ax h))
    have hphase : ∀ a, (finish false s (testHome (searchEnded s ax h))).table.phase a = (searchEnded s ax h).table.phase a := by
      intro a
      rw [Table.phase_of_place hplace, htable]
      cases a <;> rfl
    refine ⟨_, exec_indexMark_passes (indexFails_of_agreeing (.inl hv)), ?_⟩
    rw [homeIndex_of_searching hop hp, finish_last, hlast, finish_homeValid, htable]
    refine ⟨(hphase ax).trans (searchEnded_phase s ax h), rfl, ?_, rfl, ?_, ?_, rfl, fun hr => ?_⟩
    · exact (finish_requested false s _).trans (by rw [htable]; rfl)
    · exact congrArg (Option.getD · 0) (hphase .x).symm
    · exact congrArg (Option.getD · 0) (hphase .y).symm
    · rw [(finish_run false s _ (by rw [hready hr]; rfl)).1, hready hr]
  case reached =>
    let s1 := s.setInputs (s.inputs.setHome ax)
    have hzero : reachHome s1 ax = s1.setTable { ((s.table.setCounter ax 0).setDir ax true) with
        op := .home (h.setAxis ax { phase := .search, interval := homeInterval s ax }) } := by
      have hhome : homeInterval s1 ax = homeInterval s ax := by cases ax <;> rfl
      have hindex : s1.inputs.index ax = false := by cases ax <;> exact hi
      have hwork := homeZero_of_inactive (s := s1) hop hindex
      rw [hhome] at hwork
      have hreach : reachHome s1 ax = testHome (homeZero s1 ax) := by
        unfold reachHome
        rw [State.setInputs_table, hop]
        exact if_pos ⟨hb, hp⟩
      rw [hreach, hwork]
      refine testHome_of_unfinished rfl (HomeRun.finished_of_axis (ax := ax) ?_)
      rw [HomeRun.axis_setAxis]
      exact nofun
    have htable : (finish false s (reachHome s1 ax)).table = (reachHome s1 ax).table :=
      finish_table false s _ (by rw [hzero]; exact nofun)
    refine ⟨_, exec_homeInput s ax, ?_⟩
    rw [htable, hzero]
    refine ⟨by cases ax <;> rfl, fun other ho => ?_, rfl, by cases ax <;> rfl⟩
    cases ax <;> cases other <;> first | rfl | exact absurd rfl ho
  case outside =>
    have hid : reachHome (s.setInputs (s.inputs.setHome ax)) ax = s.setInputs (s.inputs.setHome ax) := by
      unfold reachHome
      split
      · exact absurd (by assumption) (hn _)
      · rfl
    refine ⟨_, exec_homeInput s ax, ?_⟩
    rw [finish_work, hid]
    rfl

/-! ### The expiries (O38) -/

theorem Stroke.shaft_rev_of_motion {k k' : Stroke} (h : k.motion = k'.motion) : k.shaft = k'.shaft ∧ k.rev = k'.rev := by
  have hshaft : k.motion.shaft = k'.motion.shaft := by rw [h]
  have hrev : k.motion.rev = k'.motion.rev := by rw [h]
  exact ⟨hshaft, hrev⟩

/-- STROKE_STALL stops the shaft at once (R97, R115). -/
theorem stopAlarm_shaft {s : State} {c : AlarmClass} (src : AlarmSource) (hc : c.atOnce = true) (hne : c ≠ .chainStall)
    (hr : s.stroke.shaft = .restoring ∨ s.stroke.rev.isSome = true) :
    (stopAlarm s c src).stroke.shaft = .stopped ∧ (stopAlarm s c src).stroke.rev = none := by
  have hmotion := (raiseStop_onAlarm s c src).motion
  have hstroke := (OnMotion.haltTable (raiseStop s c src) (c == .tableSlip)).stroke
  have hshaft : (haltTable (raiseStop s c src) (c == .tableSlip)).stroke.shaft = s.stroke.shaft := by
    rw [hstroke]; exact (Stroke.shaft_rev_of_motion hmotion).1
  have hrev : (haltTable (raiseStop s c src) (c == .tableSlip)).stroke.rev = s.stroke.rev := by
    rw [hstroke]; exact (Stroke.shaft_rev_of_motion hmotion).2
  rw [stopAlarm_eq s src hne]
  exact haltShaft_atOnce hc (by rw [hshaft, hrev]; exact hr)

/-- What CHAIN_STALL leaves of the chain and of its step (R42, R104; log 52). -/
theorem stopAlarm_stalled (s : State) (src : AlarmSource) :
    (stopAlarm s .chainStall src).chain.clips = s.chain.clips.map (fun _ => .unknown) ∧
    (stopAlarm s .chainStall src).chain.purgeRequired = true ∧ (stopAlarm s .chainStall src).chain.measurement = none ∧
    (stopAlarm s .chainStall src).jam.purgeCount = 0 ∧ (stopAlarm s .chainStall src).stroke.chainStep = .none ∧
    (stopAlarm s .chainStall src).stroke.chainTimer = none ∧ (stopAlarm s .chainStall src).stroke.chainDriveOut = false := by
  have hlen : (haltShaft (haltTable (raiseStop s .chainStall src) false) .chainStall).chain.clips.length =
      s.chain.clips.length := by
    rw [(OnHead.haltShaft _ _).length, (OnMotion.haltTable _ _).chain, (raiseStop_onAlarm s _ src).chain]
  have hmap : (haltShaft (haltTable (raiseStop s .chainStall src) false) .chainStall).chain.clips.map (fun _ => Clip.unknown) =
      s.chain.clips.map fun _ => Clip.unknown := by
    rw [List.map_const', List.map_const', hlen]
  have hstall := stallChain_onContexts
    ((haltShaft (haltTable (raiseStop s .chainStall src) false) .chainStall).setStroke
        { (haltShaft (haltTable (raiseStop s .chainStall src) false) .chainStall).stroke with
          chainStep := .none, chainTimer := none, chainDriveOut := false })
  rw [stopAlarm_chainStall, hstall.chain, hstall.jam, hstall.stroke]
  exact ⟨hmap, rfl, rfl, rfl, rfl, rfl, rfl⟩

theorem exec_markTimeout {s : State} (h : s.stroke.markTimer.isSome = true) : exec .markTimeoutExpiry s =
    .next (finish false s (stopAlarm (s.setStroke { s.stroke with markTimer := none }) .strokeStall .none)) := by
  change execMarkTimeoutExpiry s = _
  exact if_pos h

theorem exec_chainTimer {s : State} (h : s.stroke.chainTimer.isSome = true) : exec .chainTimerExpiry s =
    .next (finish false s (stopAlarm s .chainStall .none)) := by
  change execChainTimerExpiry s = _
  exact if_pos h

theorem exec_gateLimit {s : State} {k : ItemKey} {b : Option Nat} {p : Pose} {flip : Bool} {o : Origin}
    (h : s.stroke.gateTimer.isSome = true) (hj : s.stroke.jaw = .item k b p flip o) (ht : tableAt s p = false) :
    exec .gateHoldLimitExpiry s = .next (finish false s
      (stopAlarm (s.setStroke { s.stroke with gateTimer := none }) .tableLate (.axis (laggingAxis s p)))) := by
  change execGateHoldLimitExpiry s = _
  simp only [execGateHoldLimitExpiry, h, if_true, gateLack, hj, ht, Bool.false_eq_true, if_false]

/-- Settles O38: the expiries of the supervision timers halt the station with their alarm. -/
theorem expiriesRaiseTheirStopAlarms : Obligations.ExpiriesRaiseTheirStopAlarms := by
  intro s hroom hrun
  refine ⟨fun h => ?mark, fun h => ?chain, fun a h => ?actuator, fun h k b p flip o hj ht => ?gate, fun h hop hl hg => ?home,
    fun x hx hl => ?transfer, fun h => ?_, fun h => ?_, fun a h => ?_, fun h => ?_⟩
  case mark =>
    have hstop (hr : s.stroke.shaft = .restoring ∨ s.stroke.rev.isSome = true) :
        (finish false s (stopAlarm (s.setStroke { s.stroke with markTimer := none }) .strokeStall .none)).stroke.shaft = .stopped ∧
        (finish false s (stopAlarm (s.setStroke { s.stroke with markTimer := none }) .strokeStall .none)).stroke.rev = none := by
      obtain ⟨hshaft, hrev⟩ := stopAlarm_shaft (s := s.setStroke { s.stroke with markTimer := none }) (c := .strokeStall) .none
        rfl (by decide) hr
      have hmotion := finish_shaft false s _ (by rw [hshaft]; decide)
      obtain ⟨hs, hr⟩ := Stroke.shaft_rev_of_motion hmotion
      exact ⟨hs.trans hshaft, hr.trans hrev⟩
    exact ⟨_, exec_markTimeout h, finish_stopAlarm_haltedBy .none false s rfl hroom hrun rfl rfl,
      fun _ hr => hstop (.inr hr), fun hr => (hstop (.inl hr)).1⟩
  case chain =>
    obtain ⟨hclips, hpurge, hmeas, hcount, hstep, htimer, hdrive⟩ := stopAlarm_stalled s .none
    have hwork := finish_work false s (stopAlarm s .chainStall .none)
    refine ⟨_, exec_chainTimer h, finish_stopAlarm_haltedBy .none false s rfl hroom hrun rfl rfl, ?_⟩
    rw [finish_chain, finish_purgeCount]
    exact ⟨hclips, hpurge, hmeas, hcount, (congrArg Work.chainStep hwork).trans hstep,
      (congrArg Work.chainTimer hwork).trans htimer, (congrArg (fun w : Work => w.outs.2.2.2) hwork).trans hdrive⟩
  case actuator =>
    obtain ⟨hhome, hlast⟩ := stopAlarm_invalid (s := s) (.actuator a) (.inr rfl)
    refine ⟨_, ?_, finish_stopAlarm_haltedBy (.actuator a) false s rfl hroom hrun rfl rfl, ?_, ?_⟩
    · change execActuatorTimerExpiry a s = _
      exact if_pos h
    · rw [finish_homeValid]; exact hhome
    · rw [finish_last]; exact hlast
  case gate =>
    exact ⟨_, exec_gateLimit h hj ht, finish_stopAlarm_haltedBy _ false s rfl hroom hrun rfl rfl⟩
  case home =>
    refine ⟨_, ?_, finish_stopAlarm_haltedBy (homeLaggard h) false s rfl hroom hrun rfl rfl, ?_⟩
    · change execHomeLimitExpiry s = _
      simp only [execHomeLimitExpiry, hop, hl, hg, Bool.not_false, and_self, if_true]
    · exact (finish_requested false s _).trans (by
        rw [stopAlarm_op (homeLaggard h) (by decide) (.inr (by rw [hop]; rfl))]
        rfl)
  case transfer =>
    refine ⟨_, ?_, finish_stopAlarm_haltedBy (u := s.setBoards { s.boards with
      transfer := some { x with jammed := true, limit := some (ms (cfg s).transferLimit) } }) .none false s rfl hroom hrun rfl
        rfl, ?_⟩
    · change execTransferLimitExpiry s = _
      simp only [execTransferLimitExpiry, hx, hl, if_true]
      rfl
    · rw [finish_transfer, stopAlarm_transfer _ (by decide)]
      rfl
  · change execMarkTimeoutExpiry s = _
    simp [execMarkTimeoutExpiry, h]
  · change execChainTimerExpiry s = _
    simp [execChainTimerExpiry, h]
  · change execActuatorTimerExpiry a s = _
    simp [execActuatorTimerExpiry, h]
  · change execGateHoldLimitExpiry s = _
    simp [execGateHoldLimitExpiry, h]

end Sys2Proof.Machine
end

section
/-! SUPPORT. The marks of a revolution (R97): what a mark runs, and what the end of the command leaves of the shaft and of the
contexts. -/

namespace Sys2Proof.Machine

/-! ### The contexts at the end of a command -/

@[simp] theorem setPositioning_boards (s : State) (r : Option Positioning) : (setPositioning s r).boards = s.boards := rfl
@[simp] theorem setActuator_boards (s : State) (a : Actuator) (r : ActRecord) : (setActuator s a r).boards = s.boards := rfl
@[simp] theorem enterAlarm_boards (s : State) (c : AlarmClass) (src : AlarmSource) :
    (enterAlarm s c src).boards = s.boards := rfl
@[simp] theorem setRun_boards (s : State) (r : RunState) : (setRun s r).boards = s.boards := rfl
@[simp] theorem queueStatus_boards (s : State) : (queueStatus s).boards = s.boards := rfl
@[simp] theorem leaveGate_boards (s : State) : (leaveGate s).boards = s.boards := rfl
@[simp] theorem dropStale_boards (s : State) : (dropStale s).boards = s.boards := by
  unfold dropStale; (repeat' split) <;> simp
@[simp] theorem beginPositioning_boards (s : State) (atUp : Bool) (pos : Nat) (i : ClipItem) :
    (beginPositioning s atUp pos i).boards = s.boards := by
  unfold beginPositioning; (repeat' split) <;> simp
@[simp] theorem raiseCountdown_boards (s : State) (k : ItemKey) (t : Nat) : (raiseCountdown s k t).boards = s.boards := by
  unfold raiseCountdown; (repeat' split) <;> simp
@[simp] theorem aimTable_boards (atUp : Bool) (s : State) : (aimTable atUp s).boards = s.boards := by
  unfold aimTable; (repeat' split) <;> simp [setOp]
@[simp] theorem aimActuator_boards (atUp : Bool) (pos : Nat) (i : ClipItem) (s : State) (a : Actuator) :
    (aimActuator atUp pos i s a).boards = s.boards := by
  unfold aimActuator commandActuator; dsimp only; (repeat' split) <;> simp
@[simp] theorem keepBack_boards (s : State) : (keepBack s).boards = s.boards := by unfold keepBack; split <;> rfl
@[simp] theorem aimActuators_boards (atUp : Bool) (s : State) : (aimActuators atUp s).boards = s.boards := by
  unfold aimActuators; (repeat' split) <;> simp [actuators]
@[simp] theorem zeroCountdown_boards (before s : State) : (zeroCountdown before s).boards = s.boards := by
  unfold zeroCountdown; (repeat' split) <;> simp
@[simp] theorem releaseGate_boards (s : State) : (releaseGate s).boards = s.boards := by
  unfold releaseGate; split <;> simp
@[simp] theorem completeRun_boards (s : State) : (completeRun s).boards = s.boards := by
  unfold completeRun; (repeat' split) <;> simp
@[simp] theorem updateHold_slots (s : State) : (updateHold s).boards.slots = s.boards.slots := by
  unfold updateHold watchDownstream; dsimp only; split <;> simp [updatePull]
@[simp] theorem statusOnChange_boards (before s : State) : (statusOnChange before s).boards = s.boards := by
  unfold statusOnChange; split <;> simp

/-- The only change that the end of a command makes to a context is the finishing of the CURRENT one (R134). -/
theorem finish_ctxAt (atUp : Bool) (before s : State) : ctxAt (finish atUp before s) = ctxAt (testFinished s) :=
  ctxAt_congr (by simp [finish, aim])

/-- The finishing test changes a context in its flags and its cursor alone. -/
theorem ctxAt_testFinished {s : State} {slot : Nat} {c : Context} (h : ctxAt s slot = some c) :
    ctxAt (testFinished s) slot = some c ∨
    (c.own.all (fun o => o.state != .pending && o.state != .inChain) = true ∧
      ctxAt (testFinished s) slot = some { c.walk with finished := true, planClosed := true }) := by
  unfold testFinished
  split
  · exact .inl h
  · rename_i cur _
    split
    · exact .inl h
    · rename_i c' hc'
      split
      case isFalse => exact .inl h
      case isTrue hready =>
        by_cases hcur : cur = slot
        · subst hcur
          rw [hc'] at h
          cases h
          simp only [finishReady, Bool.and_eq_true] at hready
          exact .inr ⟨hready.2.1.1.2, ctxAt_setSlot_self hc' _⟩
        · refine .inl ?_
          change ctxAt (setSlot s cur _) slot = _
          rw [ctxAt_setSlot, if_neg fun e => hcur e.1]
          exact h

/-- A context with an own item that waits is left as it is by the end of a command. -/
theorem finish_ctxAt_of_waiting (atUp : Bool) (before : State) {s : State} {slot i : Nat} {c : Context} {o : OwnItem}
    (h : ctxAt s slot = some c) (hi : c.own[i]? = some o) (ho : o.state = .pending ∨ o.state = .inChain) :
    ctxAt (finish atUp before s) slot = some c := by
  rw [finish_ctxAt]
  rcases ctxAt_testFinished h with hc | ⟨hall, -⟩
  · exact hc
  · have := List.all_eq_true.mp hall o (List.mem_of_getElem? hi)
    rcases ho with ho | ho <;> simp [ho] at this

/-! ### The shaft at the end of a command -/

theorem finish_shaft_eq (atUp : Bool) (before : State) {s : State} (h : s.stroke.shaft ≠ .gateHeld) :
    (finish atUp before s).stroke.shaft = s.stroke.shaft := by
  have := congrArg Stroke.shaft (finish_shaft atUp before s h)
  exact this

theorem finish_rev_eq (atUp : Bool) (before : State) {s : State} (h : s.stroke.shaft ≠ .gateHeld) :
    (finish atUp before s).stroke.rev = s.stroke.rev := by
  have := congrArg Stroke.rev (finish_shaft atUp before s h)
  exact this

theorem finish_markTimer_eq (atUp : Bool) (before : State) {s : State} (h : s.stroke.shaft ≠ .gateHeld) :
    (finish atUp before s).stroke.markTimer = s.stroke.markTimer := by
  have := congrArg Stroke.markTimer (finish_shaft atUp before s h)
  exact this

theorem finish_revCount (atUp : Bool) (before s : State) :
    (finish atUp before s).stroke.revCount = s.stroke.revCount :=
  congrArg Work.revCount (finish_work atUp before s)

theorem finish_jaw (atUp : Bool) (before s : State) : (finish atUp before s).stroke.jaw = s.stroke.jaw :=
  congrArg Work.jaw (finish_work atUp before s)

theorem finish_disp (atUp : Bool) (before s : State) : (finish atUp before s).disp = s.disp :=
  congrArg Work.disp (finish_work atUp before s)

/-! ### Marks taken -/

theorem turning_of_expects {s : State} {m : Mark} (h : expects s m = true) : s.stroke.shaft = .turning := by
  unfold expects at h
  rw [Bool.and_eq_true] at h
  exact eq_of_beq h.1

theorem restoring_of_takes {s : State} {m : Mark} (h : restoreTakes s m = true) : s.stroke.shaft = .restoring := by
  unfold restoreTakes at h
  simp only [Bool.and_eq_true] at h
  exact eq_of_beq h.1.1

theorem restoreTakes_of_expects {s : State} {m : Mark} (h : expects s m = true) (m' : Mark) : restoreTakes s m' = false := by
  unfold restoreTakes
  rw [turning_of_expects h]
  rfl

/-- The expected mark of a revolution runs its work (R97). -/
theorem withMark_of_expected {s : State} {r : Revolution} {m : Mark} (hr : s.stroke.rev = some r) (h : expects s m = true)
    (work : State → Revolution → State) :
    withMark s m work = finish (m == .up) s (work (takeMark s r m) { r with last := m }) := by
  simp only [withMark, restoreTakes_of_expects h, Bool.false_eq_true, if_false, hr, h, if_true]

theorem takeMark_turning {s : State} {m : Mark} (h : expects s m = true) (r : Revolution) :
    (takeMark s r m).stroke.shaft = .turning :=
  turning_of_expects (s := s) h

/-- A mark of a restoring turn begins no work (R101). -/
theorem withMark_of_restoring {s : State} {m : Mark} (h : restoreTakes s m = true) (work : State → Revolution → State) :
    withMark s m work = finish false s (restoreStep s m) := by
  simp only [withMark, h, if_true]

/-- A context's ejection count raised, in the list of the slots (R124). -/
def countedSlots (s : State) (board : Option Nat) : List (Option Context) :=
  match board with
  | some slot => s.boards.slots.modify slot fun o => o.map fun c => { c with ejected := capAt 65535 (c.ejected + 1) }
  | none => s.boards.slots

theorem countEjected_eq (s : State) (board : Option Nat) :
    countEjected s board = s.setBoards { s.boards with slots := countedSlots s board } := by
  unfold countEjected countedSlots
  split <;> rfl

/-! ### Own items handed back (R52 to R55) -/

section
variable {s : State} {slot j n : Nat} {k : ItemKey} {c : Context}

theorem inChainRetries_own (hc : ctxAt s slot = some c) (hj : ownIndex s c k = some j)
    (ho : c.own[j]? = some { state := .inChain, retries := n }) : inChainRetries s slot k .own = some n := by
  simp [inChainRetries, hc, hj, ho]

/-- An own item that is IN_CHAIN becomes PENDING with the count given. -/
theorem makePending_own (hc : ctxAt s slot = some c) (hj : ownIndex s c k = some j)
    (ho : c.own[j]? = some { state := .inChain, retries := n }) (count : Nat) :
    makePending s slot k .own count =
      setSlot s slot (some (c.modOwn j fun _ => { state := .pending, retries := count })) := by
  have hmod : c.modOwn j (fun x => if x.state = .inChain then { state := .pending, retries := count } else x) =
      c.modOwn j fun _ => { state := .pending, retries := count } := by
    unfold Context.modOwn
    congr 1
    refine List.ext_getElem? fun i => ?_
    rw [List.getElem?_modify, List.getElem?_modify]
    by_cases hij : j = i
    · subst hij
      simp [ho]
    · simp [hij]
  simp only [makePending, hc, hj, hmod]

theorem modOwn_pending (ho : c.own[j]? = some { state := .inChain, retries := n }) :
    (c.modOwn j fun _ => { state := .pending, retries := n }) = c.modOwn j fun o => { o with state := .pending } := by
  unfold Context.modOwn
  congr 1
  refine List.ext_getElem? fun i => ?_
  rw [List.getElem?_modify, List.getElem?_modify]
  by_cases hij : j = i
  · subst hij
    simp [ho]
  · simp [hij]

/-- A PENDING own item of a board still open joins the retry list at its place (R52, R54). -/
theorem queueRetry_of_open (hc : ctxAt s slot = some c) (hclosed : c.planClosed = false) (hroom : c.retry.length < 8)
    (hk : k ∉ c.retry) (o : Origin) (place : Nat) :
    queueRetry s slot k o place =
      setSlot s slot (some { c with retry := c.retry.take place ++ k :: c.retry.drop place }) := by
  have hcond : (c.planClosed || decide (Config.retryMax ≤ c.retry.length)) = false := by
    simp [hclosed, Config.retryMax, hroom]
  simp only [queueRetry, hc, hcond, Bool.false_eq_true, if_false, Context.joinRetry]
  simp [hk]

/-- An own item handed back to a board still open, at a place of its retry list (R52 to R55). -/
theorem handBack_own (hc : ctxAt s slot = some c) (hj : ownIndex s c k = some j)
    (ho : c.own[j]? = some { state := .inChain, retries := n }) (hclosed : c.planClosed = false) (hroom : c.retry.length < 8)
    (hk : k ∉ c.retry) (count place : Nat) :
    ctxAt (queueRetry (makePending s slot k .own count) slot k .own place) slot =
      some { c with retry := c.retry.take place ++ k :: c.retry.drop place
                    own := c.own.modify j fun _ => { state := .pending, retries := count } } := by
  rw [makePending_own hc hj ho count]
  have hc1 := ctxAt_setSlot_self hc (some (c.modOwn j fun _ => { state := .pending, retries := count }))
  rw [queueRetry_of_open hc1 hclosed hroom hk]
  exact ctxAt_setSlot_self hc1 _

/-- An own item handed back as returned goes to the back of its board's retry list (R53, R54). -/
theorem handReturned_own (hc : ctxAt s slot = some c) (hj : ownIndex s c k = some j)
    (ho : c.own[j]? = some { state := .inChain, retries := n }) (hclosed : c.planClosed = false) (hroom : c.retry.length < 8)
    (hk : k ∉ c.retry) :
    ctxAt (handReturned s slot k .own) slot =
      some { c with retry := c.retry ++ [k], own := c.own.modify j fun o => { o with state := .pending } } := by
  have hlen : retryLength s slot = c.retry.length := by simp [retryLength, hc]
  have hmod := congrArg Context.own (modOwn_pending ho)
  simp only [Context.modOwn] at hmod
  simp only [handReturned, inChainRetries_own hc hj ho]
  rw [handBack_own hc hj ho hclosed hroom hk, hlen, List.take_length, List.drop_length, hmod]

end

end Sys2Proof.Machine
end

section
/-! PROOF. O39, O40 and O41: a revolution or a restoring turn starts, and REST ends it (R97 to R101, R112, R173, R174). -/

namespace Sys2Proof.Machine

/-! ### REVOLUTION_START (O39) -/

theorem atRest_of_mayStart {s : State} (h : mayStart s = true) : s.stroke.shaft = .atRest := by
  simp only [mayStart, Bool.and_eq_true] at h
  exact eq_of_beq h.1.1.1.1.1.1

theorem exec_revolutionStart {s : State} (h : mayStart s = true) :
    exec .revolutionStart s = .next (finish false s (tryStart s)) := by
  change execRevolutionStart s = _
  exact if_pos h

/-- A clip chosen for an INSERT is VERIFIED at position 0 for the CURRENT board (R99). -/
theorem clipAt_of_insertClip {s : State} {i : ClipItem} {flip : Bool} (h : insertClip s = some (i, flip)) :
    clipAt s 0 = .verified i flip ∧ currentSlot s = some i.board := by
  unfold insertClip at h
  split at h
  · rename_i j f hclip
    split at h
    · rename_i hcur
      cases h
      exact ⟨hclip, hcur⟩
    · cases h
  · cases h

/-- The revolution that starts, by what R99 gives it. -/
theorem tryStart_of_kind {s : State} {kind : RevKind} (hm : mayStart s = true)
    (h : kind = .purge ∧ s.chain.purgeRequired = true ∨
       kind = .index ∧ s.chain.purgeRequired = false ∧ insertClip s = none ∨
       kind = .insert ∧ s.chain.purgeRequired = false ∧ (∃ i flip, insertClip s = some (i, flip) ∧
         startTest s i flip = true ∧ madeUpElsewhere s i.key = false)) : tryStart s = startRevolution s kind := by
  rcases h with ⟨rfl, hp⟩ | ⟨rfl, hp, hi⟩ | ⟨rfl, hp, i, flip, hi, hstart, hmade⟩
  · simp only [tryStart, hm, chooseKind, hp, if_true]
  · simp only [tryStart, hm, chooseKind, hp, hi, if_true, Bool.false_eq_true, if_false]
  · simp only [tryStart, hm, chooseKind, hp, hi, hstart, hmade, if_true, Bool.false_eq_true, if_false]

theorem startRevolution_turning (s : State) (kind : RevKind) : (startRevolution s kind).stroke.shaft = .turning := rfl

@[simp] theorem dropCancelled_chain (s : State) (slot : Nat) (k : ItemKey) (o : Origin) :
    (dropCancelled s slot k o).chain = s.chain := by
  unfold dropCancelled; split <;> rfl

/-- A VERIFIED clip at position 0 whose key is cancelled becomes SURPLUS (R41). -/
theorem cancelKeys_front {s : State} {i : ClipItem} {flip : Bool} (h : clipAt s 0 = .verified i flip) :
    clipAt (cancelKeys s [i.key]) 0 = .surplus (some i.key) (some i.board) (some i.disp) (some i.origin) := by
  unfold clipAt at h ⊢
  simp only [cancelKeys, State.setStroke_chain, State.setChain_chain]
  cases hclips : s.chain.clips with
  | nil => simp [hclips] at h
  | cons c rest =>
    rw [hclips] at h
    have hc : c = .verified i flip := h
    subst hc
    simp [cancelClips, Clip.live, Clip.cancelled]

/-- Settles O39: a revolution starts with the kind R99 gives, or none starts. -/
theorem revolutionsStartWithTheirKind : Obligations.RevolutionsStartWithTheirKind := by
  intro s
  refine ⟨fun hm => ?none, fun kind hm h => ?starts, fun i flip hm hp hi hs => ?waits, fun i flip hm hp hi hs hmade => ?cancelled⟩
  case none =>
    change execRevolutionStart s = _
    exact if_neg (by simp [hm])
  case starts =>
    have hstart := tryStart_of_kind hm h
    have hshaft : (tryStart s).stroke.shaft ≠ .gateHeld := by rw [hstart]; exact nofun
    refine ⟨_, exec_revolutionStart hm, ?_, ?_, ?_⟩
    · rw [finish_work, hstart]
      rfl
    · rw [finish_shaft_eq _ _ hshaft, hstart]
      rfl
    · rw [finish_markTimer_eq _ _ hshaft, hstart]
      rfl
  case waits =>
    have hstay : tryStart s = s := by
      simp only [tryStart, hm, chooseKind, hp, hi, hs, if_true, Bool.false_eq_true, if_false]
    have hrest := atRest_of_mayStart hm
    refine ⟨_, exec_revolutionStart hm, ?_, ?_⟩
    · rw [finish_work, hstay]
    · rw [hstay, finish_shaft_eq _ _ (by rw [hrest]; decide), hrest]
  case cancelled =>
    have hstart : tryStart s =
        startRevolution (cancelKeys (dropCancelled s i.board i.key i.origin) [i.key]) .index := by
      simp only [tryStart, hm, chooseKind, hp, hi, hs, hmade, if_true, Bool.false_eq_true, if_false]
    have hshaft : (tryStart s).stroke.shaft ≠ .gateHeld := by rw [hstart]; exact nofun
    have hfront : clipAt (dropCancelled s i.board i.key i.origin) 0 = .verified i flip := by
      have hclips : clipAt (dropCancelled s i.board i.key i.origin) = clipAt s := clipAt_congr (by rw [dropCancelled_chain])
      rw [hclips]
      exact (clipAt_of_insertClip hi).1
    refine ⟨_, { kind := .index, descending := false, leftGate := false, last := .rest, lead := .notExpected,
                 clinch := .notExpected, elapsed := 0 }, exec_revolutionStart hm, ?_, rfl, rfl, ?_⟩
    · rw [finish_rev_eq _ _ hshaft, hstart]
      rfl
    · rw [clipAt_congr (congrArg Chain.clips (finish_chain false s _)), hstart]
      exact cancelKeys_front hfront

/-! ### RESTORING_TURN_START and the marks of the turn (O40) -/

/-- A mark of a restoring turn leaves the shaft RESTORING (R101). -/
theorem restoreStep_shaft {s : State} (m : Mark) (h : s.stroke.shaft = .restoring) :
    (restoreStep s m).stroke.shaft = .restoring := by
  unfold restoreStep
  cases m
  case up =>
    dsimp only [openJaws]
    split
    · rw [countEjected_eq]
      exact h
    · exact h
  case gate =>
    dsimp only
    split
    · exact h
    · exact h
  all_goals exact h

theorem finish_restoreStep_shaft {s : State} {m : Mark} (h : restoreTakes s m = true) :
    (finish false s (restoreStep s m)).stroke.shaft = .restoring := by
  have hshaft := restoreStep_shaft m (restoring_of_takes h)
  rw [finish_shaft_eq _ _ (by rw [hshaft]; decide), hshaft]

/-- The jaws opened: the record EMPTY, a waste record's ejection counted, and the outputs released (R101, R112). -/
theorem openJaws_eq {s : State} {board : Option Nat}
    (h : s.stroke.jaw = .waste board ∨ board = none ∧ ∀ b, s.stroke.jaw ≠ .waste b) :
    openJaws s = (s.setBoards { s.boards with slots := countedSlots s board }).setStroke
      { s.stroke with jaw := .empty, jawOut := false, descentOut := false, clinchOut := false } := by
  unfold openJaws
  rcases h with h | ⟨rfl, h⟩
  · rw [h]
    simp only [countEjected_eq]
    rfl
  · split
    · rename_i b hb
      exact absurd hb (h b)
    · rfl

/-- Settles O40: a restoring turn starts by R101, and its marks begin no work. -/
theorem restoringTurnsBeginNoWork : Obligations.RestoringTurnsBeginNoWork := by
  intro s
  refine ⟨fun hm => ?starts, fun hm => ?none, fun c m hcm ht => ?marks, fun board ht hj => ?up, fun ht => ?gate⟩
  case starts =>
    have hshaft : (startRestoring s).stroke.shaft ≠ .gateHeld := nofun
    refine ⟨finish false s (startRestoring s), ?_, ?_, ?_, ?_⟩
    · change execRestoringTurnStart s = _
      exact if_pos hm
    · rw [finish_work]
      rfl
    · exact finish_shaft_eq _ _ hshaft
    · exact finish_markTimer_eq _ _ hshaft
  case none =>
    change execRestoringTurnStart s = _
    exact if_neg (by simp [hm])
  case marks =>
    have hstep : exec c s = .next (finish false s (restoreStep s m)) ∧ restoreStep s m = restoreMark s m := by
      simp only [List.mem_cons, Prod.mk.injEq, List.not_mem_nil, or_false] at hcm
      rcases hcm with ⟨rfl, rfl⟩ | ⟨rfl, rfl⟩ | ⟨rfl, rfl⟩ | ⟨rfl, rfl⟩ | ⟨rfl, rfl⟩ | ⟨rfl, rfl⟩ <;>
        exact ⟨congrArg Host.Outcome.next (withMark_of_restoring ht _), rfl⟩
    refine ⟨_, hstep.1, ?_, finish_restoreStep_shaft ht⟩
    rw [finish_work, hstep.2]
    rfl
  case up =>
    refine ⟨_, congrArg Host.Outcome.next (withMark_of_restoring ht upWork), ?_, finish_restoreStep_shaft ht⟩
    have hopen := openJaws_eq (s := restoreMark s .up) hj
    have hstep : restoreStep s .up = openJaws (restoreMark s .up) := rfl
    rw [finish_work, hstep, hopen]
    cases board <;> rfl
  case gate =>
    refine ⟨_, congrArg Host.Outcome.next (withMark_of_restoring ht gateWork), ?_, finish_restoreStep_shaft ht⟩
    rw [finish_work]
    cases hg : s.inputs.guardOpen with
    | true =>
      have hstep : restoreStep s .gate = (restoreMark s .gate).setStroke
          { (restoreMark s .gate).stroke with restoreHeld := true, markTimer := none } := if_pos hg
      rw [hstep]
      rfl
    | false =>
      have hstep : restoreStep s .gate = restoreMark s .gate := if_neg (by simp [hg])
      have hheld : s.stroke.restoreHeld = false := by
        simp only [restoreTakes, Bool.and_eq_true, Bool.not_eq_true'] at ht
        exact ht.1.2
      have hwork : (restoreMark s .gate).work =
          { s.work with restoreLast := some .gate, restoreHeld := s.stroke.restoreHeld } := rfl
      rw [hstep, hwork, hheld]

/-! ### REST_MARK (O41) -/

theorem tryStart_of_not_mayStart {s : State} (h : mayStart s = false) : tryStart s = s := by
  simp only [tryStart, h, Bool.false_eq_true, if_false]

theorem mayStart_of_not_runsShaft {s : State} (h : runsShaft s = false) : mayStart s = false := by
  simp only [mayStart, h, Bool.and_false, Bool.false_and]

theorem runsShaft_congr {s t : State} (hr : t.jam.run = s.jam.run) (hq : t.jam.qualifier = s.jam.qualifier) :
    runsShaft t = runsShaft s := by
  simp only [runsShaft, stoppingAtBoardEnd, hr, hq]

/-- The state after a revolution's end, with the clean period and the purge count (R75, R112, R173, R174); the countdown credited
at the UP mark comes with it (R74). -/
theorem endRevolution_eq (s : State) (r : Revolution) : ∃ pos clean count chain,
    endRevolution s r = (((s.setStroke { s.stroke with
        shaft := .atRest, rev := none, restoreLast := none, markTimer := none }).setPose
      { s.pose with positioning := pos, clean := clean }).setJam { s.jam with purgeCount := count }).setChain chain ∧
    clean = (if s.pose.holdMark then s.pose.clean else some (max 1 (capAt 16777215 r.elapsed))) ∧
    count = (if r.kind = .purge then
        (if s.chain.clips.length ≤ s.jam.purgeCount + 1 then 0 else s.jam.purgeCount + 1) else s.jam.purgeCount) ∧
    chain = (if r.kind = .purge ∧ s.chain.clips.length ≤ s.jam.purgeCount + 1 then
        { s.chain with clips := s.chain.clips.map (fun _ => .empty), purgeRequired := false } else s.chain) := by
  have hmeasure : ∃ clean, measurePeriod (standAtRest s) r =
      (standAtRest s).setPose { s.pose with clean := clean } ∧
      clean = (if s.pose.holdMark then s.pose.clean else some (max 1 (capAt 16777215 r.elapsed))) := by
    refine ⟨_, ?_, rfl⟩
    unfold measurePeriod
    change (if s.pose.holdMark = true then _ else _) = _
    split <;> rfl
  obtain ⟨clean, hmeasure, hclean⟩ := hmeasure
  have hcredit : ∃ pos, creditUp ((standAtRest s).setPose { s.pose with clean := clean }) =
      (standAtRest s).setPose { s.pose with positioning := pos, clean := clean } := by
    unfold creditUp
    split
    · split
      · exact ⟨_, rfl⟩
      · exact ⟨_, rfl⟩
    · exact ⟨_, rfl⟩
  obtain ⟨pos, hcredit⟩ := hcredit
  refine ⟨pos, clean, _, _, ?_, hclean, rfl, rfl⟩
  rw [endRevolution, hmeasure, hcredit]
  unfold countPurge
  by_cases hk : r.kind = .purge
  · simp only [hk, if_true, true_and]
    by_cases hl : s.chain.clips.length ≤ s.jam.purgeCount + 1
    · simp only [if_pos hl]
      exact if_pos hl
    · simp only [if_neg hl]
      exact if_neg hl
  · simp only [hk, if_false, false_and]
    rfl

theorem exec_restMark {s : State} {r : Revolution} (hr : s.stroke.rev = some r) (he : expects s .rest = true)
    (ht : restoreTakes s .rest = false) : exec .restMark s = .next (finish false s (tryStart (endRevolution s r))) := by
  change execRestMark s = _
  simp only [execRestMark, ht, Bool.false_eq_true, if_false, hr, he, if_true]

/-- A start leaves the shaft at rest with nothing begun, or turns it on a new revolution. -/
theorem tryStart_cases (s : State) : tryStart s = s ∨ ∃ u kind, tryStart s = startRevolution u kind ∧
    u.stroke.revCount = s.stroke.revCount := by
  have hcancel (i : ClipItem) : (cancelKeys (dropCancelled s i.board i.key i.origin) [i.key]).stroke.revCount =
      s.stroke.revCount := by
    have hdrop : (dropCancelled s i.board i.key i.origin).stroke = s.stroke := by
      unfold dropCancelled; split <;> rfl
    simp only [cancelKeys, State.setStroke_stroke, hdrop]
    split
    · unfold cancelJaw
      (repeat' split) <;> rfl
    · rfl
  unfold tryStart
  split
  · split
    · exact .inl rfl
    · split
      · rename_i i _ _
        split
        · exact .inr ⟨_, _, rfl, hcancel i⟩
        · exact .inr ⟨s, _, rfl, rfl⟩
      · exact .inr ⟨s, _, rfl, rfl⟩
    · exact .inr ⟨s, _, rfl, rfl⟩
  · exact .inl rfl

/-- Settles O41: REST ends a revolution or a restoring turn, and the next revolution may start at the same mark. -/
theorem restMarkEndsTheRevolution : Obligations.RestMarkEndsTheRevolution := by
  intro s
  refine ⟨fun r hr he hn => ?ends, fun ht hn => ?restored, fun r hr he ht => ?next, fun he ht => ?ignored⟩
  case ends =>
    obtain ⟨pos, clean, count, chain, heq, rfl, rfl, rfl⟩ := endRevolution_eq s r
    have hstay : tryStart (endRevolution s r) = endRevolution s r := by
      refine tryStart_of_not_mayStart (mayStart_of_not_runsShaft ?_)
      rw [heq]
      exact hn
    have hshaft : (endRevolution s r).stroke.shaft ≠ .gateHeld := by rw [heq]; exact nofun
    refine ⟨_, exec_restMark hr he (restoreTakes_of_expects he _), ?_⟩
    rw [hstay, finish_shaft_eq _ _ hshaft, finish_markTimer_eq _ _ hshaft, finish_work, heq]
    exact ⟨rfl, rfl, rfl⟩
  case restored =>
    have hstay : tryStart (standAtRest s) = standAtRest s :=
      tryStart_of_not_mayStart (mayStart_of_not_runsShaft hn)
    have hshaft : (standAtRest s).stroke.shaft ≠ .gateHeld := nofun
    refine ⟨finish false s (tryStart (standAtRest s)), ?_, ?_⟩
    · change execRestMark s = _
      simp only [execRestMark, ht, if_true]
    · rw [hstay, finish_shaft_eq _ _ hshaft, finish_work]
      exact ⟨rfl, rfl⟩
  case next =>
    obtain ⟨pos, clean, count, chain, heq, -, -, -⟩ := endRevolution_eq s r
    refine ⟨_, exec_restMark hr he ht, ?_⟩
    rw [finish_revCount]
    rcases tryStart_cases (endRevolution s r) with h | ⟨u, kind, h, hcount⟩
    · have hshaft : (endRevolution s r).stroke.shaft ≠ .gateHeld := by rw [heq]; exact nofun
      refine .inl ?_
      rw [h, finish_shaft_eq _ _ hshaft, finish_rev_eq _ _ hshaft, heq]
      exact ⟨rfl, rfl, rfl⟩
    · have hshaft : (startRevolution u kind).stroke.shaft ≠ .gateHeld := nofun
      refine .inr ?_
      rw [h, finish_shaft_eq _ _ hshaft, finish_rev_eq _ _ hshaft]
      refine ⟨rfl, ⟨_, rfl, rfl, rfl⟩, ?_⟩
      have hs : (endRevolution s r).stroke.revCount = s.stroke.revCount := by rw [heq]; rfl
      rw [← hs, ← hcount]
      rfl
  case ignored =>
    change execRestMark s = _
    simp only [execRestMark, ht, he, Bool.false_eq_true, if_false]
    split <;> rfl

end Sys2Proof.Machine
end

section
/-! PROOF. O42 and O43: the TRANSFER mark, the lead sense and the ADVANCE mark (R40, R102 to R104). -/

namespace Sys2Proof.Machine

/-! ### TRANSFER_MARK (O42) -/

theorem exec_transferMark {s : State} {r : Revolution} (hr : s.stroke.rev = some r) (h : expects s .transfer = true) :
    exec .transferMark s =
      .next (finish false s (transferWork (takeMark s r .transfer) { r with last := .transfer })) :=
  congrArg Host.Outcome.next (withMark_of_expected hr h transferWork)

/-- A component taken as waste (R40, R102). -/
theorem takeWaste_eq (s : State) (r : Revolution) (board : Option Nat) : takeWaste s r board =
    (s.setBoards { s.boards with slots := countedSlots s board }).setStroke { s.stroke with
      jaw := .waste none, jawOut := true, rev := some { r with lead := .awaited, descending := false } } := by
  rw [takeWaste, countEjected_eq]
  rfl

theorem transferIndex_of_live {s : State} {i : ClipItem} (h : (clipAt s 0).live = some i) (r : Revolution) :
    transferIndex s r = handReturned (takeWaste (setClip s 0 .empty) r (some i.board)) i.board i.key i.origin := by
  unfold transferIndex
  cases hc : clipAt s 0 <;> rw [hc] at h <;> cases h <;> rfl

/-- The end of the command after a mark's work that leaves the shaft TURNING. -/
theorem finish_turning (atUp : Bool) (before : State) {s : State} (h : s.stroke.shaft = .turning) :
    (finish atUp before s).stroke.shaft = .turning := by
  rw [finish_shaft_eq _ _ (by rw [h]; decide), h]

/-- Settles O42: the TRANSFER mark deals with the clip at position 0 and the jaws. -/
theorem transferMarkWorksTheJaws : Obligations.TransferMarkWorksTheJaws := by
  intro s r hr he
  have hturn := takeMark_turning he r
  have hexec := exec_transferMark hr he
  refine ⟨fun hk => ?purge, fun i flip hk hd hi => ?insert, fun hk hc => ?empty, fun board hk hc => ?waste,
    fun hk hc => ?unknown, fun i c j n hk hl ho hctx hj hown hclosed hroom hkey => ?returned⟩
  case purge =>
    have hwork : transferWork (takeMark s r .transfer) { r with last := .transfer } = (takeMark s r .transfer).setStroke
        { (takeMark s r .transfer).stroke with jaw := .waste none, jawOut := true } := by
      simp only [transferWork, hk]
    refine ⟨_, hexec, finish_turning _ _ (by rw [hwork]; exact hturn), ?_⟩
    rw [finish_work, hwork]
    rfl
  case insert =>
    have hins : insertClip (takeMark s r .transfer) = some (i, flip) := hi
    have hwork : transferWork (takeMark s r .transfer) { r with last := .transfer } =
        (setClip (takeMark s r .transfer) 0 .empty).setStroke { (takeMark s r .transfer).stroke with
          jaw := .item i.key (some i.board) i.pose flip i.origin, jawOut := true
          rev := some { r with last := .transfer, lead := .awaited } } := by
      simp only [transferWork, hk, hins, hd, if_true]
    refine ⟨_, hexec, finish_turning _ _ (by rw [hwork]; exact hturn), ?_⟩
    rw [finish_work, hwork]
    rfl
  case empty =>
    have hwork : transferWork (takeMark s r .transfer) { r with last := .transfer } = (takeMark s r .transfer).setStroke
        { (takeMark s r .transfer).stroke with
          jaw := .empty, rev := some { r with last := .transfer, lead := .notExpected, descending := false } } := by
      have hc' : clipAt (takeMark s r .transfer) 0 = .empty := hc
      simp only [transferWork, hk, transferIndex, hc']
    refine ⟨_, hexec, finish_turning _ _ (by rw [hwork]; exact hturn), ?_⟩
    rw [finish_work, hwork]
    rfl
  case waste =>
    have hwork : transferWork (takeMark s r .transfer) { r with last := .transfer } =
        takeWaste (setClip (takeMark s r .transfer) 0 .empty) { r with last := .transfer } board := by
      rcases hc with ⟨k, d, o, hc⟩ | ⟨k, d, o, hc⟩ <;>
      · have hc' : clipAt (takeMark s r .transfer) 0 = _ := hc
        simp only [transferWork, hk, transferIndex, hc']
    rw [takeWaste_eq] at hwork
    refine ⟨_, hexec, finish_turning _ _ (by rw [hwork]; exact hturn), ?_⟩
    rw [finish_work, hwork]
    cases board <;> rfl
  case unknown =>
    have hwork : transferWork (takeMark s r .transfer) { r with last := .transfer } =
        takeWaste (takeMark s r .transfer) { r with last := .transfer } none := by
      have hc' : clipAt (takeMark s r .transfer) 0 = .unknown := hc
      simp only [transferWork, hk, transferIndex, hc']
    rw [takeWaste_eq] at hwork
    refine ⟨_, hexec, finish_turning _ _ (by rw [hwork]; exact hturn), ?_⟩
    rw [finish_work, hwork]
    rfl
  case returned =>
    let u := takeWaste (setClip (takeMark s r .transfer) 0 .empty) { r with last := .transfer } (some i.board)
    have hu := takeWaste_eq (setClip (takeMark s r .transfer) 0 .empty) { r with last := .transfer } (some i.board)
    have hwork : transferWork (takeMark s r .transfer) { r with last := .transfer } =
        handReturned u i.board i.key .own := by
      have hlive := transferIndex_of_live (s := takeMark s r .transfer) hl { r with last := .transfer }
      rw [ho] at hlive
      rw [← hlive]
      simp only [transferWork, hk]
    have hslot := OnSlot.handReturned u i.board i.key .own
    have huc : ctxAt u i.board = some { c with ejected := capAt 65535 (c.ejected + 1) } :=
      ctxAt_modCtx_self (s := (setClip (takeMark s r .transfer) 0 .empty).setStroke _) hctx _
    have hback : ctxAt (handReturned u i.board i.key .own) i.board = some { c with
        ejected := capAt 65535 (c.ejected + 1), retry := c.retry ++ [i.key]
        own := c.own.modify j fun o => { o with state := .pending } } := by
      have hju : ownIndex u { c with ejected := capAt 65535 (c.ejected + 1) } i.key = some j := by
        rw [show u = _ from hu]
        exact hj
      exact handReturned_own huc hju hown hclosed hroom hkey
    have hshaft : (handReturned u i.board i.key .own).stroke.shaft = .turning := by
      rw [hslot.stroke, show u = _ from hu]
      exact hturn
    refine ⟨_, hexec, ?_, ?_, ?_, ?_⟩
    · exact finish_turning _ _ (by rw [hwork]; exact hshaft)
    · rw [finish_jaw, hwork, hslot.stroke, show u = _ from hu]
      rfl
    · rw [finish_chain, hwork, hslot.chain, show u = _ from hu]
      rfl
    · rw [hwork]
      refine finish_ctxAt_of_waiting (i := j) (o := { state := .pending, retries := n }) _ _ hback ?_ (.inl rfl)
      simp [hown]

/-! ### Alarms raised -/

/-- The list of alarms grows by at most one entry (R175, R176). -/
theorem Jam.enter_length (j : Jam) (c : AlarmClass) (src : AlarmSource) (n : Nat) :
    (j.enter c src n).alarms.length ≤ j.alarms.length + 1 := by
  have hadd : (j.add c src n).alarms.length ≤ j.alarms.length + 1 := by
    unfold Jam.add
    split
    · simp [Jam.append]
    · split
      · rename_i l hl
        have := dropAckedNote_length _ _ hl
        simp only [Jam.append, List.length_append, List.length_cons, List.length_nil]
        omega
      · exact Nat.le_succ _
  unfold Jam.enter
  split
  · exact hadd
  · split
    · rename_i l hl
      rw [countAlarm_length _ _ _ _ hl]
      exact Nat.le_succ _
    · exact hadd

/-- A NOTE raised changes nothing but the alarm list, in which the STOP entries stay, with its number and overflow flag. -/
theorem enterNote_eq (s : State) {c : AlarmClass} (src : AlarmSource) (hc : c.stop = false) : ∃ j,
    enterAlarm s c src = s.setJam j ∧ j.alarms.filter (·.cls.stop) = s.jam.alarms.filter (·.cls.stop) ∧
    j.unrecordedHalt = s.jam.unrecordedHalt ∧ j.purgeCount = s.jam.purgeCount ∧ j.run = s.jam.run ∧
    j.alarms.length ≤ s.jam.alarms.length + 1 := by
  have hnote := s.jam.enter_note c src s.stroke.revCount hc
  exact ⟨_, rfl, hnote.1, hnote.2, Jam.enter_purgeCount .., Jam.enter_run .., Jam.enter_length ..⟩

/-- A halt seen from a state with the same STOP entries and revolution count. -/
theorem HaltedBy.congr {s u t : State} {c : AlarmClass} {src : AlarmSource} (h : HaltedBy u t c src)
    (hs : u.jam.alarms.filter (·.cls.stop) = s.jam.alarms.filter (·.cls.stop))
    (hn : u.stroke.revCount = s.stroke.revCount) : HaltedBy s t c src := by
  obtain ⟨hrun, hq, n, hstops⟩ := h
  refine ⟨hrun, hq, n, ?_⟩
  rw [hstops, ← hn]
  exact congrArg (· ++ _) hs

/-! ### LEAD_SENSE_CONFIRM and ADVANCE_MARK (O43) -/

theorem exec_advanceMark {s : State} {r : Revolution} (hr : s.stroke.rev = some r) (h : expects s .advance = true) :
    exec .advanceMark s = .next (finish false s (advanceWork (takeMark s r .advance) { r with last := .advance })) :=
  congrArg Host.Outcome.next (withMark_of_expected hr h advanceWork)

/-- What a miss of the lead sense leaves alone (R103). -/
theorem missLead_onHead (s : State) : ∃ j, OnHead (s.setJam j) (missLead s) ∧
    j.alarms.filter (·.cls.stop) = s.jam.alarms.filter (·.cls.stop) ∧ j.run = s.jam.run ∧
    j.alarms.length ≤ s.jam.alarms.length + 1 := by
  obtain ⟨j, hj, hstops, -, -, hrun, hlen⟩ := enterNote_eq (setLead s .missed) (c := .transferMiss) .none rfl
  refine ⟨j, ?_, hstops, hrun, hlen⟩
  have hnote : OnHead (s.setJam j) ((enterAlarm (setLead s .missed) .transferMiss .none).setStroke
      { (enterAlarm (setLead s .missed) .transferMiss .none).stroke with missCount := s.stroke.missCount + 1 }) := by
    rw [hj]
    exact OnHead.setStroke (s.setJam j) _
  unfold missLead
  dsimp only
  split
  · exact (hnote.trans (.wasteJaw _)).trans (OnSlot.handCounted _ _ _ _).toOnContexts.onHead
  · exact hnote.trans (.wasteJaw _)
  · exact hnote

/-- The counts and the steps of the stroke controller: what neither a miss of the lead sense nor a brake changes. -/
def Stroke.counts (k : Stroke) : ChainStep × Timer × Nat × Nat := (k.chainStep, k.chainTimer, k.missCount, k.revCount)

theorem wasteJaw_counts (s : State) : (wasteJaw s).stroke.counts = s.stroke.counts := rfl

theorem missLead_stroke (s : State) : (missLead s).stroke.counts =
    (s.stroke.chainStep, s.stroke.chainTimer, s.stroke.missCount + 1, s.stroke.revCount) := by
  unfold missLead
  dsimp only
  split
  · rw [(OnSlot.handCounted _ _ _ _).stroke]
    rfl
  · rfl
  · rfl

theorem missLead_shaft (s : State) : (missLead s).stroke.shaft = s.stroke.shaft ∧
    (missLead s).stroke.rev.isSome = s.stroke.rev.isSome := by
  unfold missLead
  dsimp only
  split
  · rw [(OnSlot.handCounted _ _ _ _).stroke]
    exact ⟨rfl, by simp [wasteJaw, setLead, setRev]⟩
  · exact ⟨rfl, by simp [wasteJaw, setLead, setRev]⟩
  · exact ⟨rfl, by simp [setLead, setRev]⟩

theorem returnJaw_counts (s : State) : (returnJaw s).stroke.counts = s.stroke.counts := by
  unfold returnJaw
  split
  · rw [(OnSlot.handReturned _ _ _ _).stroke]
    rfl
  · rfl
  · rfl

theorem jawAtBrake_counts (s : State) (r : Revolution) : (jawAtBrake s r).stroke.counts = s.stroke.counts := by
  unfold jawAtBrake
  split
  · split_ifs
    · exact returnJaw_counts s
    · rfl
    · rw [(OnContexts.countSuspect _ _).stroke]
      rfl
  · rfl

theorem jawAtHalt_counts (s : State) (r : Revolution) (slip : Bool) : (jawAtHalt s r slip).stroke.counts = s.stroke.counts := by
  unfold jawAtHalt
  split
  · split
    · exact returnJaw_counts s
    · rfl
    · rfl
  · rfl

theorem brakeShaft_counts (s : State) : (brakeShaft s).stroke.counts = s.stroke.counts := rfl

theorem haltShaft_counts (s : State) (c : AlarmClass) : (haltShaft s c).stroke.counts = s.stroke.counts := by
  unfold haltShaft
  split
  · rfl
  · split
    · rfl
    · dsimp only
      split
      · split
        · rw [brakeShaft_counts, jawAtBrake_counts]
        · rw [(OnDrops.abandonDrops _).stroke, brakeShaft_counts, jawAtBrake_counts]
      · exact jawAtHalt_counts _ _ _

/-- A STOP alarm other than CHAIN_STALL leaves the chain step and the counts. -/
theorem stopAlarm_counts {s : State} {c : AlarmClass} (src : AlarmSource) (hc : c ≠ .chainStall) :
    (stopAlarm s c src).stroke.counts = s.stroke.counts := by
  have hmotion := congrArg Stroke.counts (raiseStop_onAlarm s c src).motion
  rw [stopAlarm_eq s src hc, haltShaft_counts, (OnMotion.haltTable _ _).stroke]
  exact hmotion

/-- Settles O43: the lead sense confirmed, the chain step started at ADVANCE, and the third miss a HEAD_JAM. -/
theorem advanceMarkStartsTheChainStep : Obligations.AdvanceMarkStartsTheChainStep := by
  intro s r hr
  refine ⟨fun hl => ?confirmed, fun hl => ?ignored, fun he hl => ?advances, fun he hl hm hj => ?misses,
    fun he hl hm hroom hrun => ?jams⟩
  case confirmed =>
    change execLeadSenseConfirm s = _
    simp only [execLeadSenseConfirm, hr, hl, if_true]
  case ignored =>
    change execLeadSenseConfirm s = _
    simp only [execLeadSenseConfirm, hr, hl, if_false]
  case advances =>
    have hwork : advanceWork (takeMark s r .advance) { r with last := .advance } = startChainStep (takeMark s r .advance) :=
      if_neg hl
    refine ⟨_, exec_advanceMark hr he, finish_turning _ _ (by rw [hwork]; exact takeMark_turning he r), ?_⟩
    rw [finish_work, hwork]
    rfl
  case misses =>
    obtain ⟨j, hnote, hstops, hunrec, hpurge, hjrun, -⟩ :=
      enterNote_eq (setLead (takeMark s r .advance) .missed) (c := .transferMiss) .none rfl
    have hmiss : missLead (takeMark s r .advance) = ((takeMark s r .advance).setJam j).setStroke
        { (takeMark s r .advance).stroke with
          rev := some { r with last := .advance, lead := .missed }, missCount := s.stroke.missCount + 1 } := by
      have hj' : (takeMark s r .advance).stroke.jaw = .waste none := hj
      unfold missLead
      rw [hnote]
      dsimp only
      split
      · rename_i h
        rw [hj'] at h
        cases h
      · rename_i h
        rw [hj'] at h
        cases h
      · rfl
    have hwork : advanceWork (takeMark s r .advance) { r with last := .advance } =
        startChainStep (missLead (takeMark s r .advance)) := by
      have hfew : ¬ 3 ≤ (missLead (takeMark s r .advance)).stroke.missCount := by
        rw [hmiss]
        change ¬ 3 ≤ s.stroke.missCount + 1
        omega
      unfold advanceWork
      rw [if_pos hl]
      exact if_neg hfew
    refine ⟨_, exec_advanceMark hr he, finish_turning _ _ (by rw [hwork, hmiss]; exact takeMark_turning he r), ?_⟩
    rw [finish_work, hwork, hmiss]
    have hstops' : j.alarms.filter (·.cls.stop) = s.jam.alarms.filter (·.cls.stop) := hstops
    have hunrec' : j.unrecordedHalt = s.jam.unrecordedHalt := hunrec
    have hpurge' : j.purgeCount = s.jam.purgeCount := hpurge
    simp only [State.work, startChainStep, State.setStroke_jam, State.setJam_jam, hstops', hunrec', hpurge']
    rfl
  case jams =>
    obtain ⟨j, hhead, hstops, hjrun, hlen⟩ := missLead_onHead (takeMark s r .advance)
    have hjam : (missLead (takeMark s r .advance)).jam = j := hhead.jam
    have hcounts := missLead_stroke (takeMark s r .advance)
    obtain ⟨-, hrev⟩ := missLead_shaft (takeMark s r .advance)
    let u := (missLead (takeMark s r .advance)).setStroke
      { (missLead (takeMark s r .advance)).stroke with missCount := 0 }
    have hwork : advanceWork (takeMark s r .advance) { r with last := .advance } = stopAlarm u .headJam .none := by
      have hthree : 3 ≤ (missLead (takeMark s r .advance)).stroke.missCount := by
        have hmiss : (missLead (takeMark s r .advance)).stroke.missCount = s.stroke.missCount + 1 :=
          congrArg (fun p => p.2.2.1) hcounts
        omega
      unfold advanceWork
      rw [if_pos hl]
      exact if_pos hthree
    have hurev : u.stroke.revCount = s.stroke.revCount := congrArg (fun p => p.2.2.2) hcounts
    have hhalt : HaltedBy u (finish false s (stopAlarm u .headJam .none)) .headJam .none := by
      have hurun : u.jam.run = s.jam.run := (congrArg Jam.run hjam).trans hjrun
      have huroom : u.jam.alarms.length < 16 := by
        have hulen : u.jam.alarms.length = j.alarms.length := congrArg (fun x : Jam => x.alarms.length) hjam
        have hslen : j.alarms.length ≤ s.jam.alarms.length + 1 := hlen
        omega
      refine finish_stopAlarm_haltedBy .none false s rfl huroom ?_ rfl rfl
      rw [hurun]
      exact .inr (.inr hrun)
    obtain ⟨hshaft, hrevnone⟩ := stopAlarm_shaft (s := u) (c := .headJam) .none rfl (by decide) (.inr hrev)
    have hkeep := stopAlarm_counts (s := u) (c := .headJam) .none (by decide)
    have hgate : (stopAlarm u .headJam .none).stroke.shaft ≠ .gateHeld := by rw [hshaft]; decide
    have hfin := finish_work false s (stopAlarm u .headJam .none)
    refine ⟨_, exec_advanceMark hr he, ?_⟩
    rw [hwork]
    refine ⟨hhalt.congr ((congrArg (fun x : Jam => x.alarms.filter (·.cls.stop)) hjam).trans hstops) hurev, ?_, ?_, ?_, ?_⟩
    · rw [finish_shaft_eq _ _ hgate, hshaft]
    · rw [finish_rev_eq _ _ hgate, hrevnone]
    · exact (congrArg Work.missCount hfin).trans (congrArg (fun p => p.2.2.1) hkeep)
    · exact ((congrArg Work.chainStep hfin).trans (congrArg (fun p => p.1) hkeep)).trans (congrArg (fun p => p.1) hcounts)

end Sys2Proof.Machine
end

section
/-! PROOF. O44 and O50: the chain advance and the plan pass (R35, R43 to R51, R104). -/

namespace Sys2Proof.Machine

/-! ### The plan pass: what it changes -/

theorem OnContexts.planningBoard (l : List Nat) (s : State) : OnContexts s (planningBoard s l).1 := by
  induction l generalizing s with
  | nil => exact .refl s
  | cons i rest ih =>
    unfold Machine.planningBoard
    split
    · exact ih s
    · rename_i c _
      have hwalk : OnContexts s (if openForPlan s c then Machine.setSlot s i (some c.walk) else s) := by
        split
        · exact (OnSlot.setSlot s i _).toOnContexts
        · exact .refl s
      dsimp only
      generalize (if openForPlan s c then Machine.setSlot s i (some c.walk) else s) = u at hwalk ⊢
      split
      · exact hwalk
      · exact hwalk.trans (ih u)

theorem OnContexts.closeAhead (slot : Nat) (l : List Nat) (s : State) : OnContexts s (closeAhead slot l s) := by
  induction l generalizing s with
  | nil => exact .refl s
  | cons i rest ih =>
    unfold Machine.closeAhead
    split
    · exact .refl s
    · exact (OnSlot.planClose s i).toOnContexts.trans (ih _)

theorem OnContexts.enterBoard (s : State) (slot : Nat) : OnContexts s (enterBoard s slot) := by
  unfold Machine.enterBoard
  split
  · exact .refl s
  · split
    · exact .refl s
    · exact (OnSlot.modCtx s slot _).toOnContexts.trans (.closeAhead slot _ _)

/-- From a state and a pass to later ones: the pass has planned nothing but EMPTY clips above its frontier, which has not sunk
(R44, R50). -/
structure PassRel (s : State) (p : Pass) (t : State) (q : Pass) : Prop where
  drops : OnDrops s t
  frontier : p.frontier ≤ q.frontier
  clips : ∀ pos, clipAt t pos = clipAt s pos ∨
    (clipAt s pos = .empty ∧ p.frontier < (pos : Int) ∧ ∃ i, clipAt t pos = .planned i)

theorem OnContexts.passRel {s t : State} (h : OnContexts s t) {p q : Pass} (hp : p.frontier ≤ q.frontier) : PassRel s p t q :=
  ⟨h.onDrops, hp, fun pos => .inl (congrFun (clipAt_congr (congrArg Chain.clips h.chain)) pos)⟩

theorem PassRel.trans {s t u : State} {p q r : Pass} (h : PassRel s p t q) (g : PassRel t q u r) : PassRel s p u r where
  drops := h.drops.trans g.drops
  frontier := le_trans h.frontier g.frontier
  clips pos := by
    rcases h.clips pos with h1 | ⟨hempty, habove, i, h1⟩
    · rcases g.clips pos with g1 | ⟨gempty, gabove, i, g1⟩
      · exact .inl (g1.trans h1)
      · exact .inr ⟨h1 ▸ gempty, lt_of_le_of_lt h.frontier gabove, i, g1⟩
    · rcases g.clips pos with g1 | ⟨gempty, -, -⟩
      · exact .inr ⟨hempty, habove, i, g1.trans h1⟩
      · rw [h1] at gempty
        cases gempty

/-- The dispenser chosen is a candidate (R50). -/
theorem candidate_of_bestCandidate {s : State} {p : Pass} {part d : Nat} (h : bestCandidate s p part = some d) :
    candidate s p part d = true := by
  unfold bestCandidate at h
  revert h
  generalize List.range 64 = l
  suffices hall : ∀ e, _ = some e → candidate s p part e = true from hall d
  refine List.foldlRecOn (motive := fun b => ∀ e, b = some e → candidate s p part e = true) l _ nofun ?_
  intro b hb x _ e he
  split at he
  case isTrue hx =>
    split at he
    · split at he
      · cases he
        exact hx
      · exact hb e he
    · cases he
      exact hx
  case isFalse => exact hb e he

/-- An item assigned to the clip under a dispenser above the frontier (R50). -/
theorem assign_passRel {s took : State} (htook : OnContexts s took) {p q : Pass} {d : Nat} (slot : Nat) (x : ItemData)
    (o : Origin) (pose : Pose) (habove : p.frontier < ((dispAt s d).position : Int))
    (hq : q.frontier = ((dispAt s d).position : Int)) : PassRel s p (assign took slot d x o pose) q := by
  have hpos : dispAt took d = dispAt s d := by simp only [dispAt, htook.disp]
  have hstay := htook.passRel (p := p) (q := q) (by rw [hq]; exact le_of_lt habove)
  unfold assign
  dsimp only
  split
  case isFalse => exact hstay
  case isTrue hfree =>
    have hplan : PassRel s p (setClip took (dispAt took d).position
        (.planned { key := x.key, board := slot, disp := d, pose := pose, origin := o })) q := by
      refine ⟨hstay.drops.trans (.setClip _ _ _), hstay.frontier, fun pos => ?_⟩
      have hold : clipAt took pos = clipAt s pos := congrFun (clipAt_congr (congrArg Chain.clips htook.chain)) pos
      rw [clipAt_setClip]
      split
      case isTrue heq =>
        obtain ⟨rfl, -⟩ := heq
        exact .inr ⟨hold ▸ hfree.1, by rw [hpos]; exact habove, _, rfl⟩
      case isFalse => exact .inl hold
    split
    · exact hplan.trans ((OnSlot.setSlot _ slot _).toOnContexts.passRel (le_refl _))
    · exact hplan

/-- One item of a pass: what it changes, and how it counts (R49 to R51). -/
theorem planItem_passRel (s : State) (p : Pass) (slot : Nat) (x : ItemData) (o : Origin) (src : TakenFrom) :
    PassRel s p (planItem s p slot x o src).1 (planItem s p slot x o src).2.1 ∧
    (planItem s p slot x o src).2.1.assignments ≤ p.assignments + 1 ∧
    ((planItem s p slot x o src).2.2 = none →
      (planItem s p slot x o src).2.1.assignments < 8 ∨ (planItem s p slot x o src).2.1.assignments = p.assignments) := by
  have htook : OnContexts s (modCtx s slot (·.taken src)) := (OnSlot.modCtx s slot _).toOnContexts
  have howe : PassRel s p (oweItem (modCtx s slot (·.taken src)) slot x.key o)
      { p with owed := capAt 65535 (p.owed + 1) } :=
    (htook.trans (OnSlot.oweItem _ slot x.key o).toOnContexts).passRel (le_refl _)
  unfold planItem
  dsimp only
  split
  · split
    · rename_i d hd
      have habove : p.frontier < ((dispAt s d).position : Int) := by
        have := candidate_of_bestCandidate hd
        simp only [candidate, Bool.and_eq_true, decide_eq_true_eq] at this
        exact this.1.1.2
      refine ⟨assign_passRel htook slot x o _ habove rfl, le_refl _, fun hnone => ?_⟩
      split at hnone
      · cases hnone
      · rename_i hbudget
        exact .inl (Nat.lt_of_not_le hbudget)
    · split
      · exact ⟨(OnContexts.refl s).passRel (le_refl _), Nat.le_succ _, nofun⟩
      · exact ⟨howe, Nat.le_succ _, fun _ => .inr rfl⟩
  · exact ⟨howe, Nat.le_succ _, fun _ => .inr rfl⟩

/-- The items of a pass one after another: what they change, and at most 8 assignments (R43, R50). -/
theorem planLoop_passRel (fuel : Nat) (s : State) (p : Pass) :
    PassRel s p (planLoop fuel s p).1 (planLoop fuel s p).2.1 ∧
    (p.assignments < 8 → (planLoop fuel s p).2.1.assignments ≤ 8) := by
  induction fuel generalizing s p with
  | zero => exact ⟨(OnContexts.refl s).passRel (le_refl _), fun h => le_of_lt h⟩
  | succ fuel ih =>
    unfold planLoop
    have hboard := OnContexts.planningBoard (lineOrder s) s
    split
    · rename_i s1 hs1
      rw [hs1] at hboard
      exact ⟨hboard.passRel (le_refl _), fun h => le_of_lt h⟩
    · rename_i s1 slot hs1
      rw [hs1] at hboard
      have henter : PassRel s p (enterBoard s1 slot) p := (hboard.trans (.enterBoard s1 slot)).passRel (le_refl _)
      dsimp only
      split
      · exact ⟨henter, fun h => le_of_lt h⟩
      · rename_i x o src _
        obtain ⟨hitem, hone, hnext⟩ := planItem_passRel (enterBoard s1 slot) p slot x o src
        split
        · rename_i s3 p' cause heq
          rw [heq] at hitem hone
          exact ⟨henter.trans hitem, fun h => le_trans hone h⟩
        · rename_i s3 p' heq
          rw [heq] at hitem hnext
          obtain ⟨hrest, hbudget⟩ := ih s3 p'
          refine ⟨(henter.trans hitem).trans hrest, fun h => hbudget ?_⟩
          rcases hnext rfl with hlt | heq'
          · exact hlt
          · exact heq' ▸ h

/-- The plan pass: it plans EMPTY clips above the frontier, at most 8, and leaves the rest of the machine (R43, R44, R50). -/
theorem planPass_spec (s : State) : ∃ u : State, ∃ q : Pass, planPass s = u.setPlanner (planPass s).planner ∧
    PassRel s { frontier := frontier s, assignments := 0, owed := 0, groups := [] } u q ∧
    (planPass s).planner.frontier = q.frontier ∧ (planPass s).planner.assignments = q.assignments ∧ q.assignments ≤ 8 := by
  obtain ⟨hrel, hbudget⟩ := planLoop_passRel passFuel s { frontier := frontier s, assignments := 0, owed := 0, groups := [] }
  exact ⟨_, _, rfl, hrel, rfl, rfl, hbudget (Nat.succ_pos 7)⟩

theorem planPass_stroke (s : State) : (planPass s).stroke = s.stroke := by
  obtain ⟨u, q, heq, hrel, -⟩ := planPass_spec s
  rw [heq]
  exact hrel.drops.stroke

/-! ### The chain advance -/

theorem chainAdvance_stroke (s : State) : (chainAdvance s).stroke = s.stroke := by
  unfold chainAdvance
  dsimp only
  split
  · rw [planPass_stroke]
    rfl
  · rfl

theorem OnDrops.fireClips (l : List (Nat × ClipItem)) (s : State) : OnDrops s (fireClips l s).1 := by
  induction l generalizing s with
  | nil => exact .refl s
  | cons x rest ih =>
    obtain ⟨pos, i⟩ := x
    unfold Machine.fireClips
    split
    · exact (OnDrops.modDisp s _ _).trans (ih _)
    · exact (OnDrops.setClip s pos _).trans (ih _)

/-- The DROP mark's work changes the dispensers, the clips and the contexts. -/
theorem OnDrops.dropWork (s : State) : OnDrops s (dropWork s) := by
  unfold Machine.dropWork
  exact (OnDrops.fireClips _ s).trans (OnContexts.handReverted _ _ _).onDrops

theorem dropWork_of_unplanned {s : State} (h : plannedClips s.chain.clips 0 = []) : dropWork s = s := by
  simp only [dropWork, h, fireClips, handReverted]

theorem releasePitch_of_not_held {s : State} (h : s.stroke.shaft ≠ .pitchHeld) : releasePitch s = s := if_neg h

theorem releasePitch_stroke (s : State) : (releasePitch s).stroke.counts = s.stroke.counts ∧
    (releasePitch s).stroke.chainDriveOut = s.stroke.chainDriveOut ∧ (releasePitch s).stroke.shaft ≠ .pitchHeld := by
  by_cases h : s.stroke.shaft = .pitchHeld
  · have hrel : releasePitch s = restartMarks ((dropWork s).setStroke { (dropWork s).stroke with shaft := .turning }) :=
      if_pos h
    have hstroke := (OnDrops.dropWork s).stroke
    rw [hrel]
    refine ⟨?_, ?_, nofun⟩
    · have hcounts : (dropWork s).stroke.counts = s.stroke.counts := by rw [hstroke]
      exact hcounts
    · have hdrive : (dropWork s).stroke.chainDriveOut = s.stroke.chainDriveOut := by rw [hstroke]
      exact hdrive
  · rw [releasePitch_of_not_held h]
    exact ⟨rfl, rfl, h⟩

/-- The end of a command holds no shaft at ADVANCE. -/
theorem finish_not_pitchHeld (atUp : Bool) (before : State) {s : State} (h : s.stroke.shaft ≠ .pitchHeld) :
    (finish atUp before s).stroke.shaft ≠ .pitchHeld := by
  have haim : (aim atUp before (testFinished s)).stroke.shaft = s.stroke.shaft := by
    have hm : (aim atUp before (testFinished s)).stroke.motion = s.stroke.motion := by simp [aim]
    rw [← Stroke.motion_shaft, hm, Stroke.motion_shaft]
  rw [finish, statusOnChange_stroke, updateHold_stroke, dropStale_stroke, completeRun_stroke, releaseGate]
  split
  · exact nofun
  · rw [haim]
    exact h

theorem exec_pitchConfirm {s : State} (hs : s.stroke.chainStep = .started) (hr : s.stroke.shaft ≠ .restoring) :
    exec .pitchConfirm s = .next (finish false s (confirmPitch s)) := by
  change execPitchConfirm s = _
  exact if_pos ⟨hs, hr⟩

/-- The state with its chain step CONFIRMED (R104). -/
def stepConfirmed (s : State) : State :=
  s.setStroke { s.stroke with chainStep := .confirmed, chainTimer := none, chainDriveOut := false }

theorem confirmPitch_eq (s : State) : confirmPitch s = releasePitch (chainAdvance (stepConfirmed s)) := rfl

/-- Settles O44: the chain moves one position at the confirm of its step, and a pitch hold ends. -/
theorem pitchConfirmAdvancesTheChain : Obligations.PitchConfirmAdvancesTheChain := by
  intro s
  refine ⟨fun h => ?ignored, fun first rest hs hr hg hp hclips hplan => ?purging, fun hs hr => ?any⟩
  case ignored =>
    change execPitchConfirm s = _
    refine if_neg fun ⟨h1, h2⟩ => ?_
    rcases h with h | h
    · exact h h1
    · exact h2 h
  case purging =>
    have hshift : (stepConfirmed s).chain.shift = { s.chain with
        clips := rest ++ [.unknown], measurement := s.chain.measurement.bind Measurement.down } := by
      change s.chain.shift = _
      simp only [Chain.shift, hclips, hp, if_true]
    have hadvance : chainAdvance (stepConfirmed s) =
        ((stepConfirmed s).setChain (stepConfirmed s).chain.shift).setDisp (clearMissed s.disp) := by
      have hpass : passRuns (shiftChain (stepConfirmed s)) = false := by
        have hpurge : (shiftChain (stepConfirmed s)).chain.purgeRequired = true := hp
        simp only [passRuns, hpurge, Bool.not_true, Bool.and_false, Bool.false_and]
      simp only [chainAdvance, hpass, Bool.false_eq_true, if_false]
      rfl
    rw [hshift] at hadvance
    refine ⟨_, exec_pitchConfirm hs hr, ?_⟩
    rw [confirmPitch_eq, hadvance]
    by_cases hheld : s.stroke.shaft = .pitchHeld
    · have hrelease : ∀ u : State, u.stroke.shaft = .pitchHeld → u.chain.clips = rest ++ [.unknown] →
          releasePitch u = restartMarks (u.setStroke { u.stroke with shaft := .turning }) := by
        intro u hu hc
        have hnone : plannedClips u.chain.clips 0 = [] := by
          have happend : ∀ (l : List Clip) (n : Nat), plannedClips l n = [] → plannedClips (l ++ [.unknown]) n = [] := by
            intro l
            induction l with
            | nil => exact fun _ _ => rfl
            | cons x xs ih =>
              intro n h
              cases x <;> first | exact ih _ h | cases h
          rw [hc]
          exact happend rest 0 (hplan hheld)
        unfold releasePitch
        rw [if_pos hu, dropWork_of_unplanned hnone]
      rw [hrelease, finish_work, finish_shaft_eq, if_pos hheld]
      · exact ⟨rfl, rfl⟩
      · exact nofun
      · exact hheld
      · rfl
    · rw [releasePitch_of_not_held, finish_work, finish_shaft_eq, if_neg hheld]
      · exact ⟨rfl, rfl⟩
      · exact hg
      · exact hheld
  case any =>
    have hstroke := chainAdvance_stroke (stepConfirmed s)
    obtain ⟨hcounts, hdrive, hheld⟩ := releasePitch_stroke (chainAdvance (stepConfirmed s))
    rw [hstroke] at hcounts hdrive
    have hfin := finish_work false s (releasePitch (chainAdvance (stepConfirmed s)))
    have hsizes : (finish false s (confirmPitch s)).sizes = s.sizes := by simp
    refine ⟨_, exec_pitchConfirm hs hr, ?_, ?_, ?_, congrArg Sizes.clips hsizes, ?_⟩
    · exact (congrArg Work.chainStep hfin).trans (congrArg (fun p => p.1) hcounts)
    · exact (congrArg Work.chainTimer hfin).trans (congrArg (fun p => p.2.1) hcounts)
    · exact (congrArg (fun w : Work => w.outs.2.2.2) hfin).trans hdrive
    · exact finish_not_pitchHeld _ _ hheld

/-- Settles O50: a plan pass plans EMPTY clips above the frontier, at most 8, and runs at the chain advance. -/
theorem aPlanPassFillsEmptyClipsAboveTheFrontier : Obligations.APlanPassFillsEmptyClipsAboveTheFrontier := by
  refine ⟨fun s => ?pass, fun s hs hturn hrev hrun hp => ?advance⟩
  case pass =>
    obtain ⟨u, q, heq, hrel, hfront, hassign, hbudget⟩ := planPass_spec s
    have hclip : clipAt (planPass s) = clipAt u := by rw [heq]; exact clipAt_congr rfl
    rw [hassign, hfront, hclip]
    refine ⟨hbudget, hrel.frontier, fun pos hpos => ?_, fun pos hne => ?_⟩
    · rcases hrel.clips pos with h | ⟨hempty, habove, -⟩
      · exact h
      · rcases hpos with hpos | hpos
        · exact absurd hempty hpos
        · exact absurd habove (not_lt.mpr hpos)
    · rcases hrel.clips pos with h | ⟨-, -, hplanned⟩
      · exact absurd h hne
      · exact hplanned
  case advance =>
    have hpass : passRuns (shiftChain (stepConfirmed s)) = true := by
      have hr : (shiftChain (stepConfirmed s)).jam.run = .running := hrun
      have hv : (shiftChain (stepConfirmed s)).stroke.rev.isSome = true := hrev
      have hu : (shiftChain (stepConfirmed s)).chain.purgeRequired = false := hp
      simp [passRuns, hr, hv, hu]
    have hconfirm : confirmPitch s = planPass (shiftChain (stepConfirmed s)) := by
      have hadvance : chainAdvance (stepConfirmed s) = planPass (shiftChain (stepConfirmed s)) := if_pos hpass
      rw [confirmPitch_eq, hadvance]
      refine releasePitch_of_not_held ?_
      rw [planPass_stroke]
      change s.stroke.shaft ≠ .pitchHeld
      rw [hturn]
      decide
    refine ⟨_, shiftChain (stepConfirmed s), rfl, exec_pitchConfirm hs (by rw [hturn]; decide), ?_, ?_⟩
    · exact (congrArg Work.planner (finish_work false s _)).trans (by rw [hconfirm]; rfl)
    · rw [finish_chain, hconfirm]

end Sys2Proof.Machine
end

section
/-! PROOF. O45 and O46: the DROP mark and the VERIFY mark (R27, R36, R38, R39, R52, R104). -/

namespace Sys2Proof.Machine

/-! ### What the drops read -/

/-- Whether a clip's dispenser may fire depends on the states and parts of the dispensers, the groups, the contexts and the
store. -/
theorem mayFire_congr {s t : State} (hstate : ∀ d, (dispAt t d).state = (dispAt s d).state)
    (hpart : ∀ d, (dispAt t d).part = (dispAt s d).part) (hgroups : t.disp.groups = s.disp.groups)
    (hslots : t.boards.slots = s.boards.slots) (hstore : t.store = s.store) (hsetup : t.console.setup = s.console.setup) :
    mayFire t = mayFire s := by
  have hctx := ctxAt_congr hslots
  have hcfg : cfg t = cfg s := by simp only [cfg, hsetup]
  have hsteps : ∀ c, boundSteps t c = boundSteps s c := fun c => boundSteps_congr hstore rfl
  have hown : ∀ c k, ownIndex t c k = ownIndex s c k := fun c k => by simp only [ownIndex, hcfg, hsteps]
  have hitem : ∀ c n, ownItem t c n = ownItem s c n := fun c n => by
    have hstep : stepItem t c = stepItem s c := funext fun r => by simp only [stepItem, hcfg]
    simp only [ownItem, hsteps, hstep]
  have hof : ∀ slot k o, partOf t slot k o = partOf s slot k o := by
    intro slot k o
    simp only [partOf, hctx, hown]
    cases ctxAt s slot with
    | none => rfl
    | some c =>
      have hbind : (ownIndex s c k).bind (ownItem t c) = (ownIndex s c k).bind (ownItem s c) :=
        congrArg _ (funext (hitem c))
      simp only [hbind]
  funext i
  simp only [mayFire, available, hstate, hpart, groupAt, hgroups, hof]

theorem mayFire_fired (s : State) (d pos : Nat) : mayFire (modDisp s d (Dispenser.fired pos)) = mayFire s := by
  refine mayFire_congr (fun e => ?_) (fun e => ?_) rfl rfl rfl rfl <;>
  · rw [dispAt_modDisp]
    split <;> rfl

theorem mayFire_setClip (s : State) (pos : Nat) (c : Clip) : mayFire (setClip s pos c) = mayFire s :=
  mayFire_congr (fun _ => rfl) (fun _ => rfl) rfl rfl rfl rfl

/-! ### Firing (R27) -/

/-- A PLANNED clip fired, or made EMPTY, by whether its dispenser may fire. -/
def fireOrEmpty (may : ClipItem → Bool) (s : State) (x : Nat × ClipItem) : State :=
  if may x.2 then modDisp s x.2.disp (Dispenser.fired x.1) else setClip s x.1 .empty

theorem mayFire_fireOrEmpty (may : ClipItem → Bool) (s : State) (x : Nat × ClipItem) :
    mayFire (fireOrEmpty may s x) = mayFire s := by
  unfold fireOrEmpty
  split
  · exact mayFire_fired s _ _
  · exact mayFire_setClip s _ _

/-- Each PLANNED clip is fired or made EMPTY by what its dispenser was before the mark. -/
theorem fireClips_eq (l : List (Nat × ClipItem)) (s : State) : fireClips l s =
    (l.foldl (fireOrEmpty (mayFire s)) s, (l.filter fun x => !mayFire s x.2).map (·.2)) := by
  induction l generalizing s with
  | nil => rfl
  | cons x rest ih =>
    obtain ⟨pos, i⟩ := x
    have hmay := mayFire_fireOrEmpty (mayFire s) s (pos, i)
    by_cases h : mayFire s i = true
    · have hone : fireOrEmpty (mayFire s) s (pos, i) = modDisp s i.disp (fun r => { r with outstanding := some pos }) :=
        if_pos h
      have hih := ih (fireOrEmpty (mayFire s) s (pos, i))
      rw [hmay, hone] at hih
      simp only [fireClips, h, if_true, hih, List.foldl_cons, hone, List.filter_cons, Bool.not_true, Bool.false_eq_true,
        if_false]
    · have h : mayFire s i = false := by simpa using h
      have hone : fireOrEmpty (mayFire s) s (pos, i) = setClip s pos .empty := if_neg (by simp [h])
      have hih := ih (fireOrEmpty (mayFire s) s (pos, i))
      rw [hmay, hone] at hih
      simp only [fireClips, h, Bool.false_eq_true, if_false, hih, List.foldl_cons, hone, List.filter_cons, Bool.not_false,
        if_true, List.map_cons]

/-- The clip at a position after the PLANNED clips of a list are fired or made EMPTY. -/
theorem clipAt_fire (may : ClipItem → Bool) (l : List (Nat × ClipItem)) (s : State) (p : Nat) (hp : p < s.chain.clips.length) :
    clipAt (l.foldl (fireOrEmpty may) s) p =
      if ∃ x ∈ l, x.1 = p ∧ may x.2 = false then .empty else clipAt s p := by
  induction l generalizing s with
  | nil => simp
  | cons x rest ih =>
    have hlen : (fireOrEmpty may s x).chain.clips.length = s.chain.clips.length := by
      unfold fireOrEmpty
      split
      · rfl
      · exact List.length_set
    have hclip : clipAt (fireOrEmpty may s x) p = if x.1 = p ∧ may x.2 = false then .empty else clipAt s p := by
      unfold fireOrEmpty
      cases hx : may x.2 with
      | true =>
        rw [if_pos rfl, if_neg (by simp)]
        exact congrFun (clipAt_congr rfl) p
      | false =>
        rw [if_neg Bool.false_ne_true, clipAt_setClip]
        simp [hp]
    rw [List.foldl_cons, ih _ (by rw [hlen]; exact hp), hclip]
    by_cases hr : ∃ y ∈ rest, y.1 = p ∧ may y.2 = false
    · have hc : ∃ y ∈ x :: rest, y.1 = p ∧ may y.2 = false := by
        obtain ⟨y, hy, h⟩ := hr
        exact ⟨y, List.mem_cons_of_mem x hy, h⟩
      rw [if_pos hr, if_pos hc]
    · rw [if_neg hr]
      by_cases hx : x.1 = p ∧ may x.2 = false
      · rw [if_pos hx, if_pos ⟨x, List.mem_cons_self, hx⟩]
      · rw [if_neg hx, if_neg]
        rintro ⟨y, hy, h⟩
        rcases List.mem_cons.mp hy with rfl | hy
        · exact hx h
        · exact hr ⟨y, hy, h⟩

/-- The PLANNED clips of the chain, each with its position. -/
theorem mem_plannedClips {l : List Clip} {n p : Nat} {i : ClipItem} :
    (p, i) ∈ plannedClips l n ↔ n ≤ p ∧ l[p - n]? = some (.planned i) := by
  induction l generalizing n with
  | nil => simp [plannedClips]
  | cons c rest ih =>
    have hrest : (p, i) ∈ plannedClips rest (n + 1) ↔ n + 1 ≤ p ∧ (c :: rest)[p - n]? = some (.planned i) := by
      rw [ih]
      refine and_congr_right fun h => ?_
      have hp : p - n = (p - (n + 1)) + 1 := by omega
      rw [hp, List.getElem?_cons_succ]
    have hhead : ∀ x : Clip, c = x → (n = p → some c = (c :: rest)[p - n]?) := by
      rintro x - rfl
      simp
    cases c with
    | planned j =>
      simp only [plannedClips, List.mem_cons, Prod.mk.injEq, hrest]
      constructor
      · rintro (⟨rfl, rfl⟩ | ⟨h1, h2⟩)
        · simp
        · exact ⟨by omega, h2⟩
      · rintro ⟨h1, h2⟩
        rcases Nat.eq_or_lt_of_le h1 with rfl | h1
        · rw [Nat.sub_self, List.getElem?_cons_zero] at h2
          cases h2
          exact .inl ⟨rfl, rfl⟩
        · exact .inr ⟨h1, h2⟩
    | _ =>
      simp only [plannedClips, hrest]
      refine ⟨fun ⟨h1, h2⟩ => ⟨by omega, h2⟩, fun ⟨h1, h2⟩ => ⟨?_, h2⟩⟩
      rcases Nat.eq_or_lt_of_le h1 with rfl | h1
      · rw [Nat.sub_self, List.getElem?_cons_zero] at h2
        cases h2
      · exact h1

theorem mem_plannedClips_chain {s : State} {p : Nat} {i : ClipItem} :
    (p, i) ∈ plannedClips s.chain.clips 0 ↔ clipAt s p = .planned i := by
  rw [mem_plannedClips, clipAt, List.getD_eq_getElem?_getD, Nat.sub_zero]
  cases s.chain.clips[p]? with
  | none => simp
  | some c => simp

/-! ### DROP_MARK (O45) -/

theorem exec_dropMark {s : State} {r : Revolution} (hr : s.stroke.rev = some r) (h : expects s .drop = true) :
    exec .dropMark s = .next (finish false s (dropMarkWork (takeMark s r .drop) { r with last := .drop })) :=
  congrArg Host.Outcome.next (withMark_of_expected hr h dropMarkWork)

/-- The DROP mark's work at its chain step NONE or CONFIRMED: every PLANNED clip fired or emptied, and the items of those emptied
handed back (R27, R52). -/
theorem dropWork_eq (s : State) : dropWork s =
    handReverted ((plannedClips s.chain.clips 0).foldl (fireOrEmpty (mayFire s)) s)
      (((plannedClips s.chain.clips 0).filter fun x => !mayFire s x.2).map (·.2)) noneReverted := by
  simp only [dropWork, fireClips_eq]

/-- The dispenser records with the dispenser of every clip of a list fired into its clip (R27). -/
def firedRecords (l : List (Nat × ClipItem)) (records : List Dispenser) : List Dispenser :=
  l.foldl (fun a x => a.modify x.2.disp (Dispenser.fired x.1)) records

theorem foldl_fired (may : ClipItem → Bool) (l : List (Nat × ClipItem)) (s : State) (h : ∀ x ∈ l, may x.2 = true) :
    l.foldl (fireOrEmpty may) s = s.setDisp { s.disp with records := firedRecords l s.disp.records } := by
  induction l generalizing s with
  | nil => rfl
  | cons x rest ih =>
    have hx : fireOrEmpty may s x = modDisp s x.2.disp (Dispenser.fired x.1) := if_pos (h x List.mem_cons_self)
    rw [List.foldl_cons, hx, ih _ fun y hy => h y (List.mem_cons_of_mem x hy)]
    rfl

/-- The clip at a position after the DROP mark's work (R27). -/
theorem clipAt_dropWork (s : State) (p : Nat) : clipAt (dropWork s) p =
    (match clipAt s p with
     | .planned i => if mayFire s i then .planned i else .empty
     | x => x) := by
  have hback := OnContexts.handReverted (((plannedClips s.chain.clips 0).filter fun x => !mayFire s x.2).map (·.2))
    noneReverted ((plannedClips s.chain.clips 0).foldl (fireOrEmpty (mayFire s)) s)
  have hclips : clipAt (dropWork s) = clipAt ((plannedClips s.chain.clips 0).foldl (fireOrEmpty (mayFire s)) s) := by
    rw [dropWork_eq]
    exact clipAt_congr (congrArg Chain.clips hback.chain)
  rw [hclips]
  by_cases hp : p < s.chain.clips.length
  · rw [clipAt_fire _ _ s p hp]
    by_cases hx : ∃ x ∈ plannedClips s.chain.clips 0, x.1 = p ∧ mayFire s x.2 = false
    · obtain ⟨⟨q, i⟩, hmem, rfl, hmay⟩ := id hx
      rw [if_pos hx, mem_plannedClips_chain.mp hmem]
      simp only [hmay, Bool.false_eq_true, if_false]
    · rw [if_neg hx]
      split
      · rename_i i hi
        have hmay : mayFire s i = true := by
          by_contra hf
          exact hx ⟨(p, i), mem_plannedClips_chain.mpr hi, rfl, by simpa using hf⟩
        rw [if_pos hmay, hi]
      · rfl
  · have hlen : ((plannedClips s.chain.clips 0).foldl (fireOrEmpty (mayFire s)) s).chain.clips.length =
        s.chain.clips.length := by
      have hfire := (OnDrops.fireClips (plannedClips s.chain.clips 0) s).length
      rwa [fireClips_eq] at hfire
    have hout : ∀ u : State, u.chain.clips.length = s.chain.clips.length → clipAt u p = .unknown := by
      intro u hu
      rw [clipAt, List.getD_eq_getElem?_getD, List.getElem?_eq_none (by omega)]
      rfl
    rw [hout _ hlen, hout s rfl]

/-- Settles O45: the DROP mark holds the pitch, or fires the PLANNED clips that may fire and reverts the others. -/
theorem dropMarkFiresThePlannedClips : Obligations.DropMarkFiresThePlannedClips := by
  intro s r hr he
  have hexec := exec_dropMark hr he
  have hturn := takeMark_turning he r
  have hwork (hn : s.stroke.chainStep ≠ .started) : dropMarkWork (takeMark s r .drop) { r with last := .drop } =
      dropWork (takeMark s r .drop) := if_neg hn
  have hdrops := OnDrops.dropWork (takeMark s r .drop)
  have hshaft (hn : s.stroke.chainStep ≠ .started) :
      (dropMarkWork (takeMark s r .drop) { r with last := .drop }).stroke.shaft = .turning := by
    rw [hwork hn, hdrops.stroke]
    exact hturn
  refine ⟨fun hs => ?held, fun hn hall => ?fires, fun hn => ?clips,
    fun p i c j n hn hl hmay hboard ho hc hj hown hclosed hroom hk => ?reverted⟩
  case held =>
    have hhold : dropMarkWork (takeMark s r .drop) { r with last := .drop } = (setHold (takeMark s r .drop)).setStroke
        { (takeMark s r .drop).stroke with shaft := .pitchHeld, markTimer := none } := if_pos hs
    have hg : (dropMarkWork (takeMark s r .drop) { r with last := .drop }).stroke.shaft ≠ .gateHeld := by
      rw [hhold]
      exact nofun
    refine ⟨_, hexec, ?_⟩
    rw [finish_shaft_eq _ _ hg, finish_markTimer_eq _ _ hg, finish_work, hhold]
    exact ⟨rfl, rfl, rfl⟩
  case fires =>
    have hnone : ((plannedClips s.chain.clips 0).filter fun x => !mayFire s x.2) = [] := by
      rw [List.filter_eq_nil_iff]
      intro x hx
      simp [hall x hx]
    have hmay : mayFire (takeMark s r .drop) = mayFire s :=
      mayFire_congr (fun _ => rfl) (fun _ => rfl) rfl rfl rfl rfl
    have hdrop : dropWork (takeMark s r .drop) = (takeMark s r .drop).setDisp
        { s.disp with records := firedRecords (plannedClips s.chain.clips 0) s.disp.records } := by
      rw [dropWork_eq, hmay]
      change handReverted _ (((plannedClips s.chain.clips 0).filter fun x => !mayFire s x.2).map (·.2)) noneReverted = _
      rw [hnone]
      exact foldl_fired (mayFire s) (plannedClips s.chain.clips 0) (takeMark s r .drop) hall
    refine ⟨_, hexec, finish_turning _ _ (hshaft hn), ?_⟩
    rw [finish_work, hwork hn, hdrop]
    rfl
  case clips =>
    refine ⟨_, hexec, finish_turning _ _ (hshaft hn), ?_, fun p => ?_⟩
    · rw [finish_chain, hwork hn]
      exact hdrops.length
    · have hclip := clipAt_dropWork (takeMark s r .drop) p
      have hmay : mayFire (takeMark s r .drop) = mayFire s :=
        mayFire_congr (fun _ => rfl) (fun _ => rfl) rfl rfl rfl rfl
      have hat : clipAt (takeMark s r .drop) p = clipAt s p := rfl
      rw [hmay, hat] at hclip
      rw [clipAt_congr (congrArg Chain.clips (finish_chain false s _)), hwork hn]
      exact hclip
  case reverted =>
    have hmay' : mayFire (takeMark s r .drop) = mayFire s :=
      mayFire_congr (fun _ => rfl) (fun _ => rfl) rfl rfl rfl rfl
    let u := setClip (takeMark s r .drop) p .empty
    have hdrop : dropWork (takeMark s r .drop) =
        queueRetry (makePending u i.board i.key .own n) i.board i.key .own (noneReverted.getD i.board 0) := by
      have hfold : ([(p, i)] : List (Nat × ClipItem)).foldl (fireOrEmpty (mayFire s)) (takeMark s r .drop) = u :=
        if_neg (by simp [hmay])
      have hfilter : (([(p, i)] : List (Nat × ClipItem)).filter fun x => !mayFire s x.2).map (·.2) = [i] := by simp [hmay]
      have hlist : plannedClips (takeMark s r .drop).chain.clips 0 = [(p, i)] := hl
      have hin : inChainRetries u i.board i.key .own = some n := inChainRetries_own (s := u) hc hj hown
      rw [dropWork_eq, hmay', hlist, hfold, hfilter]
      simp only [handReverted, ho, hin]
    have hplace : noneReverted.getD i.board 0 = 0 := by
      rcases i.board with _ | _ | _ | _ | _ | n <;> rfl
    have hback := handBack_own (s := u) hc hj hown hclosed hroom hk n (noneReverted.getD i.board 0)
    have hon : OnContexts u (dropWork (takeMark s r .drop)) := by
      rw [hdrop]
      exact ((OnSlot.makePending u i.board i.key .own n).trans (.queueRetry _ _ _ _ _)).toOnContexts
    have hmod := congrArg Context.own (modOwn_pending hown)
    simp only [Context.modOwn] at hmod
    refine ⟨_, hexec, ?_, ?_, ?_⟩
    · rw [finish_disp, hwork hn, hon.disp]
      rfl
    · rw [finish_chain, hwork hn, hon.chain]
      rfl
    · rw [hplace, hmod] at hback
      rw [hwork hn, hdrop, hplace]
      refine finish_ctxAt_of_waiting (i := j) (o := { state := .pending, retries := n }) _ _ hback ?_ (.inl rfl)
      simp [hown]

/-! ### Alarms that stand -/

/-- An alarm of a class and source stands in the list, not acknowledged. -/
def Jam.Raised (j : Jam) (c : AlarmClass) (src : AlarmSource) : Prop :=
  ∃ e ∈ j.alarms, e.cls = c ∧ e.source = src ∧ e.acked = false

/-- An alarm counted into its entry stands not acknowledged (R175). -/
theorem countAlarm_raised {c : AlarmClass} {src : AlarmSource} {l l' : List AlarmEntry} (h : countAlarm c src l = some l') :
    ∃ e ∈ l', e.cls = c ∧ e.source = src ∧ e.acked = false := by
  induction l generalizing l' with
  | nil => cases h
  | cons e rest ih =>
    simp only [countAlarm] at h
    split at h
    · rename_i he
      cases h
      simp only [Bool.and_eq_true, beq_iff_eq] at he
      exact ⟨_, List.mem_cons_self, he.1, he.2, rfl⟩
    · cases hr : countAlarm c src rest with
      | none => simp [hr] at h
      | some l1 =>
        rw [hr] at h
        cases h
        obtain ⟨e', he', hc⟩ := ih hr
        exact ⟨e', List.mem_cons_of_mem e he', hc⟩

/-- An entry not acknowledged stands after another alarm is counted (R175). -/
theorem countAlarm_keeps {c c' : AlarmClass} {src src' : AlarmSource} {l l' : List AlarmEntry}
    (h : countAlarm c src l = some l') (hr : ∃ e ∈ l, e.cls = c' ∧ e.source = src' ∧ e.acked = false) :
    ∃ e ∈ l', e.cls = c' ∧ e.source = src' ∧ e.acked = false := by
  induction l generalizing l' with
  | nil => cases h
  | cons x rest ih =>
    obtain ⟨e, he, hc⟩ := hr
    simp only [countAlarm] at h
    split at h
    · cases h
      rcases List.mem_cons.mp he with rfl | he
      · exact ⟨_, List.mem_cons_self, hc.1, hc.2.1, rfl⟩
      · exact ⟨e, List.mem_cons_of_mem _ he, hc⟩
    · cases hr : countAlarm c src rest with
      | none => simp [hr] at h
      | some l1 =>
        rw [hr] at h
        cases h
        rcases List.mem_cons.mp he with rfl | he
        · exact ⟨e, List.mem_cons_self, hc⟩
        · obtain ⟨e', he', hc'⟩ := ih hr ⟨e, he, hc⟩
          exact ⟨e', List.mem_cons_of_mem _ he', hc'⟩

/-- An entry not acknowledged is not the one that a new alarm displaces (R176). -/
theorem dropAckedNote_keeps {c : AlarmClass} {src : AlarmSource} {l l' : List AlarmEntry} (h : dropAckedNote l = some l')
    (hr : ∃ e ∈ l, e.cls = c ∧ e.source = src ∧ e.acked = false) :
    ∃ e ∈ l', e.cls = c ∧ e.source = src ∧ e.acked = false := by
  induction l generalizing l' with
  | nil => cases h
  | cons x rest ih =>
    obtain ⟨e, he, hc⟩ := hr
    simp only [dropAckedNote] at h
    split at h
    · rename_i hx
      cases h
      rcases List.mem_cons.mp he with rfl | he
      · simp [hc.2.2] at hx
      · exact ⟨e, he, hc⟩
    · cases hr : dropAckedNote rest with
      | none => simp [hr] at h
      | some l1 =>
        rw [hr] at h
        cases h
        rcases List.mem_cons.mp he with rfl | he
        · exact ⟨e, List.mem_cons_self, hc⟩
        · obtain ⟨e', he', hc'⟩ := ih hr ⟨e, he, hc⟩
          exact ⟨e', List.mem_cons_of_mem _ he', hc'⟩

theorem Jam.Raised.append {j : Jam} {c c' : AlarmClass} {src src' : AlarmSource} {l : List AlarmEntry}
    (h : ∃ e ∈ l, e.cls = c ∧ e.source = src ∧ e.acked = false) (n : Nat) : (j.append l c' src' n).Raised c src := by
  obtain ⟨e, he, hc⟩ := h
  exact ⟨e, List.mem_append_left _ he, hc⟩

/-- An alarm that stands not acknowledged stands after another is raised (R175, R176). -/
theorem Jam.Raised.enter {j : Jam} {c c' : AlarmClass} {src src' : AlarmSource} (h : j.Raised c src) (n : Nat) :
    (j.enter c' src' n).Raised c src := by
  have hadd : (j.add c' src' n).Raised c src := by
    unfold Jam.add
    split
    · exact Jam.Raised.append h n
    · split
      · rename_i l hl
        exact Jam.Raised.append (dropAckedNote_keeps hl h) n
      · exact h
  unfold Jam.enter
  split
  · exact hadd
  · split
    · rename_i l hl
      exact countAlarm_keeps hl h
    · exact hadd

/-- An alarm raised with room in the list stands (R175). -/
theorem Jam.raised_enter {j : Jam} (c : AlarmClass) (src : AlarmSource) (n : Nat) (h : j.alarms.length < 16) :
    (j.enter c src n).Raised c src := by
  have hadd : (j.add c src n).Raised c src := by
    unfold Jam.add
    rw [if_pos h]
    exact ⟨_, List.mem_append_right _ (List.mem_singleton_self _), rfl, rfl, rfl⟩
  unfold Jam.enter
  split
  · exact hadd
  · split
    · rename_i l hl
      exact countAlarm_raised hl
    · exact hadd

/-- The end of a command leaves an alarm that stands not acknowledged. -/
theorem finish_raised (atUp : Bool) (before : State) {s : State} {c : AlarmClass} {src : AlarmSource}
    (h : s.jam.Raised c src) : (finish atUp before s).jam.Raised c src := by
  have haim : (releaseGate (aim atUp before (testFinished s))).jam.Raised c src := by
    have hr : (releaseGate (aim atUp before (testFinished s))).jam = s.jam := by simp
    rw [hr]
    exact h
  have hrun : ∀ u : State, u.jam.Raised c src → (completeRun u).jam.Raised c src := by
    intro u hu
    unfold completeRun
    (repeat' split) <;> exact hu
  have hhold : ∀ u : State, u.jam.Raised c src → (updateHold u).jam.Raised c src := by
    intro u hu
    unfold updateHold watchDownstream
    dsimp only
    split
    · exact Jam.Raised.enter hu _
    · exact hu
  rw [finish, statusOnChange_jam]
  refine hhold _ ?_
  rw [dropStale_jam]
  exact hrun _ haim

/-! ### VERIFY_MARK (O46) -/

theorem exec_verifyMark {s : State} {r : Revolution} (hr : s.stroke.rev = some r) (h : expects s .verify = true) :
    exec .verifyMark s = .next (finish false s (verifyWork (takeMark s r .verify))) :=
  congrArg Host.Outcome.next (withMark_of_expected hr h fun s _ => verifyWork s)

theorem verifyWork_of_empty {s : State} (hv : (cfg s).verifier = true) (hm : s.chain.measurement = none) {i : ClipItem}
    (hi : clipAt s (cfg s).verifyPos = .loaded i) : verifyWork s = beginMeasurement s (cfg s).verifyPos i := by
  simp only [verifyWork, hv, if_true, hm, hi]

theorem beginMeasurement_of_unchecked {s : State} {pos : Nat} {i : ClipItem}
    (h : (partEntryOf s (partOf s i.board i.key i.origin)).kind = .unchecked) :
    beginMeasurement s pos i = acceptClip s pos i false := if_pos h

theorem beginMeasurement_of_checked {s : State} {pos : Nat} {i : ClipItem}
    (h : (partEntryOf s (partOf s i.board i.key i.origin)).kind ≠ .unchecked) :
    beginMeasurement s pos i = s.setChain { s.chain with
      measurement := some { key := i.key, position := pos, disp := i.disp
                            entry := partEntryOf s (partOf s i.board i.key i.origin), tag := s.chain.tagCount }
      tagCount := (s.chain.tagCount + 1) % 8 } := if_neg h

/-- A missing outcome: the clip REJECTED with the record emptied, and a VERIFY_FAULT (R36, R39). -/
theorem verifyMissing_spec {s : State} {m : Measurement} {i : ClipItem} (hi : measured s m = some i)
    (hroom : s.jam.alarms.length < 16) :
    (verifyMissing s m).chain = { s.chain with
      measurement := none, clips := s.chain.clips.set m.position (.rejected i.key (some i.board) i.disp i.origin) } ∧
    (verifyMissing s m).disp = s.disp ∧ (verifyMissing s m).stroke = s.stroke ∧
    (verifyMissing s m).jam.Raised .verifyFault (.dispenser i.disp) := by
  have hback := OnSlot.handCounted (setClip (clearMeasurement s) m.position
    (.rejected i.key (some i.board) i.disp i.origin)) i.board i.key i.origin
  have heq : verifyMissing s m = enterAlarm (rejectClip (clearMeasurement s) m.position i) .verifyFault (.dispenser i.disp) := by
    simp only [verifyMissing, hi]
  rw [heq]
  refine ⟨hback.chain, hback.disp, hback.stroke, Jam.raised_enter _ _ _ ?_⟩
  rw [rejectClip, hback.jam]
  exact hroom

/-- Settles O46: the VERIFY mark starts the measurement at the verify position, or faults a missing outcome. -/
theorem verifyMarkStartsTheMeasurement : Obligations.VerifyMarkStartsTheMeasurement := by
  intro s r hr he
  have hexec := exec_verifyMark hr he
  have hturn := takeMark_turning he r
  refine ⟨fun h => ?nothing, fun i hv hm hi hk => ?accepted, fun i hv hm hi hk => ?begun,
    fun m i hv hm hi hk hother hroom => ?missing⟩
  case nothing =>
    have hnone : verifyWork (takeMark s r .verify) = takeMark s r .verify := by
      unfold verifyWork
      split
      case isTrue hv =>
        rcases h with h | ⟨hm, hl⟩
        · exact absurd (h.symm.trans hv) Bool.false_ne_true
        · have hm' : (takeMark s r .verify).chain.measurement = none := hm
          rw [hm']
          dsimp only
          split
          · rename_i i hi
            exact absurd hi (hl i)
          · rfl
      case isFalse => rfl
    refine ⟨_, hexec, finish_turning _ _ (by rw [hnone]; exact hturn), ?_⟩
    rw [finish_work, hnone]
    rfl
  case accepted =>
    refine ⟨_, hexec, ?_⟩
    rw [finish_work, verifyWork_of_empty (s := takeMark s r .verify) hv hm hi, beginMeasurement_of_unchecked (s := takeMark s r .verify) hk]
    rfl
  case begun =>
    refine ⟨_, hexec, ?_⟩
    rw [finish_work, verifyWork_of_empty (s := takeMark s r .verify) hv hm hi, beginMeasurement_of_checked (s := takeMark s r .verify) hk]
    rfl
  case missing =>
    have hmeasured : measured (takeMark s r .verify) m = some i := measured_of_loaded hi hk
    obtain ⟨hchain, hdisp, hstroke, hraised⟩ := verifyMissing_spec (s := takeMark s r .verify) hmeasured hroom
    have hwork : verifyWork (takeMark s r .verify) = verifyMissing (takeMark s r .verify) m := by
      have hm' : (takeMark s r .verify).chain.measurement = some m := hm
      have hv' : (cfg (takeMark s r .verify)).verifier = true := hv
      unfold verifyWork
      rw [if_pos hv', hm']
      dsimp only
      split
      · rename_i j hj
        have hpos : m.position < s.chain.clips.length := clipAt_lt_of_loaded hi
        have hset : clipAt (verifyMissing (takeMark s r .verify) m) =
            clipAt (setClip s m.position (.rejected i.key (some i.board) i.disp i.origin)) :=
          clipAt_congr (by rw [hchain]; rfl)
        rw [hset, clipAt_setClip] at hj
        split at hj
        · cases hj
        · rename_i hne
          have hj' : clipAt s (cfg s).verifyPos = .loaded j := hj
          have heq : m.position = (cfg s).verifyPos := (hother j hj').symm
          exact absurd ⟨heq, heq ▸ hpos⟩ hne
      · rfl
    refine ⟨_, hexec, finish_turning _ _ (by rw [hwork, hstroke]; exact hturn), ?_, ?_, ?_⟩
    · rw [finish_disp, hwork, hdisp]
      rfl
    · rw [finish_chain, hwork, hchain]
      rfl
    · rw [hwork]
      exact finish_raised _ _ hraised

end Sys2Proof.Machine
end

section
/-! PROOF. O47, O48 and O49: the GATE, DOWN, CLINCH and UP marks (R29 to R31, R108, R110 to R113). -/

namespace Sys2Proof.Machine

/-! ### A hold at GATE through the end of a command -/

/-- A hold that may not be left stays (R108). -/
theorem finish_gateHeld {atUp : Bool} {before s : State}
    (h : mayLeaveGate (aim atUp before (testFinished s)) = false) :
    (finish atUp before s).stroke.motion = s.stroke.motion := by
  have ha : (aim atUp before (testFinished s)).stroke.motion = s.stroke.motion := by simp [aim]
  have hr : releaseGate (aim atUp before (testFinished s)) = aim atUp before (testFinished s) :=
    if_neg fun e => by rw [h] at e; exact Bool.false_ne_true e.2
  rw [finish, statusOnChange_stroke, updateHold_stroke, dropStale_stroke, completeRun_stroke, hr, ha]

theorem mayLeaveGate_of_open {atUp : Bool} {before s : State} (h : s.inputs.guardOpen = true) :
    mayLeaveGate (aim atUp before (testFinished s)) = false := by
  have hw : (aim atUp before (testFinished s)).inputs.guardOpen = s.inputs.guardOpen :=
    congrArg (fun w : Work => w.levels.guardOpen) ((aim_work _ _ _).trans (testFinished_work s))
  simp [mayLeaveGate, hw, h]

theorem headBusy_congr {s t : State} (h : t.stroke = s.stroke) : headBusy t = headBusy s := by
  simp only [headBusy, h]

theorem gateTest_congr {s t : State} (hk : t.stroke = s.stroke) (hl : t.pose.last = s.pose.last) (ht : t.table = s.table) :
    gateTest t = gateTest s := by
  simp only [gateTest, tableAt, tableBusy, actuatorsAt, hk, hl, ht]

/-- While the head is busy nothing is aimed (R82, R106). -/
theorem aim_of_headBusy {s : State} (h : headBusy s = true) (atUp : Bool) (before : State) :
    aim atUp before s = dropStale s := by
  have hb : headBusy (dropStale s) = true := (headBusy_congr (dropStale_stroke s)).trans h
  have hclip : aimedClip (dropStale s) = none := by simp [aimedClip, hb]
  have htable : aimTable atUp (dropStale s) = dropStale s := by simp only [aimTable, hclip]
  have hact : aimActuators atUp (dropStale s) = dropStale s := by
    simp only [aimActuators, hclip, keepBack, hb, if_true, ite_self]
  have hreach : reachedClip (dropStale s) = none := by
    unfold reachedClip
    rw [hclip]
    split
    · rename_i e
      cases e
    · rfl
  rw [aim, htable, hact, zeroCountdown]
  split
  · rw [if_neg (by simp [hreach])]
  · rfl

theorem mayLeaveGate_of_unsettled {atUp : Bool} {before s : State} (hb : headBusy s = true) (hd : descending s = true)
    (hg : gateTest s = false) : mayLeaveGate (aim atUp before (testFinished s)) = false := by
  have hbt : headBusy (testFinished s) = true := (headBusy_congr (testFinished_stroke s)).trans hb
  have hstroke : (dropStale (testFinished s)).stroke = s.stroke := by simp
  have hlast : (dropStale (testFinished s)).pose.last = s.pose.last :=
    congrArg Work.last ((dropStale_work _).trans (testFinished_work s))
  have htest : gateTest (dropStale (testFinished s)) = false := by
    rw [gateTest_congr hstroke hlast (by simp)]
    exact hg
  have hdesc : descending (dropStale (testFinished s)) = true := by
    simp only [descending, hstroke]
    exact hd
  rw [aim_of_headBusy hbt]
  simp [mayLeaveGate, hdesc, htest]

/-! ### The drops outstanding at GATE (R29) -/

theorem mem_insertDrop {pos d : Nat} {l : List (Nat × Nat)} {x : Nat × Nat} :
    x ∈ insertDrop pos d l ↔ x = (pos, d) ∨ x ∈ l := by
  induction l with
  | nil => simp [insertDrop]
  | cons y rest ih =>
    obtain ⟨q, e⟩ := y
    simp only [insertDrop]
    split
    · simp
    · simp only [List.mem_cons, ih]
      tauto

/-- The outstanding drops: each dispenser with the position it was fired into. -/
theorem mem_outstandingDrops {l : List Dispenser} {n pos d : Nat} :
    (pos, d) ∈ outstandingDrops l n ↔ n ≤ d ∧ (l[d - n]?).bind (·.outstanding) = some pos := by
  induction l generalizing n with
  | nil => simp [outstandingDrops]
  | cons r rest ih =>
    have hrest : (pos, d) ∈ outstandingDrops rest (n + 1) ↔
        n + 1 ≤ d ∧ ((r :: rest)[d - n]?).bind (·.outstanding) = some pos := by
      rw [ih]
      refine and_congr_right fun h => ?_
      have hd : d - n = (d - (n + 1)) + 1 := by omega
      rw [hd, List.getElem?_cons_succ]
    have hsplit : (n ≤ d ∧ ((r :: rest)[d - n]?).bind (·.outstanding) = some pos) ↔
        (n = d ∧ r.outstanding = some pos) ∨ (n + 1 ≤ d ∧ ((r :: rest)[d - n]?).bind (·.outstanding) = some pos) := by
      constructor
      · rintro ⟨h1, h2⟩
        rcases Nat.eq_or_lt_of_le h1 with rfl | h1
        · rw [Nat.sub_self, List.getElem?_cons_zero] at h2
          exact .inl ⟨rfl, h2⟩
        · exact .inr ⟨h1, h2⟩
      · rintro (⟨rfl, h⟩ | ⟨h1, h2⟩)
        · rw [Nat.sub_self, List.getElem?_cons_zero]
          exact ⟨le_refl _, h⟩
        · exact ⟨by omega, h2⟩
    unfold outstandingDrops
    rw [hsplit]
    split
    · rename_i p hp
      rw [mem_insertDrop, hrest, hp, Prod.mk.injEq, Option.some.injEq]
      refine or_congr ⟨?_, ?_⟩ Iff.rfl
      · rintro ⟨h1, h2⟩; exact ⟨h2.symm, h1.symm⟩
      · rintro ⟨h1, h2⟩; exact ⟨h2.symm, h1.symm⟩
    · rename_i hp
      rw [hrest, hp]
      simp

theorem outstandingDrops_of_none {l : List Dispenser} (h : ∀ r ∈ l, r.outstanding = none) (n : Nat) :
    outstandingDrops l n = [] := by
  induction l generalizing n with
  | nil => rfl
  | cons r rest ih =>
    rw [outstandingDrops, h r List.mem_cons_self]
    exact ih (fun x hx => h x (List.mem_cons_of_mem r hx)) (n + 1)

theorem outstandingDrops_single {l : List Dispenser} {k pos : Nat} (hk : (l[k]?).bind (·.outstanding) = some pos)
    (h : ∀ j, j ≠ k → (l[j]?).bind (·.outstanding) = none) (n : Nat) : outstandingDrops l n = [(pos, n + k)] := by
  induction l generalizing k n with
  | nil => simp at hk
  | cons r rest ih =>
    cases k with
    | zero =>
      have hr : r.outstanding = some pos := hk
      have hrest : outstandingDrops rest (n + 1) = [] := by
        refine outstandingDrops_of_none (fun x hx => ?_) _
        obtain ⟨j, hj, rfl⟩ := List.getElem_of_mem hx
        have := h (j + 1) (by omega)
        rwa [List.getElem?_cons_succ, List.getElem?_eq_getElem hj] at this
      simp only [outstandingDrops, hr, hrest, insertDrop, Nat.add_zero]
    | succ k =>
      have hr : r.outstanding = none := h 0 (by omega)
      have hrest := ih (k := k) hk (fun j hj => h (j + 1) (by omega)) (n + 1)
      simp only [outstandingDrops, hr, hrest]
      congr 2
      omega

theorem missDrops_of_none {s : State} (h : ∀ r ∈ s.disp.records, r.outstanding = none) : missDrops s = s := by
  rw [missDrops, outstandingDrops_of_none h]
  rfl

/-! ### A counted fault (R30, R31) -/

/-- The drop of a dispenser: outstanding, or missed. -/
def Dispenser.drop (r : Dispenser) : Option Nat × Option Nat := (r.outstanding, r.missed)

section
variable {s : State} {d : Nat}

theorem countDispenser_disp (s : State) (d : Nat) : (countDispenser s d).disp = (modDisp s d Dispenser.fault).disp := by
  unfold countDispenser
  dsimp only
  split <;> rfl

theorem countGroup_records (s : State) (d : Nat) : (countGroup s d).disp.records = s.disp.records := by
  unfold countGroup
  dsimp only
  split <;> rfl

theorem dispAt_countFault (hd : d < s.disp.records.length) : dispAt (countFault s d) d = (dispAt s d).fault := by
  have hrec : (countFault s d).disp.records = (modDisp s d Dispenser.fault).disp.records := by
    rw [countFault, countGroup_records, countDispenser_disp]
  have hat : dispAt (countFault s d) d = dispAt (modDisp s d Dispenser.fault) d := by simp only [dispAt, hrec]
  rw [hat, dispAt_modDisp, if_pos ⟨rfl, hd⟩]

theorem drop_countFault (s : State) (d e : Nat) : (dispAt (countFault s d) e).drop = (dispAt s e).drop := by
  have hrec : (countFault s d).disp.records = (modDisp s d Dispenser.fault).disp.records := by
    rw [countFault, countGroup_records, countDispenser_disp]
  have hat : dispAt (countFault s d) e = dispAt (modDisp s d Dispenser.fault) e := by simp only [dispAt, hrec]
  rw [hat, dispAt_modDisp]
  split <;> rfl

theorem groupAt_countFault_eq (hd : d / 4 < s.disp.groups.length) :
    groupAt (countFault s d) (d / 4) = (groupAt s (d / 4)).fault (cfg s).quarantine := by
  have hcfg : cfg (countDispenser s d) = cfg s := by
    unfold countDispenser
    dsimp only
    split <;> rfl
  have hgroups := countGroup_groups (countDispenser s d) d
  rw [countDispenser_groups, hcfg] at hgroups
  simp only [countFault, groupAt, hgroups, List.getD_eq_getElem?_getD, List.getElem?_modify, hd, getElem?_pos, if_true,
    Option.getD_some]
  rfl

theorem length_countDispenser (s : State) (d : Nat) :
    (countDispenser s d).jam.alarms.length ≤ s.jam.alarms.length + 1 := by
  unfold countDispenser
  dsimp only
  split
  · exact Jam.enter_length _ _ _ _
  · exact Nat.le_succ _

theorem raised_countDispenser (hj : (dispAt s d).jams = true) (h : s.jam.alarms.length < 16) :
    (countDispenser s d).jam.Raised .dispenserJam (.dispenser d) := by
  unfold countDispenser
  dsimp only
  rw [if_pos hj]
  exact Jam.raised_enter _ _ _ h

theorem length_countGroup (s : State) (d : Nat) : (countGroup s d).jam.alarms.length ≤ s.jam.alarms.length + 1 := by
  unfold countGroup
  dsimp only
  split
  · exact Jam.enter_length _ _ _ _
  · exact Nat.le_succ _

theorem raised_countGroup (hq : (groupAt s (d / 4)).quarantines (cfg s).quarantine = true) (h : s.jam.alarms.length < 16) :
    (countGroup s d).jam.Raised .groupQuarantine (.group (d / 4)) := by
  unfold countGroup
  dsimp only
  rw [if_pos hq]
  exact Jam.raised_enter _ _ _ h

theorem Jam.Raised.countGroup {c : AlarmClass} {src : AlarmSource} (h : s.jam.Raised c src) (d : Nat) :
    (countGroup s d).jam.Raised c src := by
  unfold Machine.countGroup
  dsimp only
  split
  · exact Jam.Raised.enter h _
  · exact h

/-! ### One miss (R29) -/

/-- The state after a miss, before it is counted: the drop ended, its clip EMPTY and its item handed back (R29). -/
def dropEnded (s : State) (pos d : Nat) : State :=
  match clipAt s pos with
  | .planned i => handCounted (setClip (endDrop s pos d) pos .empty) i.board i.key i.origin
  | .surplus _ _ _ _ => setClip (endDrop s pos d) pos .empty
  | _ => endDrop s pos d

theorem missDrop_eq (s : State) (pos d : Nat) :
    missDrop s pos d = enterAlarm (countFault (dropEnded s pos d) d) .dropMiss (.dispenser d) := rfl

theorem dropEnded_onDrops (s : State) (pos d : Nat) : OnDrops s (dropEnded s pos d) ∧
    (dropEnded s pos d).disp = (endDrop s pos d).disp := by
  have hend : OnDrops s (endDrop s pos d) := .modDisp s d _
  unfold dropEnded
  split
  · have hback := OnSlot.handCounted (setClip (endDrop s pos d) pos .empty)
    exact ⟨(hend.trans (.setClip _ pos _)).trans (hback _ _ _).toOnContexts.onDrops, (hback _ _ _).disp⟩
  · exact ⟨hend.trans (.setClip _ pos _), rfl⟩
  · exact ⟨hend, rfl⟩

theorem length_missDrop (s : State) (pos d : Nat) : (missDrop s pos d).disp.records.length = s.disp.records.length := by
  have hsizes : (missDrop s pos d).sizes = s.sizes := by simp
  exact congrArg Sizes.dispensers hsizes

theorem drop_missDrop (s : State) (pos d e : Nat) : (dispAt (missDrop s pos d) e).drop =
    if d = e ∧ e < s.disp.records.length then (none, some pos) else (dispAt s e).drop := by
  have hat : (dispAt (missDrop s pos d) e).drop = (dispAt (countFault (dropEnded s pos d) d) e).drop := rfl
  have hended : dispAt (dropEnded s pos d) e = dispAt (endDrop s pos d) e := by
    simp only [dispAt, (dropEnded_onDrops s pos d).2]
  rw [hat, drop_countFault, hended, endDrop, dispAt_modDisp]
  split <;> rfl

/-- Every drop of a list that names each dispenser with one position ends as a miss. -/
theorem drop_foldl_missDrop {e : Nat} {pos : Nat} (l : List (Nat × Nat)) (hl : ∀ x ∈ l, x.2 = e → x.1 = pos) {s : State}
    (he : e < s.disp.records.length) :
    (dispAt (l.foldl (fun s x => missDrop s x.1 x.2) s) e).drop =
      if ∃ x ∈ l, x.2 = e then (none, some pos) else (dispAt s e).drop := by
  induction l generalizing s with
  | nil => simp
  | cons x rest ih =>
    have hrest := ih (fun y hy => hl y (List.mem_cons_of_mem x hy)) (s := missDrop s x.1 x.2)
      (by rw [length_missDrop]; exact he)
    rw [List.foldl_cons, hrest, drop_missDrop]
    by_cases hx : x.2 = e
    · rw [if_pos (c := ∃ y ∈ x :: rest, y.2 = e) ⟨x, List.mem_cons_self, hx⟩, if_pos (c := x.2 = e ∧ _) ⟨hx, he⟩,
        hl x List.mem_cons_self hx, ite_self]
    · rw [if_neg (c := x.2 = e ∧ _) fun h => hx h.1]
      refine if_congr ⟨?_, ?_⟩ rfl rfl
      · rintro ⟨y, hy, h⟩
        exact ⟨y, List.mem_cons_of_mem x hy, h⟩
      · rintro ⟨y, hy, h⟩
        rcases List.mem_cons.mp hy with rfl | hy
        · exact absurd h hx
        · exact ⟨y, hy, h⟩

end

/-! ### GATE_MARK (O47) -/

theorem exec_gateMark {s : State} {r : Revolution} (hr : s.stroke.rev = some r) (h : expects s .gate = true) :
    exec .gateMark s = .next (finish false s (gateWork (takeMark s r .gate) { r with last := .gate })) :=
  congrArg Host.Outcome.next (withMark_of_expected hr h gateWork)

/-- The shaft held or released at GATE changes neither the dispensers, the chain nor the list. -/
theorem gateWork_rest (s : State) (r : Revolution) : (gateWork s r).disp = (missDrops s).disp ∧
    (gateWork s r).chain = (missDrops s).chain ∧ (gateWork s r).jam = (missDrops s).jam := by
  unfold gateWork
  dsimp only
  split <;> exact ⟨rfl, rfl, rfl⟩

theorem outstanding_getElem? {s : State} {d pos : Nat} (h : (dispAt s d).outstanding = some pos) :
    (s.disp.records[d]?).bind (·.outstanding) = some pos := by
  rw [dispAt, List.getD_eq_getElem?_getD] at h
  cases hr : s.disp.records[d]? with
  | none =>
    rw [hr] at h
    cases h
  | some r =>
    rw [hr] at h
    exact h

theorem Dispenser.fault_eq (r : Dispenser) :
    r.fault = { r with
      faults := capAt 3 (r.faults + 1)
      state := if 3 ≤ r.faults + 1 ∧ r.state ∈ [.ready, .out, .locked] then .jammed else r.state } := by
  unfold Dispenser.fault
  by_cases h3 : 3 ≤ r.faults + 1
  · simp only [h3, true_and, if_true]
    cases hs : r.state <;> simp
  · simp only [h3, false_and, if_false]

theorem Dispenser.jams_of {r : Dispenser} (h3 : 3 ≤ r.faults + 1) (hs : r.state ∈ [.ready, .out, .locked]) : r.jams = true := by
  have hf : r.fault.state = .jammed := by
    rw [r.fault_eq]
    exact if_pos ⟨h3, hs⟩
  have hn : r.state ≠ .jammed := by
    rintro he
    rw [he] at hs
    simp at hs
  simp [Dispenser.jams, hf, hn]

/-- One miss, counted: what becomes of the clip, the dispenser, the group and the list (R29 to R31). -/
theorem missDrop_spec {s : State} {d pos : Nat} {i : ClipItem} (hd : d < s.disp.records.length)
    (hg : d / 4 < s.disp.groups.length) (hc : clipAt s pos = .planned i) (hroom : s.jam.alarms.length ≤ 13) :
    clipAt (missDrop s pos d) pos = .empty ∧
    dispAt (missDrop s pos d) d = ({ dispAt s d with outstanding := none, missed := some pos } : Dispenser).fault ∧
    groupAt (missDrop s pos d) (d / 4) = (groupAt s (d / 4)).fault (cfg s).quarantine ∧
    (missDrop s pos d).jam.Raised .dropMiss (.dispenser d) ∧
    ((dispAt s d).jams = true → (missDrop s pos d).jam.Raised .dispenserJam (.dispenser d)) ∧
    ((groupAt s (d / 4)).quarantines (cfg s).quarantine = true →
      (missDrop s pos d).jam.Raised .groupQuarantine (.group (d / 4))) := by
  obtain ⟨hon, hdisp⟩ := dropEnded_onDrops s pos d
  have hsetup : (dropEnded s pos d).console.setup = s.console.setup := by rw [hon.console]
  have hcfg : cfg (dropEnded s pos d) = cfg s := by simp only [cfg, hsetup]
  have hrecs : (dropEnded s pos d).disp.records.length = s.disp.records.length := by
    rw [hdisp]
    exact List.length_modify _ _ _
  have hgroups : (dropEnded s pos d).disp.groups = s.disp.groups := by rw [hdisp]; rfl
  have hat : dispAt (dropEnded s pos d) d = { dispAt s d with outstanding := none, missed := some pos } := by
    have : dispAt (dropEnded s pos d) d = dispAt (endDrop s pos d) d := by simp only [dispAt, hdisp]
    rw [this, endDrop, dispAt_modDisp, if_pos ⟨rfl, hd⟩]
  have hgat : groupAt (dropEnded s pos d) (d / 4) = groupAt s (d / 4) := by simp only [groupAt, hgroups]
  have hlen0 : (dropEnded s pos d).jam.alarms.length = s.jam.alarms.length := by rw [hon.jam]
  have hlen1 := length_countDispenser (dropEnded s pos d) d
  have hlen2 := length_countGroup (countDispenser (dropEnded s pos d) d) d
  rw [missDrop_eq]
  refine ⟨?_, ?_, ?_, Jam.raised_enter _ _ _ ?_, fun hj => ?_, fun hq => ?_⟩
  · have hclip : clipAt (enterAlarm (countFault (dropEnded s pos d) d) .dropMiss (.dispenser d)) =
        clipAt (dropEnded s pos d) := clipAt_congr (congrArg Chain.clips (countFault_chain _ d))
    have hended : (dropEnded s pos d).chain = (setClip (endDrop s pos d) pos .empty).chain := by
      have heq : dropEnded s pos d = handCounted (setClip (endDrop s pos d) pos .empty) i.board i.key i.origin := by
        simp only [dropEnded, hc]
      rw [heq]
      exact (OnSlot.handCounted _ _ _ _).chain
    have hin : pos < s.chain.clips.length := by
      by_contra hout
      rw [clipAt, List.getD_eq_getElem?_getD, List.getElem?_eq_none (by omega)] at hc
      cases hc
    rw [hclip, clipAt_congr (congrArg Chain.clips hended), clipAt_setClip, if_pos ⟨rfl, hin⟩]
  · have hfault := dispAt_countFault (s := dropEnded s pos d) (d := d) (by rw [hrecs]; exact hd)
    rw [hat] at hfault
    exact hfault
  · have hfault := groupAt_countFault_eq (s := dropEnded s pos d) (d := d) (by rw [hgroups]; exact hg)
    rw [hgat, hcfg] at hfault
    exact hfault
  · change (countGroup (countDispenser (dropEnded s pos d) d) d).jam.alarms.length < 16
    omega
  · have hjam : (dispAt (dropEnded s pos d) d).jams = true := by rw [hat]; exact hj
    exact Jam.Raised.enter (Jam.Raised.countGroup (raised_countDispenser hjam (by omega)) d) _
  · have hgroup : (groupAt (countDispenser (dropEnded s pos d) d) (d / 4)).quarantines
        (cfg (countDispenser (dropEnded s pos d) d)).quarantine = true := by
      have hc1 : cfg (countDispenser (dropEnded s pos d) d) = cfg (dropEnded s pos d) := by
        unfold countDispenser
        dsimp only
        split <;> rfl
      have hg1 : groupAt (countDispenser (dropEnded s pos d) d) (d / 4) = groupAt s (d / 4) := by
        rw [← hgat]
        simp only [groupAt, countDispenser_groups]
      rw [hg1, hc1, hcfg]
      exact hq
    exact Jam.Raised.enter (raised_countGroup hgroup (by omega)) _

/-- Settles O47: every drop still outstanding ends as a miss, and the shaft is held or leaves GATE. -/
theorem gateMarkHoldsOrReleases : Obligations.GateMarkHoldsOrReleases := by
  intro s r hr he
  have hexec := exec_gateMark hr he
  have hturn := takeMark_turning he r
  obtain ⟨hdisp, hchain, hjam⟩ := gateWork_rest (takeMark s r .gate) { r with last := .gate }
  refine ⟨fun d pos hd hlen ho => ?ends, fun d pos i g hd hlen hglen ho hother hc hg hroom => ?counted,
    fun hn hk hguard hdesc htest => ?unsettled, fun hn hguard => ?guardHeld, fun hn hguard hmay => ?leaves⟩
  case ends =>
    have hmem : ∃ x ∈ outstandingDrops s.disp.records 0, x.2 = d :=
      ⟨(pos, d), mem_outstandingDrops.mpr ⟨Nat.zero_le d, outstanding_getElem? ho⟩, rfl⟩
    have hone : ∀ x ∈ outstandingDrops s.disp.records 0, x.2 = d → x.1 = pos := by
      rintro ⟨p, e⟩ hx rfl
      have hp := (mem_outstandingDrops.mp hx).2
      rw [Nat.sub_zero, outstanding_getElem? ho] at hp
      exact (Option.some.inj hp).symm
    have hdrop := drop_foldl_missDrop (outstandingDrops s.disp.records 0) hone (s := takeMark s r .gate)
      (e := d) (by change d < s.disp.records.length; omega)
    rw [if_pos hmem] at hdrop
    have hfin : dispAt (finish false s (gateWork (takeMark s r .gate) { r with last := .gate })) d =
        dispAt (missDrops (takeMark s r .gate)) d := by
      simp only [dispAt, finish_disp, hdisp]
    have hpair : (dispAt (missDrops (takeMark s r .gate)) d).drop = (none, some pos) := hdrop
    refine ⟨_, hexec, ?_⟩
    rw [hfin]
    exact ⟨congrArg Prod.fst hpair, congrArg Prod.snd hpair⟩
  case counted =>
    have hlist : outstandingDrops s.disp.records 0 = [(pos, 0 + d)] := by
      refine outstandingDrops_single (outstanding_getElem? ho) (fun e hne => ?_) 0
      have hnone := hother e hne
      rw [dispAt, List.getD_eq_getElem?_getD] at hnone
      cases hrec : s.disp.records[e]? with
      | none => rfl
      | some x =>
        rw [hrec] at hnone
        exact hnone
    rw [Nat.zero_add] at hlist
    have hmiss : missDrops (takeMark s r .gate) = missDrop (takeMark s r .gate) pos d := by
      have hlist' : outstandingDrops (takeMark s r .gate).disp.records 0 = [(pos, d)] := hlist
      rw [missDrops, hlist']
      rfl
    obtain ⟨hclip, hat, hgat, hraised, hjams, hquar⟩ := missDrop_spec (s := takeMark s r .gate) (d := d) (pos := pos) (i := i)
      (by change d < s.disp.records.length; omega) (by change d / 4 < s.disp.groups.length; omega) hc hroom
    rw [← hmiss] at hclip hat hgat hraised hjams hquar
    let t := finish false s (gateWork (takeMark s r .gate) { r with last := .gate })
    have hraise {c : AlarmClass} {src : AlarmSource} (h : (missDrops (takeMark s r .gate)).jam.Raised c src) :
        t.jam.Raised c src := finish_raised _ _ (by rw [hjam]; exact h)
    refine ⟨t, hexec, ?_, ?_, ?_, hraise hraised, fun h3 hs => hraise (hjams (Dispenser.jams_of h3 hs)),
      fun hq hthr => hraise (hquar ?_)⟩
    · rw [clipAt_congr (congrArg Chain.clips ((finish_chain false s _).trans hchain))]
      exact hclip
    · have hfin : dispAt t d = dispAt (missDrops (takeMark s r .gate)) d := by simp only [t, dispAt, finish_disp, hdisp]
      rw [hfin, hat, Dispenser.fault_eq]
      rfl
    · have hfin : groupAt t (d / 4) = groupAt (missDrops (takeMark s r .gate)) (d / 4) := by
        simp only [t, groupAt, finish_disp, hdisp]
      rw [hfin, hgat, ← hg]
      change Group.fault (cfg s).quarantine (groupAt s (d / 4)) = _
      unfold Group.fault Group.quarantines
      cases (groupAt s (d / 4)).quarantined <;> simp
    · change Group.quarantines (cfg s).quarantine (groupAt s (d / 4)) = true
      rw [hg, Group.quarantines, hq, decide_eq_true hthr]
      rfl
  case unsettled =>
    have hmiss : missDrops (takeMark s r .gate) = takeMark s r .gate := missDrops_of_none hn
    have htest' : gateTest (takeMark s r .gate) = false := htest
    have hguard' : (takeMark s r .gate).inputs.guardOpen = false := hguard
    have hwork : gateWork (takeMark s r .gate) { r with last := .gate } = holdAtGate (takeMark s r .gate) := by
      simp only [gateWork, hmiss, hguard', hdesc, htest', Bool.not_false, Bool.and_true, Bool.or_true, if_true]
    have hbusy : headBusy (holdAtGate (takeMark s r .gate)) = true := by
      simp [headBusy, holdAtGate, takeMark, hk, Mark.num]
    have hmotion := finish_gateHeld (mayLeaveGate_of_unsettled (atUp := false) (before := s) hbusy hdesc htest)
    refine ⟨_, hexec, ?_⟩
    rw [hwork, finish_work]
    have hshaft := congrArg Stroke.shaft hmotion
    have hmark := congrArg Stroke.markTimer hmotion
    have hgate := congrArg Stroke.gateTimer hmotion
    refine ⟨hshaft, hmark, hgate.trans ?_, rfl⟩
    exact if_neg (by simp [hguard'])
  case guardHeld =>
    have hmiss : missDrops (takeMark s r .gate) = takeMark s r .gate := missDrops_of_none hn
    have hguard' : (takeMark s r .gate).inputs.guardOpen = true := hguard
    have hwork : gateWork (takeMark s r .gate) { r with last := .gate } = holdAtGate (takeMark s r .gate) := by
      simp only [gateWork, hmiss, hguard', Bool.true_or, if_true]
    have hmotion := finish_gateHeld (mayLeaveGate_of_open (atUp := false) (before := s)
      (s := holdAtGate (takeMark s r .gate)) hguard)
    refine ⟨_, hexec, ?_⟩
    rw [hwork, finish_work]
    have hshaft := congrArg Stroke.shaft hmotion
    have hgate := congrArg Stroke.gateTimer hmotion
    refine ⟨hshaft, hgate.trans ?_, rfl⟩
    exact if_pos hguard
  case leaves =>
    have hmiss : missDrops (takeMark s r .gate) = takeMark s r .gate := missDrops_of_none hn
    have hguard' : (takeMark s r .gate).inputs.guardOpen = false := hguard
    have hpass : (r.descending && !gateTest (takeMark s r .gate)) = false := by
      rcases hmay with h | h
      · simp [h]
      · have h' : gateTest (takeMark s r .gate) = true := h
        simp [h']
    have hwork : gateWork (takeMark s r .gate) { r with last := .gate } = leaveGate (takeMark s r .gate) := by
      simp only [gateWork, hmiss, hguard', hpass, Bool.or_false, Bool.false_eq_true, if_false]
    have hgate : (leaveGate (takeMark s r .gate)).stroke.shaft ≠ .gateHeld := nofun
    refine ⟨_, hexec, ?_⟩
    rw [hwork, finish_work, finish_shaft_eq _ _ hgate, finish_rev_eq _ _ hgate, finish_markTimer_eq _ _ hgate]
    exact ⟨rfl, rfl, rfl, leaveGate_work _⟩

end Sys2Proof.Machine
end

section
/-! PROOF. O48 and O49: the DOWN, CLINCH and UP marks (R110 to R112, R124). -/

namespace Sys2Proof.Machine

/-! ### DOWN_MARK, CLINCH_MARK and CLINCH_CONFIRM (O48) -/

theorem exec_downMark {s : State} {r : Revolution} (hr : s.stroke.rev = some r) (h : expects s .down = true) :
    exec .downMark s = .next (finish false s (downWork (takeMark s r .down) { r with last := .down })) :=
  congrArg Host.Outcome.next (withMark_of_expected hr h downWork)

theorem exec_clinchMark {s : State} {r : Revolution} (hr : s.stroke.rev = some r) (h : expects s .clinch = true) :
    exec .clinchMark s = .next (finish false s (clinchWork (takeMark s r .clinch) { r with last := .clinch })) :=
  congrArg Host.Outcome.next (withMark_of_expected hr h clinchWork)

theorem clinchWork_eq (s : State) (r : Revolution) :
    clinchWork s r = s.setStroke { s.stroke with clinchOut := r.descending || s.stroke.clinchOut } := by
  unfold clinchWork
  cases r.descending <;> rfl

/-- The insertion report of an own item that its context holds (R124). -/
theorem reportInserted_own {s : State} {slot i : Nat} {k : ItemKey} {c : Context} (hc : ctxAt s slot = some c)
    (hi : ownIndex s c k = some i) : reportInserted s (some slot) k .own = setSlot s slot (some (c.insertOwn i)) := by
  simp only [reportInserted, hc, hi]

/-- Settles O48: a descending revolution opens its jaws and reports its item; the clinch output fires and is confirmed. -/
theorem descentInsertsTheItem : Obligations.DescentInsertsTheItem := by
  intro s r hr
  refine ⟨fun he hd => ?stays, fun k slot p flip c i he hd hj hc hi hs => ?inserts, fun he => ?clinch, fun hl => ?confirmed,
    fun hl => ?ignored⟩
  case stays =>
    have hwork : downWork (takeMark s r .down) { r with last := .down } = takeMark s r .down := if_neg (by simp [hd])
    refine ⟨_, exec_downMark hr he, finish_turning _ _ (by rw [hwork]; exact takeMark_turning he r), ?_⟩
    rw [finish_work, hwork]
    rfl
  case inserts =>
    let u := (takeMark s r .down).setStroke { (takeMark s r .down).stroke with
      descentOut := true, jawOut := false, rev := some { r with last := .down, clinch := .awaited } }
    have hins : c.insertOwn i = { c.modOwn i (fun o => { o with state := .inserted }) with
        ownInserted := capAt 65535 (c.ownInserted + 1) } := if_pos (.inl hs)
    have hreport : reportInserted u (some slot) k .own = setSlot u slot (some (c.insertOwn i)) :=
      reportInserted_own (s := u) hc hi
    have hwork : downWork (takeMark s r .down) { r with last := .down } = setSlot u slot (some (c.insertOwn i)) := by
      have hj' : (takeMark s r .down).stroke.jaw = .item k (some slot) p flip .own := hj
      rw [← hreport]
      unfold downWork
      rw [if_pos hd, hj']
    refine ⟨_, exec_downMark hr he, finish_turning _ _ (by rw [hwork]; exact takeMark_turning he r), ?_⟩
    rw [finish_work, hwork, hins]
    rfl
  case clinch =>
    refine ⟨_, exec_clinchMark hr he, finish_turning _ _ (by rw [clinchWork_eq]; exact takeMark_turning he r), ?_⟩
    rw [finish_work, clinchWork_eq]
    rfl
  case confirmed =>
    change execClinchConfirm s = _
    simp only [execClinchConfirm, hr, hl, if_true]
    rfl
  case ignored =>
    change execClinchConfirm s = _
    simp only [execClinchConfirm, hr, hl, if_false]

/-! ### UP_MARK (O49) -/

theorem exec_upMark {s : State} {r : Revolution} (hr : s.stroke.rev = some r) (h : expects s .up = true) :
    exec .upMark s = .next (finish true s (upWork (takeMark s r .up) { r with last := .up })) :=
  congrArg Host.Outcome.next (withMark_of_expected hr h upWork)

theorem upWork_of_not_awaited {s : State} {r : Revolution} (h : r.clinch ≠ .awaited) : upWork s r = openJaws s := if_neg h

theorem upWork_of_awaited {s : State} {r : Revolution} (h : r.clinch = .awaited) : upWork s r =
    stopAlarm (countSuspect (setRev (openJaws s) (some { r with clinch := .missed })) s.stroke.jaw.itemBoard)
      .clinchFault .none := if_pos h

/-- CLINCH_FAULT past DOWN: the halt changes neither the shaft, the revolution nor the jaws (R115). -/
theorem stopAlarm_past_down {s : State} {r : Revolution} (hr : s.stroke.rev = some r) (hshaft : s.stroke.shaft ≠ .restoring)
    (hlast : 6 ≤ r.last.num) : (stopAlarm s .clinchFault .none).stroke = s.stroke ∧
    (stopAlarm s .clinchFault .none).boards = s.boards := by
  have hon := raiseStop_onAlarm s .clinchFault .none
  have hraise : (raiseStop s .clinchFault .none).stroke = s.stroke := by
    have hnot : invalidate (haltRun (enterAlarm s .clinchFault .none)) .clinchFault .none =
        haltRun (enterAlarm s .clinchFault .none) := if_neg (by decide)
    rw [raiseStop, hnot, haltRun_eq]
    rfl
  have htable := OnMotion.haltTable (raiseStop s .clinchFault .none) (AlarmClass.clinchFault == .tableSlip)
  have hstroke : (haltTable (raiseStop s .clinchFault .none) (AlarmClass.clinchFault == .tableSlip)).stroke = s.stroke :=
    htable.stroke.trans hraise
  have hstay : haltShaft (haltTable (raiseStop s .clinchFault .none) (AlarmClass.clinchFault == .tableSlip)) .clinchFault =
      haltTable (raiseStop s .clinchFault .none) (AlarmClass.clinchFault == .tableSlip) := by
    unfold haltShaft
    rw [hstroke, if_neg hshaft, hr]
    have hpast : (decide (r.last.num < 6) && (!r.leftGate || (AlarmClass.clinchFault == .tableSlip))) = false := by
      simp [hlast]
    exact (if_neg (by decide)).trans (if_neg (by rw [hpast]; decide))
  rw [stopAlarm_eq s .none (by decide), hstay]
  exact ⟨hstroke, htable.boards.trans hon.boards⟩

/-- Settles O49: the jaws open at UP, and a clinch still awaited is a CLINCH_FAULT. -/
theorem upMarkEmptiesTheJaws : Obligations.UpMarkEmptiesTheJaws := by
  intro s r hr he
  have hexec := exec_upMark hr he
  have hturn := takeMark_turning he r
  have hopened {board : Option Nat} (hl : r.clinch ≠ .awaited)
      (hj : s.stroke.jaw = .waste board ∨ board = none ∧ ∀ b, s.stroke.jaw ≠ .waste b) :
      upWork (takeMark s r .up) { r with last := .up } =
        ((takeMark s r .up).setBoards { s.boards with slots := countedSlots s board }).setStroke
          { (takeMark s r .up).stroke with jaw := .empty, jawOut := false, descentOut := false, clinchOut := false } := by
    rw [upWork_of_not_awaited (r := { r with last := .up }) hl, openJaws_eq (s := takeMark s r .up) hj]
    rfl
  refine ⟨fun board hl hj => ?waste, fun hl hj => ?emptied, fun k slot p flip o c hl hj hc hroom hrun => ?missed⟩
  case waste =>
    have hwork := hopened hl (.inl hj)
    refine ⟨_, hexec, finish_turning _ _ (by rw [hwork]; exact hturn), ?_⟩
    rw [finish_work, hwork]
    cases board <;> rfl
  case emptied =>
    have hwork := hopened (board := none) hl (.inr ⟨rfl, hj⟩)
    refine ⟨_, hexec, finish_turning _ _ (by rw [hwork]; exact hturn), ?_⟩
    rw [finish_work, hwork]
    rfl
  case missed =>
    let u := countSuspect (setRev (openJaws (takeMark s r .up)) (some { r with last := .up, clinch := .missed })) (some slot)
    have hopen : openJaws (takeMark s r .up) = ((takeMark s r .up).setBoards s.boards).setStroke
        { (takeMark s r .up).stroke with jaw := .empty, jawOut := false, descentOut := false, clinchOut := false } := by
      refine openJaws_eq (s := takeMark s r .up) (board := none) (.inr ⟨rfl, fun b hb => ?_⟩)
      have hb' : s.stroke.jaw = .waste b := hb
      rw [hj] at hb'
      cases hb'
    have hwork : upWork (takeMark s r .up) { r with last := .up } = stopAlarm u .clinchFault .none := by
      have hj' : (takeMark s r .up).stroke.jaw = .item k (some slot) p flip o := hj
      rw [upWork_of_awaited (r := { r with last := .up }) hl, hj']
      rfl
    have hu : u = modCtx (setRev (openJaws (takeMark s r .up)) (some { r with last := .up, clinch := .missed })) slot
        (fun c => { c with clinchSuspect := capAt 65535 (c.clinchSuspect + 1) }) := rfl
    rw [hopen] at hu
    have hushaft : u.stroke.shaft = .turning := by rw [hu]; exact hturn
    have hurev : u.stroke.rev = some { r with last := .up, clinch := .missed } := by rw [hu]; rfl
    obtain ⟨hstroke, hboards⟩ := stopAlarm_past_down hurev (by rw [hushaft]; decide) (by change 6 ≤ 8; decide)
    have hgate : (stopAlarm u .clinchFault .none).stroke.shaft ≠ .gateHeld := by rw [hstroke, hushaft]; decide
    have hctx : ctxAt (stopAlarm u .clinchFault .none) slot =
        some { c with clinchSuspect := capAt 65535 (c.clinchSuspect + 1) } := by
      rw [ctxAt_congr (congrArg Boards.slots hboards), hu]
      exact ctxAt_modCtx_self hc _
    have hend : ∃ c', ctxAt (finish true s (stopAlarm u .clinchFault .none)) slot = some c' ∧
        c'.clinchSuspect = capAt 65535 (c.clinchSuspect + 1) := by
      rw [finish_ctxAt]
      rcases ctxAt_testFinished hctx with h | ⟨-, h⟩
      · exact ⟨_, h, rfl⟩
      · exact ⟨_, h, rfl⟩
    obtain ⟨c', hc', hcount⟩ := hend
    refine ⟨_, c', hexec, ?_⟩
    rw [hwork, finish_shaft_eq _ _ hgate, finish_rev_eq _ _ hgate, finish_jaw, hstroke]
    refine ⟨finish_stopAlarm_haltedBy .none true s rfl hroom (.inr (.inr hrun)) ?_ ?_, hushaft, ?_, hurev, hc', hcount⟩
    · rw [hu]; rfl
    · rw [hu]; rfl
    · rw [hu]; rfl

end Sys2Proof.Machine
end

section
/-! PROOF. O51 and O52: the board requests (R122, R136 to R138). -/

namespace Sys2Proof.Machine

/-! ### The slots of the contexts -/

section
variable {s : State}

/-- The slot that a search finds holds a context that passes. -/
theorem findSlot_passes {p : Context → Bool} {l : List (Option Context)} {n i : Nat} (h : findSlot p l n = some i) :
    ∃ c, l[i - n]? = some (some c) ∧ p c = true ∧ n ≤ i := by
  induction l generalizing n with
  | nil => cases h
  | cons o rest ih =>
    have later (h : findSlot p rest (n + 1) = some i) : ∃ c, (o :: rest)[i - n]? = some (some c) ∧ p c = true ∧ n ≤ i := by
      obtain ⟨c, hc, hp, hle⟩ := ih h
      refine ⟨c, ?_, hp, by omega⟩
      rw [show i - n = (i - (n + 1)) + 1 by omega]
      exact hc
    cases o with
    | none => exact later h
    | some c =>
      rw [findSlot] at h
      split at h
      case isTrue hp =>
        cases h
        exact ⟨c, by simp, hp, Nat.le_refl _⟩
      case isFalse => exact later h

theorem slotOf_some {p : Context → Bool} {i : Nat} (h : slotOf s p = some i) : ∃ c, ctxAt s i = some c ∧ p c = true := by
  obtain ⟨c, hc, hp, -⟩ := findSlot_passes h
  refine ⟨c, ?_, hp⟩
  rw [Nat.sub_zero] at hc
  simp [ctxAt, List.getD_eq_getElem?_getD, hc]

theorem slotOf_congr {t : State} {p : Context → Bool} (h : t.boards.slots = s.boards.slots) : slotOf t p = slotOf s p := by
  simp only [slotOf, h]

theorem emptySlot_getElem {i : Nat} (h : emptySlot s = some i) : s.boards.slots[i]? = some none := by
  simpa using (firstEmpty_get _ _ _ h).2

theorem emptySlot_lt {i : Nat} (h : emptySlot s = some i) : i < s.boards.slots.length :=
  (List.getElem?_eq_some_iff.mp (emptySlot_getElem h)).1

theorem ctxAt_of_emptySlot {i : Nat} (h : emptySlot s = some i) : ctxAt s i = none := by
  simp [ctxAt, List.getD_eq_getElem?_getD, emptySlot_getElem h]

theorem setSlot_setSlot (s : State) (i : Nat) (a b : Option Context) : setSlot (setSlot s i a) i b = setSlot s i b := by
  simp only [setSlot, State.setBoards, List.set_set]

theorem modCtx_eq_setSlot {i : Nat} {c : Context} (h : ctxAt s i = some c) (f : Context → Context) :
    modCtx s i f = setSlot s i (some (f c)) := by
  have hlist : s.boards.slots.modify i (fun o => o.map f) = s.boards.slots.set i (some (f c)) := by
    refine List.ext_getElem? fun j => ?_
    rw [List.getElem?_modify, List.getElem?_set]
    by_cases hij : i = j
    · subst hij
      rw [ctxAt_some h, if_pos rfl, if_pos (ctxAt_lt h)]
      simp
    · simp [hij]
  rw [modCtx, setSlot, hlist]

/-! ### The contexts through the end of a command -/

theorem unjudged_finish (atUp : Bool) (before s : State) (i : Nat) :
    (ctxAt (finish atUp before s) i).map Context.unjudged = (ctxAt s i).map Context.unjudged := by
  have h := congrArg (fun w => w.contexts.getD i none) (finish_work atUp before s)
  simp only [State.work, List.getD_eq_getElem?_getD, List.getElem?_map] at h
  simp only [ctxAt, List.getD_eq_getElem?_getD]
  have flat (o : Option (Option Context)) : (o.map fun o => o.map Context.unjudged).getD none =
      (o.getD none).map Context.unjudged := by cases o <;> rfl
  rw [flat, flat] at h
  exact h

theorem finish_ctxAt_some (atUp : Bool) (before : State) {i : Nat} {c : Context} (h : ctxAt s i = some c) :
    ∃ c', ctxAt (finish atUp before s) i = some c' ∧ c'.unjudged = c.unjudged := by
  have hmap := unjudged_finish atUp before s i
  rw [h, Option.map_some] at hmap
  exact Option.map_eq_some_iff.mp hmap

theorem finish_ctxAt_none (atUp : Bool) (before : State) {i : Nat} (h : ctxAt s i = none) :
    ctxAt (finish atUp before s) i = none := by
  have hmap := unjudged_finish atUp before s i
  rw [h, Option.map_none] at hmap
  exact Option.map_eq_none_iff.mp hmap

end

/-! ### BOARD_LOAD (O51) -/

section
variable {s : State}

/-- A context created in a slot, bound to the READY bank of its program (R15, R136). -/
theorem createCtx_of_bank {slot p : Nat} {b : BankId} (hl : slot < s.boards.slots.length) (hb : lookupBank s p = some b)
    (serial position : Nat) (mask : BitVec 8) :
    createCtx s slot serial p position mask = setSlot s slot (some
      { Context.created serial (some p) position mask with
        bank := some b, own := freshItems mask (s.store.bank b).steps }) := by
  let u := setSlot s slot (some (Context.created serial (some p) position mask))
  have hu : ctxAt u slot = some (Context.created serial (some p) position mask) := by
    rw [ctxAt_setSlot, if_pos ⟨rfl, hl⟩]
  have hlook : lookupBank u p = some b := hb
  have hcreate : createCtx s slot serial p position mask = bindCtx u slot b := by
    rw [createCtx, lookupCtx, hlook]
  rw [hcreate, bindCtx_of_open hu rfl]
  exact setSlot_setSlot s slot _ _

/-- A context created in a slot whose program no bank holds READY (R15, R136). -/
theorem createCtx_of_none {slot p : Nat} (hl : slot < s.boards.slots.length) (hb : lookupBank s p = none)
    (serial position : Nat) (mask : BitVec 8) :
    createCtx s slot serial p position mask = setSlot s slot (some
      { Context.created serial (some p) position mask with noProgram := true }) := by
  let u := setSlot s slot (some (Context.created serial (some p) position mask))
  have hu : ctxAt u slot = some (Context.created serial (some p) position mask) := by
    rw [ctxAt_setSlot, if_pos ⟨rfl, hl⟩]
  have hlook : lookupBank u p = none := hb
  have hcreate : createCtx s slot serial p position mask = modCtx u slot fun c => { c with noProgram := true } := by
    rw [createCtx, lookupCtx, hlook]
  rw [hcreate, modCtx_eq_setSlot hu]
  exact setSlot_setSlot s slot _ _

variable {body : List Byte} (extra : List Byte)

theorem exec_boardLoad_framed (hs : s.jam.run ≠ .unconfigured) (hl : body.length = 7) :
    exec (.boardLoad (framed body extra)) s = .next ((judgeBoardLoad s body).conclude s 0x40) :=
  congrArg Host.Outcome.next (request_framed s 0x40 false extra (judgeBoardLoad s) hl (by decide) (.inr hs))

theorem judgeBoardLoad_of_range (h : at32 body 0 = 0 ∨ at16 body 4 = 0) : judgeBoardLoad s body = .refuse .refusedRange :=
  if_pos h

/-- A BOARD_LOAD with its fields in range is judged by the role and the serial, then by the slots (R136). -/
theorem judgeBoardLoad_of_in_range (hserial : 1 ≤ at32 body 0) (hprogram : 1 ≤ at16 body 4) :
    judgeBoardLoad s body =
      if !headOfLine s || (slotOfSerial s (at32 body 0)).isSome then .refuse .refusedState
      else match s.boards.load, emptySlot s with
        | none, some slot => .done (takeBoard s slot (at32 body 0) (at16 body 4) (BitVec.ofNat 8 (at8 body 6)))
        | _, _ => .refuse .refusedFull :=
  if_neg (by omega)

end

/-- Settles O51: the checks in their order, and the context bound or left without a program. -/
theorem boardLoadCreatesAContext : Obligations.BoardLoadCreatesAContext := by
  intro s body extra hl hs
  have hexec := exec_boardLoad_framed (s := s) extra hs hl
  refine ⟨fun h => ?range, fun h1 h2 h => ?state, fun h1 h2 hh hserial h => ?full,
    fun slot mask new h1 h2 hh hserial hload hempty hmask hnew => ?taken⟩
  case range => rw [hexec, judgeBoardLoad_of_range h]; rfl
  case state =>
    have hcond : (!headOfLine s || (slotOfSerial s (at32 body 0)).isSome) = true := by
      rcases h with h | h <;> simp [h]
    rw [hexec, judgeBoardLoad_of_in_range h1 h2, if_pos hcond]
    rfl
  case full =>
    have hjudge : judgeBoardLoad s body = .refuse .refusedFull := by
      rw [judgeBoardLoad_of_in_range h1 h2, if_neg (by simp [hh, hserial])]
      split
      case h_1 hload hempty => simp [hload, hempty] at h
      case h_2 => rfl
    rw [hexec, hjudge]
    rfl
  case taken =>
    subst hmask hnew
    have hjudge : judgeBoardLoad s body =
        .done (takeBoard s slot (at32 body 0) (at16 body 4) (BitVec.ofNat 8 (at8 body 6))) := by
      rw [judgeBoardLoad_of_in_range h1 h2, if_neg (by simp [hh, hserial]), hload, hempty]
    let u := s.setBoards { s.boards with
      load := some { serial := at32 body 0, programId := at16 body 4, mask := BitVec.ofNat 8 (at8 body 6) } }
    have hlook : lookupBank u (at16 body 4) = lookupBank s (at16 body 4) := rfl
    have hlt : slot < u.boards.slots.length := emptySlot_lt hempty
    rw [hexec, hjudge, takeBoard]
    cases hb : lookupBank s (at16 body 4) with
    | some b =>
      have hcreate := createCtx_of_bank hlt (hlook.trans hb) (at32 body 0) 0 (BitVec.ofNat 8 (at8 body 6))
      dsimp only
      rw [hcreate]
      rfl
    | none =>
      have hcreate := createCtx_of_none hlt (hlook.trans hb) (at32 body 0) 0 (BitVec.ofNat 8 (at8 body 6))
      dsimp only
      rw [hcreate]
      rfl

/-! ### IMAGE_SKIP (O52) -/

section
variable {s : State}

theorem getLsbD_image {i : Nat} (hi : i ≤ 7) (j : Nat) : (1#8 <<< i).getLsbD j = decide (i = j) := by
  rw [← BitVec.twoPow_eq, BitVec.getLsbD_twoPow]
  by_cases h : i = j
  · simp [h]; omega
  · simp [h]

/-- An image already in the mask brings nothing new. -/
theorem newImages_of_mem {m : BitVec 8} {i : Nat} (hi : i ≤ 7) (h : m.getLsbD i = true) : 1#8 <<< i &&& ~~~m = 0 := by
  refine BitVec.eq_of_getLsbD_eq fun j hj => ?_
  rw [BitVec.getLsbD_and, getLsbD_image hi]
  by_cases hij : i = j
  · subst hij
    simp [h]
  · simp [hij]

theorem newImages_of_not_mem {m : BitVec 8} {i : Nat} (hi : i ≤ 7) (h : m.getLsbD i = false) : 1#8 <<< i &&& ~~~m ≠ 0 := by
  intro hz
  have hbit := congrArg (fun v => v.getLsbD i) hz
  rw [BitVec.getLsbD_and, getLsbD_image hi, BitVec.getLsbD_not, h] at hbit
  simp [show i < 8 by omega] at hbit

theorem or_newImages (m new : BitVec 8) : m ||| new &&& ~~~m = m ||| new := by
  refine BitVec.eq_of_getLsbD_eq fun j hj => ?_
  simp only [BitVec.getLsbD_or, BitVec.getLsbD_and, BitVec.getLsbD_not, hj, decide_true, Bool.true_and]
  cases m.getLsbD j <;> simp

theorem joinMask_of_held {slot : Nat} {c : Context} {mask : BitVec 8} (hc : ctxAt s slot = some c)
    (h : mask &&& ~~~c.skipMask = 0) : joinMask s slot mask = s := by
  simp only [joinMask, hc, h, if_true]

/-- Images that join the mask of a context are in it after, and its serial stays (R122). -/
theorem joinMask_of_new {slot : Nat} {c : Context} {mask : BitVec 8} (hc : ctxAt s slot = some c)
    (h : mask &&& ~~~c.skipMask ≠ 0) : ∃ c', ctxAt (joinMask s slot mask) slot = some c' ∧
      c'.skipMask = c.skipMask ||| mask ∧ c'.serial = c.serial := by
  let keys := skippedKeys s c (mask &&& ~~~c.skipMask)
  let c' := c.skipImages (boundSteps s c) keys (mask &&& ~~~c.skipMask)
  have hjoin : joinMask s slot mask = cancelKeys (setSlot s slot (some c')) keys := by
    simp only [joinMask, hc, if_neg h]
    rfl
  refine ⟨c', ?_, or_newImages _ _, rfl⟩
  rw [hjoin]
  exact ctxAt_setSlot_self hc _

theorem joinMask_console (s : State) (slot : Nat) (mask : BitVec 8) : (joinMask s slot mask).console = s.console := by
  unfold joinMask
  split
  · rfl
  · dsimp only
    split <;> rfl

variable {body : List Byte} (extra : List Byte)

theorem exec_imageSkip_framed (hs : s.jam.run ≠ .unconfigured) (hl : body.length = 5) :
    exec (.imageSkip (framed body extra)) s = .next ((judgeImageSkip s body).conclude s 0x42) :=
  congrArg Host.Outcome.next (request_framed s 0x42 false extra (judgeImageSkip s) hl (by decide) (.inr hs))

theorem judgeImageSkip_of_current {slot : Nat} (hi : at8 body 4 ≤ 7) (hslot : currentWith s (at32 body 0) = some slot) :
    judgeImageSkip s body = .done (finish false s (joinMask s slot (1#8 <<< at8 body 4))) := by
  simp only [judgeImageSkip, if_neg (Nat.not_lt.mpr hi), hslot]

/-! ### BOARD_WITHDRAW (O52) -/

theorem exec_boardWithdraw_framed (hs : s.jam.run ≠ .unconfigured) (hl : body.length = 4) :
    exec (.boardWithdraw (framed body extra)) s = .next ((judgeWithdraw s body).conclude s 0x41) :=
  congrArg Host.Outcome.next (request_framed s 0x41 false extra (judgeWithdraw s) hl (by decide) (.inr hs))

theorem loadedWith_of_load {l : LoadSlot} (hh : headOfLine s = true) (hload : s.boards.load = some l) (serial : Nat)
    (hl : l.serial = serial) : loadedWith s serial = slotOf s fun c => c.state == .expected && c.serial == serial := by
  simp only [loadedWith, hload, if_pos (And.intro hh hl)]

theorem judgeWithdraw_of_current {slot : Nat} (hserial : at32 body 0 ≠ 0) (ht : transferring s = false)
    (hslot : currentWith s (at32 body 0) = some slot) :
    judgeWithdraw s body =
      if urgentRoom s then
        .done (finish false s ((removeCtx (joinUrgent s (.withdraw (at32 body 0))) slot).setBoards
          { (removeCtx (joinUrgent s (.withdraw (at32 body 0))) slot).boards with withdrawOpen := true }))
      else .refuse .refusedFull := by
  simp only [judgeWithdraw, if_neg hserial, ht, Bool.false_eq_true, if_false, hslot]

theorem judgeWithdraw_of_loaded {slot : Nat} (hserial : at32 body 0 ≠ 0)
    (hnone : transferring s = true ∨ currentWith s (at32 body 0) = none)
    (hslot : loadedWith s (at32 body 0) = some slot) :
    judgeWithdraw s body =
      if urgentRoom s then
        .done (finish false s ((removeCtx (joinUrgent s (.withdraw (at32 body 0))) slot).setBoards
          { (removeCtx (joinUrgent s (.withdraw (at32 body 0))) slot).boards with load := none }))
      else .refuse .refusedFull := by
  have hno : (if transferring s then none else currentWith s (at32 body 0)) = none := by
    rcases hnone with h | h <;> simp [h]
  simp only [judgeWithdraw, if_neg hserial, hno, hslot]

/-- A removed context's slot is empty, and the other slots are as they were (R119). -/
theorem ctxAt_removeCtx (s : State) (slot i : Nat) :
    ctxAt (removeCtx s slot) i = if slot = i ∧ i < s.boards.slots.length then none else ctxAt s i :=
  ctxAt_setSlot (cancelBoard s slot) slot i none

/-- The end of a command after a context was withdrawn and the boards' own fields `b` were set. -/
theorem finish_withdrawn {slot : Nat} (hlt : slot < s.boards.slots.length) (hroom : urgentRoom s = true) (serial : Nat)
    {u : State} (hline : u.line = (joinUrgent s (.withdraw serial)).line)
    (hslots : u.boards.slots = (removeCtx s slot).boards.slots) :
    ctxAt (finish false s u) slot = none ∧ (finish false s u).line.urgent = s.line.urgent ++ [.withdraw serial] ∧
    (∀ i, i ≠ slot → (ctxAt (finish false s u) i).map Context.unjudged = (ctxAt s i).map Context.unjudged) := by
  have hctx : ctxAt u = ctxAt (removeCtx s slot) := ctxAt_congr hslots
  refine ⟨finish_ctxAt_none _ _ ?_, ?_, fun i hi => ?_⟩
  · rw [hctx, ctxAt_removeCtx, if_pos ⟨rfl, hlt⟩]
  · have hurgent : (finish false s u).line.urgent = u.line.urgent := congrArg Work.urgent (finish_work false s u)
    rw [hurgent, hline]
    exact if_pos (of_decide_eq_true hroom)
  · rw [unjudged_finish, hctx, ctxAt_removeCtx, if_neg fun h => hi h.1.symm]

end

/-! ### WITHDRAW_CLAMP_OPEN (O52) -/

theorem setClamp_of_closed {s : State} (hg : s.inputs.guardOpen = false) (closed : Bool) :
    setClamp s closed = (s.setBoards { s.boards with clampOut := closed, clampWanted := closed }).setInputs
      { s.inputs with clampClosed := s.inputs.clampClosed && closed } := by
  simp only [setClamp, hg, Bool.false_eq_true, if_false]

theorem guardClosed_of_mayOpenClamp {s : State} (h : mayOpenClamp s = true) : s.inputs.guardOpen = false := by
  simp only [mayOpenClamp, Bool.and_eq_true, Bool.not_eq_true'] at h
  exact h.2

/-- Settles O52: the skip mask, the two withdrawals, and the clamp of a withdrawn board. -/
theorem skippingAndWithdrawingABoard : Obligations.SkippingAndWithdrawingABoard := by
  refine ⟨fun s body extra slot c hl hs hi hslot hc => ⟨fun hin => ?held, fun hout => ?joined⟩,
    fun s body extra slot hl hs hserial ht hslot hlt => ⟨fun hroom => ?current, fun hfull => ?currentFull⟩,
    fun s body extra slot l hl hs hserial hnone hh hload hls hslot hlt => ⟨fun hroom => ?loaded, fun hfull => ?loadedFull⟩,
    fun s => ⟨fun h => ?opened, fun h => ?kept⟩⟩
  case held =>
    refine ⟨_, exec_imageSkip_framed extra hs hl, ?_⟩
    rw [judgeImageSkip_of_current hi hslot, joinMask_of_held hc (newImages_of_mem hi hin)]
    change (respond (finish false s s) _ _ _).work = _
    rw [respond_work, finish_work, finish_response]
  case joined =>
    obtain ⟨c', hc', hmask, hser⟩ := joinMask_of_new hc (newImages_of_not_mem hi hout)
    obtain ⟨c'', hc'', heq⟩ := finish_ctxAt_some false s hc'
    refine ⟨_, c'', exec_imageSkip_framed extra hs hl, ?_⟩
    rw [judgeImageSkip_of_current hi hslot]
    have hm : c''.unjudged.skipMask = c'.unjudged.skipMask := congrArg Context.skipMask heq
    have hs' : c''.unjudged.serial = c'.unjudged.serial := congrArg Context.serial heq
    refine ⟨hc'', hm.trans hmask, hs'.trans hser, ?_⟩
    change (respond (finish false s (joinMask s slot (1#8 <<< at8 body 4))) _ _ _).console.response = _
    rw [respond, finish_response, joinMask_console]
    rfl
  case current =>
    let u := (removeCtx (joinUrgent s (.withdraw (at32 body 0))) slot).setBoards
      { (removeCtx (joinUrgent s (.withdraw (at32 body 0))) slot).boards with withdrawOpen := true }
    obtain ⟨hgone, hurgent, hothers⟩ := finish_withdrawn hlt hroom (at32 body 0) (u := u) rfl rfl
    have hopen : (finish false s u).boards.withdrawOpen = true :=
      congrArg (fun w => w.clamp.2.2) (finish_work false s u)
    have hexec : exec (.boardWithdraw (framed body extra)) s = .next (respond (finish false s u) .done 0x41 .empty) := by
      rw [exec_boardWithdraw_framed extra hs hl, judgeWithdraw_of_current hserial ht hslot, if_pos hroom]
      rfl
    have hresponse : (respond (finish false s u) .done 0x41 .empty).console.response =
        { result := .done, code := 0x41, number := (s.console.response.number + 1) % 256, body := .empty } := by
      rw [respond, finish_response]
      rfl
    exact ⟨_, hexec, hgone, hurgent, hopen, hothers, hresponse⟩
  case currentFull =>
    rw [exec_boardWithdraw_framed extra hs hl, judgeWithdraw_of_current hserial ht hslot, if_neg (by simp [hfull])]
    rfl
  case loaded =>
    let u := (removeCtx (joinUrgent s (.withdraw (at32 body 0))) slot).setBoards
      { (removeCtx (joinUrgent s (.withdraw (at32 body 0))) slot).boards with load := none }
    obtain ⟨hgone, hurgent, hothers⟩ := finish_withdrawn hlt hroom (at32 body 0) (u := u) rfl rfl
    have hslot' := (loadedWith_of_load hh hload (at32 body 0) hls).trans hslot
    have hempty : (finish false s u).boards.load = none := congrArg Work.load (finish_work false s u)
    have hopen : (finish false s u).boards.withdrawOpen = s.boards.withdrawOpen :=
      congrArg (fun w => w.clamp.2.2) (finish_work false s u)
    have hexec : exec (.boardWithdraw (framed body extra)) s = .next (respond (finish false s u) .done 0x41 .empty) := by
      rw [exec_boardWithdraw_framed extra hs hl, judgeWithdraw_of_loaded hserial hnone hslot', if_pos hroom]
      rfl
    have hresponse : (respond (finish false s u) .done 0x41 .empty).console.response =
        { result := .done, code := 0x41, number := (s.console.response.number + 1) % 256, body := .empty } := by
      rw [respond, finish_response]
      rfl
    exact ⟨_, hexec, hgone, hurgent, hempty, hopen, hothers, hresponse⟩
  case loadedFull =>
    have hslot' := (loadedWith_of_load hh hload (at32 body 0) hls).trans hslot
    rw [exec_boardWithdraw_framed extra hs hl, judgeWithdraw_of_loaded hserial hnone hslot', if_neg (by simp [hfull])]
    rfl
  case opened =>
    refine ⟨_, if_pos h, ?_⟩
    rw [finish_work, setClamp_of_closed (guardClosed_of_mayOpenClamp h), Bool.and_false]
    rfl
  case kept => exact if_neg (by simp [h])

end Sys2Proof.Machine
end

section
/-! PROOF. O53 and O54: the line index, the sensors, the clamp and the passport wait (R125 to R129, R133). -/

namespace Sys2Proof.Machine

/-! ### The hold line's level at the end of a command -/

@[simp] theorem setPositioning_inputs (s : State) (r : Option Positioning) : (setPositioning s r).inputs = s.inputs := rfl
@[simp] theorem setActuator_inputs (s : State) (a : Actuator) (r : ActRecord) : (setActuator s a r).inputs = s.inputs := rfl
@[simp] theorem enterAlarm_inputs (s : State) (c : AlarmClass) (src : AlarmSource) :
    (enterAlarm s c src).inputs = s.inputs := rfl
@[simp] theorem setRun_inputs (s : State) (r : RunState) : (setRun s r).inputs = s.inputs := rfl
@[simp] theorem queueStatus_inputs (s : State) : (queueStatus s).inputs = s.inputs := rfl
@[simp] theorem leaveGate_inputs (s : State) : (leaveGate s).inputs = s.inputs := rfl
@[simp] theorem testFinished_inputs (s : State) : (testFinished s).inputs = s.inputs := by
  unfold testFinished; (repeat' split) <;> rfl
@[simp] theorem testFinished_qualify (s : State) : (testFinished s).boards.qualify = s.boards.qualify := by
  unfold testFinished; (repeat' split) <;> rfl
@[simp] theorem dropStale_inputs (s : State) : (dropStale s).inputs = s.inputs := by
  unfold dropStale; (repeat' split) <;> simp
@[simp] theorem beginPositioning_inputs (s : State) (atUp : Bool) (pos : Nat) (i : ClipItem) :
    (beginPositioning s atUp pos i).inputs = s.inputs := by
  unfold beginPositioning; (repeat' split) <;> simp
@[simp] theorem raiseCountdown_inputs (s : State) (k : ItemKey) (t : Nat) : (raiseCountdown s k t).inputs = s.inputs := by
  unfold raiseCountdown; (repeat' split) <;> simp
@[simp] theorem aimTable_inputs (atUp : Bool) (s : State) : (aimTable atUp s).inputs = s.inputs := by
  unfold aimTable; (repeat' split) <;> simp [setOp]
@[simp] theorem aimActuator_inputs (atUp : Bool) (pos : Nat) (i : ClipItem) (s : State) (a : Actuator) :
    (aimActuator atUp pos i s a).inputs = s.inputs := by
  unfold aimActuator commandActuator; dsimp only; (repeat' split) <;> simp
@[simp] theorem keepBack_inputs (s : State) : (keepBack s).inputs = s.inputs := by unfold keepBack; split <;> rfl
@[simp] theorem aimActuators_inputs (atUp : Bool) (s : State) : (aimActuators atUp s).inputs = s.inputs := by
  unfold aimActuators; (repeat' split) <;> simp [actuators]
@[simp] theorem zeroCountdown_inputs (before s : State) : (zeroCountdown before s).inputs = s.inputs := by
  unfold zeroCountdown; (repeat' split) <;> simp
@[simp] theorem releaseGate_inputs (s : State) : (releaseGate s).inputs = s.inputs := by
  unfold releaseGate; split <;> simp
@[simp] theorem completeRun_inputs (s : State) : (completeRun s).inputs = s.inputs := by
  unfold completeRun; (repeat' split) <;> simp
@[simp] theorem statusOnChange_inputs (before s : State) : (statusOnChange before s).inputs = s.inputs := by
  unfold statusOnChange; split <;> simp

theorem updateHold_released (s : State) : (updateHold s).inputs.lineReleased =
    (s.inputs.lineReleased && !(holdConditions s).any) := by
  unfold updateHold watchDownstream; dsimp only; split <;> rfl

theorem updateHold_qualify (s : State) : (updateHold s).boards.qualify =
    if (holdConditions s).any then none else s.boards.qualify := by
  unfold updateHold watchDownstream; dsimp only; split <;> rfl

/-- The end of a command does not see the line released anew (log 26). -/
theorem finish_not_released (atUp : Bool) (before : State) {s : State} (h : s.inputs.lineReleased = false) :
    (finish atUp before s).inputs.lineReleased = false := by
  simp [finish, aim, updateHold_released, h]

theorem finish_not_qualifying (atUp : Bool) (before : State) {s : State} (h : s.boards.qualify = none) :
    (finish atUp before s).boards.qualify = none := by
  simp [finish, aim, updateHold_qualify, h]

/-- A transfer in progress keeps the line pulled (R125). -/
theorem any_of_transferring {s : State} (h : transferring s = true) : (holdConditions s).any = true := by
  simp [HoldConditions.any, HoldConditions.others, holdConditions, h]

/-! ### The slots searched -/

section
variable {s : State}

theorem findSlot_of_passes {p : Context → Bool} {l : List (Option Context)} {i : Nat} {c : Context}
    (hc : l[i]? = some (some c)) (hp : p c = true) (n : Nat) : (findSlot p l n).isSome = true := by
  induction l generalizing i n with
  | nil => simp at hc
  | cons o rest ih =>
    cases o with
    | none =>
      cases i with
      | zero => simp at hc
      | succ i => exact ih (by simpa using hc) _
    | some d =>
      rw [findSlot]
      split
      case isTrue => rfl
      case isFalse hd =>
        cases i with
        | zero =>
          simp only [List.getElem?_cons_zero, Option.some.injEq] at hc
          exact absurd (hc ▸ hp) hd
        | succ i => exact ih (by simpa using hc) _

theorem slotOf_isSome {p : Context → Bool} {i : Nat} {c : Context} (hc : ctxAt s i = some c) (hp : p c = true) :
    (slotOf s p).isSome = true :=
  findSlot_of_passes (ctxAt_some hc) hp 0

theorem slotOf_eq_none {p : Context → Bool} (h : ∀ i c, ctxAt s i = some c → p c = false) : slotOf s p = none := by
  cases hs : slotOf s p with
  | none => rfl
  | some i =>
    obtain ⟨c, hc, hp⟩ := slotOf_some hs
    rw [h i c hc] at hp
    cases hp

theorem ctxAt_of_empty (h : ∀ o ∈ s.boards.slots, o = none) (i : Nat) : ctxAt s i = none := by
  cases hc : ctxAt s i with
  | none => rfl
  | some c => exact absurd (h _ (List.mem_of_getElem? (ctxAt_some hc))) (by nofun)

theorem slotOf_of_empty (h : ∀ o ∈ s.boards.slots, o = none) (p : Context → Bool) : slotOf s p = none :=
  slotOf_eq_none fun i c hc => by rw [ctxAt_of_empty h i] at hc; cases hc

end

/-! ### The line index (O53) -/

/-- The next context arrives and every EXPECTED one steps on (R127). -/
def moveUp (s : State) : State :=
  match nextArrival s with
  | some slot => stepPositions (arrive s slot)
  | none => stepPositions (if headOfLine s then s.setBoards { s.boards with load := none } else s)

/-- The boards of a line index that begins: the passport-in buffer emptied, and a CURRENT context departed. -/
def departed (s : State) : State := depart (s.setBoards { s.boards with passIn := none, passWait := none })

theorem beginTransfer_eq (s : State) : beginTransfer s = (moveUp (departed s)).setBoards { (moveUp (departed s)).boards with
    transfer := some { departs := (departingSlot (moveUp (departed s))).isSome
                       expected := (arrivingSlot (moveUp (departed s))).isNone && expectedUpstream s
                       exited := false, arrived := false, limit := some (ms (cfg s).transferLimit), jammed := false } } := rfl

section
variable {s : State}

theorem stepped_of_not_expected {c : Context} (h : c.state ≠ .expected) : c.stepped = c := if_neg h

theorem ctxAt_stepPositions (s : State) (i : Nat) : ctxAt (stepPositions s) i = (ctxAt s i).map Context.stepped := by
  simp only [ctxAt, stepPositions, State.setBoards_boards, List.getD_eq_getElem?_getD, List.getElem?_map]
  cases s.boards.slots[i]? <;> rfl

theorem nextArrival_expected {slot : Nat} (h : nextArrival s = some slot) :
    ∃ c, ctxAt s slot = some c ∧ c.state = .expected := by
  unfold nextArrival at h
  split at h
  · split at h
    · obtain ⟨c, hc, hp⟩ := slotOf_some h
      rw [Bool.and_eq_true] at hp
      exact ⟨c, hc, eq_of_beq hp.1⟩
    · cases h
  · obtain ⟨c, hc, hp⟩ := slotOf_some h
    rw [Bool.and_eq_true] at hp
    exact ⟨c, hc, eq_of_beq hp.1⟩

/-- Moving up leaves a context that is not EXPECTED as it was. -/
theorem ctxAt_moveUp {i : Nat} {c : Context} (hc : ctxAt s i = some c) (he : c.state ≠ .expected) :
    ctxAt (moveUp s) i = some c := by
  unfold moveUp
  split
  case h_1 slot hn =>
    obtain ⟨d, hd, hdstate⟩ := nextArrival_expected hn
    have hne : slot ≠ i := by
      rintro rfl
      rw [hc] at hd
      cases hd
      exact he hdstate
    have harrive : ctxAt (arrive s slot) i = some c :=
      (ctxAt_modCtx s slot i _).trans (by rw [if_neg hne, hc])
    rw [ctxAt_stepPositions, harrive, Option.map_some, stepped_of_not_expected he]
  case h_2 =>
    have hload : ctxAt (if headOfLine s then s.setBoards { s.boards with load := none } else s) i = some c := by
      split <;> exact hc
    rw [ctxAt_stepPositions, hload, Option.map_some, stepped_of_not_expected he]

/-- Moving up changes the contexts, the load slot and the passport wait alone. -/
theorem moveUp_boards (s : State) : (moveUp s).boards = { s.boards with
    slots := (moveUp s).boards.slots, load := (moveUp s).boards.load, passWait := (moveUp s).boards.passWait } := by
  unfold moveUp
  split
  · rfl
  · split <;> rfl

theorem entryFrames_congr {t : State} (hsetup : t.console.setup = s.console.setup) (hline : t.line = s.line)
    (l : List Entry) (n : Nat) : entryFrames t l n = entryFrames s l n := by
  have hcfg : cfg t = cfg s := by simp only [cfg, hsetup]
  have hroster (m : Nat) : rosterAt t m = rosterAt s m := by simp only [rosterAt, hline]
  have hsent (st : EntryState) : sentState t st = sentState s st := by
    unfold sentState
    cases st <;> simp only [hcfg, hroster]
  induction l generalizing n with
  | nil => rfl
  | cons e rest ih => simp only [entryFrames, hsent, ih]

theorem buildPassport_congr {t : State} (hsetup : t.console.setup = s.console.setup) (hline : t.line = s.line)
    (c : Context) : buildPassport t c = buildPassport s c := by
  have hcfg : cfg t = cfg s := by simp only [cfg, hsetup]
  simp only [buildPassport, entryFrames_congr hsetup hline, passportHeadOf, hcfg]

/-- The boards after the CURRENT context departed with the guard closed (R127, R130). -/
theorem departed_boards {slot : Nat} {c : Context} (hg : s.inputs.guardOpen = false) (hcur : currentSlot s = some slot)
    (hc : ctxAt s slot = some c) : (departed s).boards = { s.boards with
      slots := s.boards.slots.set slot (some { c with state := .departing }), passIn := none, passWait := none
      clampOut := false, clampWanted := false
      passOut := if (cfg s).role = .first ∨ (cfg s).role = .middle then buildPassport s c else s.boards.passOut } := by
  let b := s.setBoards { s.boards with passIn := none, passWait := none }
  have hcur' : currentSlot b = some slot := hcur
  have hc' : ctxAt b slot = some c := hc
  have hclamp := setClamp_of_closed (s := setSlot b slot (some { c with state := .departing })) hg false
  have hpass : buildPassport b c = buildPassport s c := buildPassport_congr (s := s) (t := b) rfl rfl c
  have hdepart : departed s =
      if (cfg s).role = .first ∨ (cfg s).role = .middle then
        (setClamp (setSlot b slot (some { c with state := .departing })) false).setBoards
          { (setClamp (setSlot b slot (some { c with state := .departing })) false).boards with
            passOut := buildPassport b c }
      else setClamp (setSlot b slot (some { c with state := .departing })) false := by
    change depart b = _
    simp only [depart, hcur', hc']
    rfl
  rw [hdepart, hpass, hclamp]
  split <;> rfl

/-- A line index's own work: the transfer begun and the line pulled again (R126, R127). -/
theorem takeIndex_boards (s : State) : ∃ b, beginTransfer (s.setBoards { s.boards with qualify := none }) = b ∧
    (takeIndex s).work = b.work ∧ (takeIndex s).boards.slots = b.boards.slots :=
  ⟨_, rfl, by rw [takeIndex, statusOnChange_work, updateHold_work],
    by rw [takeIndex, statusOnChange_boards, updateHold_slots]⟩

theorem takeIndex_quiet (s : State) :
    (takeIndex s).boards.qualify = none ∧ (takeIndex s).inputs.lineReleased = false := by
  have hany : (holdConditions (beginTransfer (s.setBoards { s.boards with qualify := none }))).any = true :=
    any_of_transferring rfl
  constructor
  · rw [takeIndex, statusOnChange_boards, updateHold_qualify, if_pos hany]
  · rw [takeIndex, statusOnChange_inputs, updateHold_released, hany, Bool.not_true, Bool.and_false]

/-- A transfer whose board has still to leave does not complete (R128). -/
theorem tryComplete_of_departing {x : Transfer} (hx : s.boards.transfer = some x) (hd : x.departs = true)
    (he : x.exited = false) : tryComplete s = s := by
  simp [tryComplete, hx, transferDone, hd, he]

/-- A transfer whose board has still to come and be clamped does not complete (R128). -/
theorem tryComplete_of_arriving {x : Transfer} (hx : s.boards.transfer = some x) (ha : (arrivingSlot s).isSome = true)
    (hc : x.arrived = false ∨ clamped s = false) : tryComplete s = s := by
  have hnot : transferDone s x = false := by
    rcases hc with h | h <;> simp [transferDone, ha, h]
  simp only [tryComplete, hx, hnot, Bool.false_eq_true, if_false]

theorem tryComplete_of_none (hx : s.boards.transfer = none) : tryComplete s = s := by
  simp only [tryComplete, hx]

/-- A transfer with nothing to move completes: it goes, and nothing else changes but the run state (R128). -/
theorem tryComplete_of_empty {x : Transfer} (hx : s.boards.transfer = some x) (hd : x.departs = false)
    (he : x.expected = false) (hj : x.jammed = false) (hempty : ∀ o ∈ s.boards.slots, o = none) :
    tryComplete s = stopAtTransferEnd (s.setBoards { s.boards with transfer := none }) := by
  have hdep : departingSlot s = none := slotOf_of_empty hempty _
  have harr : arrivingSlot s = none := slotOf_of_empty hempty _
  have hresult : reportResult s = s := by simp only [reportResult, hdep, Option.bind_none]
  have hcurrent : becomeCurrent s = s := by simp only [becomeCurrent, harr]
  have hdone : transferDone s x = true := by simp [transferDone, hd, he, hj, harr]
  rw [tryComplete, hx]
  dsimp only
  rw [if_pos hdone, completeTransfer, hresult, hdep, removeAt, hcurrent]

theorem stopAtTransferEnd_spec (s : State) : (stopAtTransferEnd s).work = s.work ∧
    (stopAtTransferEnd s).boards = s.boards ∧ (stopAtTransferEnd s).inputs = s.inputs := by
  unfold stopAtTransferEnd
  split <;> exact ⟨rfl, rfl, rfl⟩

/-- With no context held a line index clears the load slot and begins a transfer of nothing (R127). -/
theorem beginTransfer_of_empty (hempty : ∀ o ∈ s.boards.slots, o = none) (hh : headOfLine s = true) (hload : s.boards.load = none) :
    beginTransfer s = s.setBoards { s.boards with
      passIn := none, passWait := none
      transfer := some { departs := false, expected := false, exited := false, arrived := false
                         limit := some (ms (cfg s).transferLimit), jammed := false } } := by
  let b := s.setBoards { s.boards with passIn := none, passWait := none }
  have hdepart : departed s = b := by
    have hcur : currentSlot b = none := slotOf_of_empty (s := b) hempty _
    change depart b = b
    simp only [depart, hcur]
  have hslots : s.boards.slots.map (fun o => o.map Context.stepped) = s.boards.slots :=
    (List.map_congr_left fun o ho => by rw [hempty o ho]; rfl).trans (List.map_id _)
  have hmove : moveUp b = b := by
    have hnext : nextArrival b = none := by
      have hh' : headOfLine b = true := hh
      have hload' : b.boards.load = none := hload
      simp only [nextArrival, hh', if_true, hload']
    have hh' : headOfLine b = true := hh
    simp only [moveUp, hnext, hh', if_true, stepPositions]
    change s.setBoards { s.boards with
      slots := s.boards.slots.map (fun o => o.map Context.stepped), passIn := none, passWait := none, load := none } = b
    rw [hslots, ← hload]
  have hdep : departingSlot b = none := slotOf_of_empty (s := b) hempty _
  have hup : expectedUpstream s = false := by simp [expectedUpstream, hh]
  rw [beginTransfer_eq, hdepart, hmove, hdep, hup, Bool.and_false]
  rfl

theorem exec_lineIndex (h : s.boards.qualify.isSome = true) :
    exec .lineIndex s = .next (finish false (takeIndex s) (tryComplete (takeIndex s))) := if_pos h

end

/-- Settles O53: the qualification by the level of the line, and the transfer that a line index begins. -/
theorem theHoldLineGivesTheLineIndex : Obligations.TheHoldLineGivesTheLineIndex := by
  intro s
  refine ⟨fun hp hr => ?released, rfl, fun hq => ?unqualified, fun slot c hq hcur hc hdep hg => ?departs,
    fun hq hempty hh hload => ?nothing⟩
  case released =>
    change Host.Outcome.next (noteLine s true) = _
    simp only [noteLine, hp, hr, Bool.not_false, Bool.and_true, Bool.false_eq_true, if_true, if_false, Config.qualifyMicros]
  case unqualified => exact if_neg (by simp [hq])
  case departs =>
    let s0 := s.setBoards { s.boards with qualify := none }
    obtain ⟨b, hb, hwork, hslots⟩ := takeIndex_boards s
    have hboards := departed_boards (s := s0) hg hcur hc
    have hmid : ctxAt (departed s0) slot = some { c with state := .departing } := by
      have hset : ctxAt (departed s0) = ctxAt (setSlot s slot (some { c with state := .departing })) :=
        ctxAt_congr ((congrArg Boards.slots hboards).trans rfl)
      rw [hset]
      exact ctxAt_setSlot_self hc _
    have hmoved : ctxAt (moveUp (departed s0)) slot = some { c with state := .departing } := ctxAt_moveUp hmid (by nofun)
    have hdeparts : (departingSlot (moveUp (departed s0))).isSome = true := slotOf_isSome hmoved rfl
    have hbegin : b = _ := hb.symm.trans (beginTransfer_eq s0)
    rw [hdeparts, moveUp_boards, hboards] at hbegin
    have hctx : ctxAt (takeIndex s) slot = some { c with state := .departing } := by
      have : ctxAt (takeIndex s) = ctxAt (moveUp (departed s0)) := ctxAt_congr (hslots.trans (by rw [hbegin]; rfl))
      rw [this]
      exact hmoved
    have htransfer : ∃ x, (takeIndex s).boards.transfer = some x ∧ x.departs = true ∧ x.exited = false ∧ x.arrived = false ∧
        x.limit = some (ms (cfg s).transferLimit) :=
      ⟨_, (congrArg Work.transfer hwork).trans (by rw [hbegin]; rfl), rfl, rfl, rfl, rfl⟩
    obtain ⟨x, hx, hxd, hxe, hxa, hxl⟩ := htransfer
    let t := finish false (takeIndex s) (takeIndex s)
    have hexec : exec .lineIndex s = .next t := by rw [exec_lineIndex hq, tryComplete_of_departing hx hxd hxe]
    have hend : t.work = b.work := (finish_work _ _ _).trans hwork
    have hclamp : t.boards.clampOut = false := (congrArg (fun w => w.clamp.1) hend).trans (by rw [hbegin]; rfl)
    have hpassIn : t.boards.passIn = none := (congrArg Work.passIn hend).trans (by rw [hbegin]; rfl)
    have hpassOut : t.boards.passOut = (if (cfg s).role = .first ∨ (cfg s).role = .middle then buildPassport s c
        else s.boards.passOut) := by
      have hpass : buildPassport s0 c = buildPassport s c := buildPassport_congr (s := s) (t := s0) rfl rfl c
      refine (congrArg Work.passOut hend).trans ?_
      rw [hbegin, hpass]
      rfl
    have hxt : t.boards.transfer = some x := (congrArg Work.transfer (finish_work _ _ _)).trans hx
    have hpulled : t.boards.pulled = true := by
      rw [(finish_hold false (takeIndex s) (takeIndex s)).1]
      exact any_of_transferring (by rw [transferring, hxt]; rfl)
    obtain ⟨c', hc', heq⟩ := finish_ctxAt_some false (takeIndex s) hctx
    have hserial : c'.unjudged.serial = c.serial := (congrArg Context.serial heq).trans rfl
    have hstate : c'.unjudged.state = .departing := (congrArg Context.state heq).trans rfl
    exact ⟨t, c', hexec, hc', hserial, hstate, hclamp, hpassIn,
      finish_not_qualifying _ _ (takeIndex_quiet s).1, hpulled, ⟨x, hxt, hxd, hxe, hxa, hxl⟩, hpassOut⟩
  case nothing =>
    obtain ⟨b, hb, hwork, hslots⟩ := takeIndex_boards s
    have hbegin : b = _ := hb.symm.trans (beginTransfer_of_empty
      (s := s.setBoards { s.boards with qualify := none }) hempty hh hload)
    have hx : (takeIndex s).boards.transfer = some _ := (congrArg Work.transfer hwork).trans (by rw [hbegin]; rfl)
    have hempty' : ∀ o ∈ (takeIndex s).boards.slots, o = none := by
      rw [hslots, hbegin]
      exact hempty
    have hcomplete := tryComplete_of_empty hx rfl rfl rfl hempty'
    let u := (takeIndex s).setBoards { (takeIndex s).boards with transfer := none }
    obtain ⟨hsw, hsb, hsi⟩ := stopAtTransferEnd_spec u
    have hend : (finish false (takeIndex s) (stopAtTransferEnd u)).work =
        { s.work with passIn := none, passWait := none, transfer := none } := by
      have hu : u.work = { (takeIndex s).work with transfer := none } := rfl
      rw [finish_work, hsw, hu, hwork, hbegin]
      rfl
    refine ⟨_, (exec_lineIndex hq).trans (by rw [hcomplete]), congrArg Work.transfer hend, ?_, ?_, hend⟩
    · exact finish_not_qualifying _ _ (by rw [hsb]; exact (takeIndex_quiet s).1)
    · exact finish_not_released _ _ (by rw [hsi]; exact (takeIndex_quiet s).2)

end Sys2Proof.Machine
end

section
/-! PROOF. O54: the sensors, the clamp and the passport wait complete a transfer (R125, R128, R129, R133). -/

namespace Sys2Proof.Machine

section
variable {s : State}

/-! ### The board at the stop -/

theorem exec_entrySensor_of_none (h : s.boards.transfer = none) :
    exec .entrySensor s = .next (finish false s (s.setInputs { s.inputs with entryBoard := true })) := by
  change execEntrySensor s = _
  simp only [execEntrySensor, h]

theorem exec_entrySensor_of_transfer {x : Transfer} (h : s.boards.transfer = some x) :
    exec .entrySensor s =
      .next (finish false s (boardAtStop (s.setInputs { s.inputs with entryBoard := true }) x)) := by
  change execEntrySensor s = _
  simp only [execEntrySensor, h]

/-- A state whose clamp output closes for the board at the stop, before the clamp is felt closed (R128). -/
def clamping (s : State) (x : Transfer) : State :=
  (s.setBoards { s.boards with clampOut := true, clampWanted := true, transfer := some { x with arrived := true } }).setInputs
    { s.inputs with clampClosed := s.inputs.clampClosed && true }

/-- With an ARRIVING context the clamp closes and the transfer goes on (R128). -/
theorem boardAtStop_of_arriving (x : Transfer) (ha : (arrivingSlot s).isSome = true) (hg : s.inputs.guardOpen = false)
    (hc : s.inputs.clampClosed = false) : boardAtStop s x = clamping s x := by
  have hset : (setClamp s true).setBoards { (setClamp s true).boards with transfer := some { x with arrived := true } } =
      clamping s x := by rw [setClamp_of_closed hg]; rfl
  have hopen : clamped (clamping s x) = false := by
    change (true && (s.inputs.clampClosed && true)) = false
    rw [hc]
    rfl
  have harr : (arrivingSlot (clamping s x)).isSome = true := ha
  rw [boardAtStop, if_pos ha, hset]
  exact tryComplete_of_arriving rfl harr (.inr hopen)

/-- With no ENTERED context EXPECTED none is closed for standing ahead of one (R48). -/
theorem closeAllAhead_of_none_entered (h : ∀ i c, ctxAt s i = some c → c.state = .expected → c.entered = false) :
    closeAllAhead s = s := by
  have hid (i : Nat) : closeIfAhead s i = s := by
    unfold closeIfAhead
    split
    · rfl
    · have hnone (x : Context) (j : Nat) (d : Context) (hd : ctxAt s j = some d) : (d.state == .expected && d.entered &&
          (x.state != .expected || decide (d.position < x.position))) = false := by
        by_cases he : d.state = .expected
        · simp [h j d hd he]
        · simp [he]
      rw [slotOf_eq_none (hnone _)]
      rfl
  unfold closeAllAhead
  generalize lineOrder s = l
  induction l with
  | nil => rfl
  | cons i rest ih => rw [List.foldl_cons, hid, ih]

theorem tryPair_of_none (h : s.boards.passIn = none) : tryPair s = s := by
  simp only [tryPair, h]

/-- An unexpected board gets a context in the lowest empty slot (R129). -/
theorem unexpectedBoard_eq {slot : Nat} (he : emptySlot s = some slot) (hn : ∀ i c, ctxAt s i = some c → c.entered = false)
    (hp : s.boards.passIn = none) : unexpectedBoard s = s.setBoards { s.boards with
      slots := s.boards.slots.set slot (some (unexpectedCtx ((cfg s).station - 1)))
      passWait := some (ms (cfg s).passportWait) } := by
  let u := setSlot s slot (some (unexpectedCtx ((cfg s).station - 1)))
  have hclose : closeAllAhead u = u := by
    refine closeAllAhead_of_none_entered fun i c hc _ => ?_
    rw [ctxAt_setSlot] at hc
    split at hc
    · cases hc
      rfl
    · exact hn i c hc
  simp only [unexpectedBoard, he, Option.isSome_some, if_true]
  rw [hclose]
  exact tryPair_of_none (s := u.setBoards { u.boards with passWait := some (ms (cfg s).passportWait) }) hp

/-! ### The transfer completed -/

theorem exec_exitSensor_of_transfer {x : Transfer} (h : s.boards.transfer = some x) :
    exec .exitSensor s =
      .next (finish false s (tryComplete (s.setBoards { s.boards with transfer := some { x with exited := true } }))) := by
  change execExitSensor s = _
  simp only [execExitSensor, h]

theorem exec_clampClosed (h : s.boards.clampOut = true) :
    exec .clampClosed s = .next (finish false s (tryComplete (s.setInputs { s.inputs with clampClosed := true }))) :=
  if_pos h

theorem queueAnnounce_boards (s : State) (n p q : Nat) (m : BitVec 8) : (queueAnnounce s n p q m).boards = s.boards := by
  unfold queueAnnounce
  dsimp only
  (repeat' split) <;> rfl

/-- The ARRIVING context becomes CURRENT at this station, and the transfer is over, when no board departs (R128). -/
theorem tryComplete_of_clamped {x : Transfer} {slot : Nat} {c : Context} (hx : s.boards.transfer = some x)
    (hd : x.departs = false) (ha : x.arrived = true) (hj : x.jammed = false) (hdep : departingSlot s = none)
    (harr : arrivingSlot s = some slot) (hc : ctxAt s slot = some c) (hcl : clamped s = true) :
    (tryComplete s).boards.transfer = none ∧
    ctxAt (tryComplete s) slot = some { c with state := .current, position := (cfg s).station } := by
  have hdone : transferDone s x = true := by simp [transferDone, hd, ha, hj, hcl]
  have hresult : reportResult s = s := by simp only [reportResult, hdep, Option.bind_none]
  have hcomplete : tryComplete s =
      stopAtTransferEnd ((becomeCurrent s).setBoards { (becomeCurrent s).boards with transfer := none }) := by
    rw [tryComplete, hx]
    dsimp only
    rw [if_pos hdone, completeTransfer, hresult, hdep, removeAt]
  let u := modCtx s slot fun c => { c with state := .current, position := (cfg s).station }
  have hcurrent : (becomeCurrent s).boards.slots = u.boards.slots := by
    simp only [becomeCurrent, harr, announceCtx]
    (repeat' split)
    · rw [queueAnnounce_boards]
    · rfl
    · rfl
  rw [hcomplete]
  refine ⟨congrArg Boards.transfer (stopAtTransferEnd_spec _).2.1, ?_⟩
  rw [ctxAt_congr (congrArg Boards.slots (stopAtTransferEnd_spec _).2.1)]
  exact (congrFun (ctxAt_congr hcurrent) slot).trans (ctxAt_modCtx_self hc _)

/-! ### The passport wait -/

/-- The wait of an identified context that ends with an empty buffer settles its pairing with NO_PASSPORT (R133). -/
theorem expireWait_of_empty {slot : Nat} {c : Context} (hs : awaitedSlot s = some slot) (hp : s.boards.passIn = none)
    (hc : ctxAt s slot = some c) (hu : c.flags.unidentified = false) :
    expireWait s = s.setBoards { s.boards with
      slots := s.boards.slots.set slot
        (some { c with pairing := .settled, flags := { c.flags with noPassport := true } })
      passIn := none, passWait := none } := by
  let d := { c with flags := { c.flags with noPassport := true } }
  let u := setSlot s slot (some d)
  have hu' : ctxAt u slot = some d := ctxAt_setSlot_self hc _
  have hmod : modCtx s slot (fun c => { c with flags := { c.flags with noPassport := true } }) = u :=
    modCtx_eq_setSlot hc _
  have hunknown : reportUnknown u slot = u := by
    have hflag : d.flags.unidentified = false := hu
    simp only [reportUnknown, hu', hflag, Bool.false_eq_true, if_false]
  have hexpire : expireWait s = settlePairing u slot := by
    simp only [expireWait, hs, hp]
    rw [hmod, hunknown]
  rw [hexpire, settlePairing, modCtx_eq_setSlot hu', setSlot_setSlot]
  rfl

end

/-- Settles O54: each input by itself, the completion, and the wait that expires. -/
theorem sensorsCompleteTheTransfer : Obligations.SensorsCompleteTheTransfer := by
  intro s
  refine ⟨⟨rfl, _, rfl, ?entryEmpty⟩, fun hx => ?entry, fun x hx ha hg hc => ?expected, fun x slot hx ha he hn hp hg hc => ?unexpected,
    fun hx => ?noExit, fun x hx ha har => ?exit, fun ho => ?unclamped, fun ho hx => ?clamp,
    fun x slot c ho hx hd har hj hdep harr hc hser => ?completed, fun slot c hw hp hs hc hu => ?expired, fun hw => ?noWait⟩
  case entryEmpty => rw [finish_work]; rfl
  case entry => exact ⟨_, exec_entrySensor_of_none hx, by rw [finish_work]; rfl⟩
  case expected =>
    refine ⟨_, exec_entrySensor_of_transfer hx, ?_⟩
    let u := s.setInputs { s.inputs with entryBoard := true }
    have hstop : boardAtStop u x = clamping u x := boardAtStop_of_arriving (s := u) x ha hg hc
    rw [finish_work, hstop]
    simp only [clamping, Bool.and_true]
    rfl
  case unexpected =>
    refine ⟨_, exec_entrySensor_of_transfer hx, ?_⟩
    let u := s.setInputs { s.inputs with entryBoard := true }
    let v := u.setBoards { u.boards with
      slots := u.boards.slots.set slot (some (unexpectedCtx ((cfg s).station - 1)))
      passWait := some (ms (cfg s).passportWait) }
    have hboard : unexpectedBoard u = v := unexpectedBoard_eq (s := u) he hn hp
    have hv : ctxAt v slot = some (unexpectedCtx ((cfg s).station - 1)) :=
      (ctxAt_setSlot s slot slot _).trans (if_pos ⟨rfl, emptySlot_lt he⟩)
    have harr : (arrivingSlot v).isSome = true := slotOf_isSome hv rfl
    have hstop : boardAtStop u x = clamping v x := by
      have ha' : arrivingSlot u = none := ha
      have hsame : boardAtStop u x = boardAtStop v x := by
        unfold boardAtStop
        rw [ha', hboard, if_pos harr]
        rfl
      rw [hsame]
      exact boardAtStop_of_arriving (s := v) x harr hg hc
    rw [finish_work, hstop]
    simp only [clamping, Bool.and_true]
    rfl
  case noExit =>
    change execExitSensor s = _
    simp only [execExitSensor, hx]
  case exit =>
    refine ⟨_, exec_exitSensor_of_transfer hx, ?_⟩
    let u := s.setBoards { s.boards with transfer := some { x with exited := true } }
    have hwait : tryComplete u = u := tryComplete_of_arriving (s := u) rfl ha (.inl har)
    rw [finish_work, hwait]
    rfl
  case unclamped => exact if_neg (by simp [ho])
  case clamp =>
    refine ⟨_, exec_clampClosed ho, ?_⟩
    let u := s.setInputs { s.inputs with clampClosed := true }
    have hnone : tryComplete u = u := tryComplete_of_none (s := u) hx
    rw [finish_work, hnone]
    rfl
  case completed =>
    let u := s.setInputs { s.inputs with clampClosed := true }
    have hcl : clamped u = true := by
      change (s.boards.clampOut && true) = true
      rw [ho]
      rfl
    obtain ⟨hover, hctx⟩ := tryComplete_of_clamped (s := u) hx hd har hj hdep harr hc hcl
    obtain ⟨c', hc', heq⟩ := finish_ctxAt_some false s hctx
    have hserial : c'.unjudged.serial = c.serial := (congrArg Context.serial heq).trans rfl
    have hstate : c'.unjudged.state = .current := (congrArg Context.state heq).trans rfl
    have hposition : c'.unjudged.position = (cfg s).station := (congrArg Context.position heq).trans rfl
    exact ⟨_, c', exec_clampClosed ho, (congrArg Work.transfer (finish_work _ _ _)).trans hover, hc', hserial, hstate,
      hposition⟩
  case expired =>
    refine ⟨_, if_pos hw, ?_⟩
    rw [finish_work, expireWait_of_empty hs hp hc hu, ← hp]
    rfl
  case noWait => exact if_neg (by simp [hw])

end Sys2Proof.Machine
end

section
/-! PROOF. O56: the alarm list's requests (R171, R177, R178). -/

namespace Sys2Proof.Machine

/-! ### The alarm list through the end of a command -/

section
variable {s : State}

theorem downstreamMissing_congr {t : State} (hsetup : t.console.setup = s.console.setup) (hline : t.line = s.line) :
    downstreamMissing t = downstreamMissing s := by
  have hcfg : cfg t = cfg s := by simp only [cfg, hsetup]
  have hroster (n : Nat) : rosterAt t n = rosterAt s n := by simp only [rosterAt, hline]
  simp only [downstreamMissing, hcfg, hroster]

theorem completeRun_alarms (s : State) : (completeRun s).jam.alarms = s.jam.alarms := by
  unfold completeRun; (repeat' split) <;> rfl

/-- With the next station present, or none awaited, the hold line enters no alarm (R125). -/
theorem updateHold_alarms (h : downstreamMissing s = false) : (updateHold s).jam.alarms = s.jam.alarms := by
  have hfive : fiveAlone (updatePull s) = false := by
    have hc5 : (holdConditions (updatePull s)).c5 = false := (downstreamMissing_congr rfl rfl).trans h
    rw [fiveAlone, hc5]
    rfl
  simp only [updateHold, watchDownstream, hfive, Bool.false_and, Bool.false_eq_true, if_false]
  rfl

theorem testFinished_setup (s : State) : (testFinished s).console.setup = s.console.setup := by
  unfold testFinished; (repeat' split) <;> rfl

/-- The end of a command enters DOWNSTREAM_ABSENT alone, and that only where the next station is absent (R125). -/
theorem finish_alarms (atUp : Bool) (before : State) (h : downstreamMissing s = false) :
    (finish atUp before s).jam.alarms = s.jam.alarms := by
  let u := dropStale (completeRun (releaseGate (aim atUp before (testFinished s))))
  have hsetup : u.console.setup = s.console.setup := by
    simp [u, aim, testFinished_setup]
  have hline : u.line = s.line := by simp [u, aim]
  have hu : u.jam.alarms = s.jam.alarms := by simp [u, completeRun_alarms]
  change (statusOnChange before (updateHold u)).jam.alarms = _
  rw [statusOnChange_jam, updateHold_alarms ((downstreamMissing_congr hsetup hline).trans h), hu]

/-! ### ALARM_ACK and ALARM_CLEAR -/

variable {body : List Byte} (extra : List Byte)

theorem exec_alarmAck_framed (s : State) (hl : body.length = 2) :
    exec (.alarmAck (framed body extra)) s = .next ((judgeAck s body).conclude s 0x53) :=
  congrArg Host.Outcome.next (request_framed s 0x53 true extra (judgeAck s) hl (by decide) (.inl rfl))

theorem exec_alarmClear_framed (s : State) (hl : body.length = 2) :
    exec (.alarmClear (framed body extra)) s = .next ((judgeClear s body).conclude s 0x54) :=
  congrArg Host.Outcome.next (request_framed s 0x54 true extra (judgeClear s) hl (by decide) (.inl rfl))

theorem alarmAt_eq_none {n : Nat} (h : ∀ e ∈ s.jam.alarms, e.number ≠ n) : alarmAt s n = none :=
  List.find?_eq_none.mpr fun e he => by simpa using h e he

theorem alarmAt_isSome {e : AlarmEntry} (he : e ∈ s.jam.alarms) : (alarmAt s e.number).isSome = true :=
  List.find?_isSome.mpr ⟨e, he, beq_self_eq_true _⟩

/-- The one entry with its number is the one found. -/
theorem alarmAt_of_unique {e : AlarmEntry} (he : e ∈ s.jam.alarms) (h : ∀ x ∈ s.jam.alarms, x.number = e.number → x = e) :
    alarmAt s e.number = some e := by
  obtain ⟨x, hx⟩ := Option.isSome_iff_exists.mp (alarmAt_isSome he)
  have hmem : x ∈ s.jam.alarms := List.mem_of_find?_eq_some hx
  have hnum : x.number = e.number := by simpa using List.find?_some hx
  rw [hx, h x hmem hnum]

theorem judgeClear_of_held {e : AlarmEntry} (hn : e.number = at16 body 0) (h1 : 1 ≤ e.number)
    (hat : alarmAt s e.number = some e) : judgeClear s body =
      if e.cls.stop ∧ s.jam.run ≠ .halted then .refuse .refusedState else .done (finish false s (dropAlarm s e)) := by
  have hat' : alarmAt s (at16 body 0) = some e := hn ▸ hat
  simp only [judgeClear, hat', if_neg (show at16 body 0 ≠ 0 by omega)]

/-- The entries but those of a number. -/
def otherAlarms (list : List AlarmEntry) (n : Nat) : List AlarmEntry := list.filter fun x => x.number ≠ n

/-- The alarm list without the entries of a number. -/
def withoutAlarm (s : State) (n : Nat) : State := s.setJam { s.jam with alarms := otherAlarms s.jam.alarms n }

theorem dropAlarm_eq (s : State) (e : AlarmEntry) :
    dropAlarm s e = if e.cls.stop then leaveHalted (withoutAlarm s e.number) else withoutAlarm s e.number := by
  have hlist : s.jam.alarms.filter (·.number != e.number) = otherAlarms s.jam.alarms e.number :=
    List.filter_congr fun x _ => by by_cases h : x.number = e.number <;> simp [h]
  rw [dropAlarm, hlist]
  rfl

/-- Removing an entry and keeping the STOP entries may be done in either order. -/
theorem stops_otherAlarms (list : List AlarmEntry) (n : Nat) :
    (otherAlarms list n).filter (·.cls.stop) = otherAlarms (list.filter (·.cls.stop)) n := by
  simp only [otherAlarms, List.filter_filter, Bool.and_comm]

/-- Removing a NOTE entry leaves the STOP entries. -/
theorem stops_otherAlarms_of_note {e : AlarmEntry} {list : List AlarmEntry} (h : ∀ x ∈ list, x.number = e.number → x = e)
    (he : e.cls.stop = false) : (otherAlarms list e.number).filter (·.cls.stop) = list.filter (·.cls.stop) := by
  rw [otherAlarms, List.filter_filter]
  refine List.filter_congr fun x hx => ?_
  by_cases hn : x.number = e.number
  · rw [h x hx hn, he]
    rfl
  · simp [hn]

theorem holdsStop_iff (list : List AlarmEntry) : holdsStop list = false ↔ list.filter (·.cls.stop) = [] := by
  simp [holdsStop, List.filter_eq_nil_iff]

theorem leaveHalted_work (s : State) : (leaveHalted s).work = s.work ∧ (leaveHalted s).jam.alarms = s.jam.alarms ∧
    (leaveHalted s).line = s.line ∧ (leaveHalted s).console = s.console := by
  unfold leaveHalted
  split <;> exact ⟨rfl, rfl, rfl, rfl⟩

/-- A HALTED station leaves HALTED as its last STOP entry goes (R171). -/
theorem leaveHalted_run (hrun : s.jam.run = .halted) (hu : s.jam.unrecordedHalt = false) : (leaveHalted s).jam.run =
    if s.jam.alarms.filter (·.cls.stop) = [] then (if s.table.homeValid then .ready else .idle) else .halted := by
  by_cases hs : s.jam.alarms.filter (·.cls.stop) = []
  · rw [leaveHalted, if_pos (by simp [hrun, hu, (holdsStop_iff _).mpr hs]), if_pos hs]
    rfl
  · rw [leaveHalted, if_neg (by simp [hu, hrun, (holdsStop_iff _).not.mpr hs]), if_neg hs, hrun]

end

/-- Settles O56: the number, the entry, and the run state after the last STOP entry. -/
theorem alarmsAreAcknowledgedAndCleared : Obligations.AlarmsAreAcknowledgedAndCleared := by
  intro s body extra hl
  have hack := exec_alarmAck_framed extra s hl
  have hclear := exec_alarmClear_framed extra s hl
  refine ⟨fun hz => ⟨?zeroAck, ?zeroClear⟩, fun h1 hno => ⟨?noneAck, ?noneClear⟩, fun e he h1 hn => ?acked,
    fun e he h1 hn hone => ⟨fun hstop hrun => ?early, fun hnote => ?note, fun hstop hrun hun => ?stop⟩⟩
  case zeroAck =>
    have hjudge : judgeAck s body = .refuse .refusedRange := if_pos hz
    rw [hack, hjudge]
    rfl
  case zeroClear =>
    have hjudge : judgeClear s body = .refuse .refusedRange := if_pos hz
    rw [hclear, hjudge]
    rfl
  case noneAck =>
    have hjudge : judgeAck s body = .refuse .refusedState := by
      simp [judgeAck, alarmAt_eq_none hno, show at16 body 0 ≠ 0 by omega]
    rw [hack, hjudge]
    rfl
  case noneClear =>
    have hjudge : judgeClear s body = .refuse .refusedState := by
      simp only [judgeClear, alarmAt_eq_none hno, if_neg (show at16 body 0 ≠ 0 by omega)]
    rw [hclear, hjudge]
    rfl
  case acked =>
    have hjudge : judgeAck s body = .done (ackAlarm s e.number) := by
      have hsome : (alarmAt s (at16 body 0)).isSome = true := hn ▸ alarmAt_isSome he
      simp only [judgeAck, hsome, if_true, if_neg (show at16 body 0 ≠ 0 by omega), hn]
    rw [hack, hjudge]
    rfl
  case early =>
    have hjudge : judgeClear s body = .refuse .refusedState := by
      rw [judgeClear_of_held hn h1 (alarmAt_of_unique he hone), if_pos ⟨hstop, hrun⟩]
    rw [hclear, hjudge]
    rfl
  case note =>
    let u := withoutAlarm s e.number
    have hjudge : judgeClear s body = .done (finish false s u) := by
      rw [judgeClear_of_held hn h1 (alarmAt_of_unique he hone), if_neg (by simp [hnote]), dropAlarm_eq,
        if_neg (by simp [hnote])]
    have hexec : exec (.alarmClear (framed body extra)) s = .next (respond (finish false s u) .done 0x54 .empty) := by
      rw [hclear, hjudge]
      rfl
    have hwork : u.work = s.work := by
      have hu : u.work = { s.work with stops := (otherAlarms s.jam.alarms e.number).filter (·.cls.stop) } := rfl
      rw [hu, stops_otherAlarms_of_note hone hnote]
      rfl
    refine ⟨_, hexec, ?_, fun hd => ?_⟩
    · rw [respond_work, finish_work, finish_response, hwork]
      rfl
    · rw [respond_jam, finish_alarms false s (s := u) hd]
      rfl
  case stop =>
    let u := withoutAlarm s e.number
    have hjudge : judgeClear s body = .done (finish false s (leaveHalted u)) := by
      rw [judgeClear_of_held hn h1 (alarmAt_of_unique he hone), if_neg (by simp [hrun]), dropAlarm_eq, if_pos hstop]
    have hexec : exec (.alarmClear (framed body extra)) s =
        .next (respond (finish false s (leaveHalted u)) .done 0x54 .empty) := by
      rw [hclear, hjudge]
      rfl
    obtain ⟨hlw, hla, hll, hlc⟩ := leaveHalted_work u
    have hwork : u.work = { s.work with stops := otherAlarms s.work.stops e.number } := by
      have hu : u.work = { s.work with stops := (otherAlarms s.jam.alarms e.number).filter (·.cls.stop) } := rfl
      rw [hu, stops_otherAlarms]
      rfl
    have hrunAfter := leaveHalted_run (s := u) hrun hun
    have hstops : u.jam.alarms.filter (·.cls.stop) = otherAlarms s.work.stops e.number :=
      stops_otherAlarms s.jam.alarms e.number
    rw [hstops] at hrunAfter
    have hsettled : (leaveHalted u).jam.run.settled = true := by
      rw [hrunAfter]
      (repeat' split) <;> rfl
    refine ⟨_, hexec, ?_, ?_, fun hd => ?_⟩
    · rw [respond_work, finish_work, finish_response, hlw, hlc, hwork]
      rfl
    · rw [respond_jam, (finish_run false s _ hsettled).1, hrunAfter]
      rfl
    · have hd' : downstreamMissing (leaveHalted u) = false :=
        (downstreamMissing_congr (s := s) (congrArg Console.setup hlc) hll).trans hd
      rw [respond_jam, finish_alarms false s hd', hla]
      rfl

end Sys2Proof.Machine
end

section
/-! PROOF. O57: sending and the line's timers (R142 to R151, R162). -/

namespace Sys2Proof.Machine

section
variable {s : State}

/-! ### Sending -/

theorem exec_frameBegin_of_held (h : s.line.sending.isSome = true ∨ setupDone s = false ∨ nextFrame s = none) :
    exec .frameBegin s = .next s := by
  change execFrameBegin s = _
  unfold execFrameBegin
  split
  case h_1 hs hn =>
    rcases h with h | h | h
    · simp [hs] at h
    · simp [h]
    · simp [hn] at h
  case h_2 => rfl

theorem exec_frameBegin_of_next (hs : s.line.sending = none) (hd : setupDone s = true) {f : Frame} {src : Source}
    (h : nextFrame s = some (f, src)) : exec .frameBegin s = .next (s.setLine { s.line with
      sending := some { frame := f, source := some src, withdrawn := false }
      begunNormal := s.line.begunNormal || src == .normal }) := by
  change execFrameBegin s = _
  simp only [execFrameBegin, hs, h, hd, if_true]

theorem nextFrame_urgent {f : Frame} (h : s.line.urgent.head? = some f) : nextFrame s = some (f, .urgent) := by
  obtain ⟨rest, hq⟩ := List.head?_eq_some_iff.mp h
  simp only [nextFrame, hq]

theorem nextFrame_passport {f : Frame} (hu : s.line.urgent = []) (h : s.boards.passOut.head? = some f) :
    nextFrame s = some (f, .passport) := by
  obtain ⟨rest, hq⟩ := List.head?_eq_some_iff.mp h
  simp only [nextFrame, hu, hq]

theorem nextFrame_normal {f : Frame} (hu : s.line.urgent = []) (hp : s.boards.passOut = [])
    (h : s.line.normal.head? = some f) : nextFrame s = some (f, .normal) := by
  obtain ⟨rest, hq⟩ := List.head?_eq_some_iff.mp h
  simp only [nextFrame, hu, hp, hq]

theorem exec_frameSent {x : Sending} (h : s.line.sending = some x) :
    exec .frameSent s = .next (finish false s (sentFrame s x)) := by
  change execFrameSent s = _
  simp only [execFrameSent, h]

theorem exec_frameAttemptFailed {x : Sending} (h : s.line.sending = some x) :
    exec .frameAttemptFailed s = .next (failedFrame s x) := by
  change execFrameAttemptFailed s = _
  simp only [execFrameAttemptFailed, h]

/-- The end of a command that changes nothing a STATUS tells queues none (R151). -/
theorem finish_line_of_same (atUp : Bool) (before s : State) (hr : (finish atUp before s).jam.run = before.jam.run)
    (hc : currentSerial (finish atUp before s) = currentSerial before)
    (hp : (finish atUp before s).boards.pulled = before.boards.pulled) : (finish atUp before s).line = s.line := by
  have hserial : currentSerial (statusOnChange before (consequences atUp before s)) =
      currentSerial (consequences atUp before s) := by
    unfold statusOnChange
    split <;> rfl
  rw [finish_eq] at hr hc hp ⊢
  rw [statusOnChange_jam] at hr
  rw [hserial] at hc
  rw [statusOnChange_boards] at hp
  rw [statusOnChange, if_pos ⟨hr.symm, hc.symm, hp.symm⟩, consequences_line]

/-! ### Timers -/

theorem replaceFirst_eq_none {p : Frame → Bool} {f : Frame} {q : List Frame} (h : ∀ g ∈ q, p g = false) :
    replaceFirst p f q = none := by
  induction q with
  | nil => rfl
  | cons g rest ih =>
    rw [replaceFirst, if_neg (by simp [h g List.mem_cons_self]), ih fun x hx => h x (List.mem_cons_of_mem _ hx)]
    rfl

/-- With no STATUS in the queue one joins it at the back (R147). -/
theorem withStatus_of_none {q : List Frame} (begun : Bool) (f : Frame) (h : ∀ g ∈ q, g.isStatus = false) :
    withStatus begun q f = q ++ [f] := by
  cases begun with
  | false => simp [withStatus, replaceFirst_eq_none h]
  | true =>
    have hrest := replaceFirst_eq_none (f := f) (q := q.drop 1) fun g hg => h g (List.mem_of_mem_drop hg)
    simp only [withStatus, if_true, hrest, List.take_append_drop]

end

/-- Settles O57: the choice of the frame, its end in each source, and the timers. -/
theorem sendingAndTheLinesTimers : Obligations.SendingAndTheLinesTimers := by
  intro s
  refine ⟨fun h => ?held, fun hs hu hp hn => ?empty, fun hs hd f src h => ?begin, fun f w hx => ?urgent,
    fun f w hx => ?passport, fun f w hx => ?normal, fun x hx hw => ?failed, fun x hx hw hsrc => ?withdrawn,
    fun hs => ⟨?noneSent, ?noneFailed⟩, rfl, fun n h1 h15 hsil => ?silent, fun n hsil => ?heard, fun ht hd hq => ?interval,
    fun ht => ?noInterval⟩
  case held =>
    rcases h with h | h
    · exact exec_frameBegin_of_held (.inl h)
    · exact exec_frameBegin_of_held (.inr (.inl h))
  case empty => exact exec_frameBegin_of_held (.inr (.inr (by simp only [nextFrame, hu, hp, hn])))
  case begin =>
    rcases h with ⟨rfl, h⟩ | ⟨rfl, hu, h⟩ | ⟨rfl, hu, hp, h⟩
    · exact exec_frameBegin_of_next hs hd (nextFrame_urgent h)
    · exact exec_frameBegin_of_next hs hd (nextFrame_passport hu h)
    · exact exec_frameBegin_of_next hs hd (nextFrame_normal hu hp h)
  case urgent => exact ⟨_, exec_frameSent hx, by rw [finish_work, ← List.drop_one]; rfl⟩
  case passport => exact ⟨_, exec_frameSent hx, by rw [finish_work, ← List.drop_one]; rfl⟩
  case normal =>
    refine ⟨_, exec_frameSent hx, by rw [finish_work]; rfl, fun hr hc hp => ?_⟩
    rw [finish_line_of_same _ _ _ hr hc hp, ← List.drop_one]
    rfl
  case failed => rw [exec_frameAttemptFailed hx, failedFrame, if_neg (by simp [hw])]
  case withdrawn => rw [exec_frameAttemptFailed hx, failedFrame, if_pos ⟨hw, hsrc⟩, List.drop_one]
  case noneSent =>
    change execFrameSent s = _
    simp only [execFrameSent, hs]
  case noneFailed =>
    change execFrameAttemptFailed s = _
    simp only [execFrameAttemptFailed, hs]
  case silent =>
    refine ⟨_, if_pos hsil, ?_⟩
    rw [finish_work, modRoster, if_neg (by omega)]
    rfl
  case heard => exact if_neg (by simp [hsil])
  case interval =>
    have hno : statusQueued s = false := by
      rw [statusQueued, List.any_eq_false]
      intro f hf
      simp [hq f hf]
    have hexec : exec .statusIntervalExpiry s = .next (queueStatus s) := if_pos (by simp [ht, hno])
    rw [hexec, queueStatus, if_pos hd, withStatus_of_none _ _ hq]
    rfl
  case noInterval => exact if_neg (by simp [ht])

end Sys2Proof.Machine
end

section
/-! PROOF. O59: the wire form of every frame (R143, R148, R193, R194). -/

namespace Sys2Proof

/-! ### Bytes and their bits (R193) -/

/-- One bit read behind the bits before it, most significant first. -/
def pushBit (n : Nat) (b : Bool) : Nat := 2 * n + (if b then 1 else 0)

theorem pushBit_getLsbD (n : Nat) (b : Byte) (i : Nat) : pushBit n (b.getLsbD i) = 2 * n + b.toNat / 2 ^ i % 2 := by
  rw [← Nat.toNat_testBit, pushBit]
  change 2 * n + (if b.toNat.testBit i then 1 else 0) = _
  cases b.toNat.testBit i <;> rfl

/-- The eight bits of a byte read behind the bits before it. -/
theorem foldl_bitsOfByte (n : Nat) (b : Byte) : (bitsOfByte b).foldl pushBit n = 256 * n + b.toNat := by
  have hbits : bitsOfByte b = [b.getLsbD 7, b.getLsbD 6, b.getLsbD 5, b.getLsbD 4, b.getLsbD 3, b.getLsbD 2,
    b.getLsbD 1, b.getLsbD 0] := rfl
  have hlt : b.toNat < 256 := b.isLt
  rw [hbits]
  simp only [List.foldl_cons, List.foldl_nil, pushBit_getLsbD]
  omega

theorem natOfBits_bitsOfByte (b : Byte) : natOfBits (bitsOfByte b) = b.toNat := by
  have h := foldl_bitsOfByte 0 b
  rw [Nat.mul_zero, Nat.zero_add] at h
  exact h

theorem bitsOfByte_length (b : Byte) : (bitsOfByte b).length = 8 := rfl

theorem flatMap_bitsOfByte_length (l : List Byte) : (l.flatMap bitsOfByte).length = 8 * l.length := by
  induction l with
  | nil => rfl
  | cons b l ih => simp only [List.flatMap_cons, List.length_append, List.length_cons, ih, bitsOfByte_length]; omega

/-- Bits in groups of eight give back the bytes they were made of. -/
theorem bytesOfBits_flatMap (l : List Byte) (rest : List Bool) :
    bytesOfBits l.length (l.flatMap bitsOfByte ++ rest) = l := by
  induction l with
  | nil => rfl
  | cons b l ih =>
    have htake : (bitsOfByte b ++ (l.flatMap bitsOfByte ++ rest)).take 8 = bitsOfByte b :=
      List.take_left' (bitsOfByte_length b)
    have hdrop : (bitsOfByte b ++ (l.flatMap bitsOfByte ++ rest)).drop 8 = l.flatMap bitsOfByte ++ rest :=
      List.drop_left' (bitsOfByte_length b)
    rw [List.flatMap_cons, List.append_assoc, List.length_cons, bytesOfBits, htake, hdrop, ih, natOfBits_bitsOfByte,
      BitVec.ofNat_toNat, BitVec.setWidth_eq]

theorem firstByte_of_bits (b : Byte) (rest : List Bool) : (bytesOfBits 1 (bitsOfByte b ++ rest)).headD 0 = b := by
  have h := bytesOfBits_flatMap [b] rest
  rw [List.flatMap_cons, List.flatMap_nil, List.append_nil] at h
  rw [show bytesOfBits 1 (bitsOfByte b ++ rest) = [b] from h]
  rfl

/-- The CRC is read back from its two bytes (R193). -/
theorem crc_of_bits (crc : BitVec 16) :
    BitVec.ofNat 16 (natOfBits ((beBytes 2 crc.toNat).flatMap bitsOfByte)) = crc := by
  have hlt : crc.toNat < 65536 := crc.isLt
  have hbits : (beBytes 2 crc.toNat).flatMap bitsOfByte =
      bitsOfByte (BitVec.ofNat 8 (crc.toNat / 256)) ++ bitsOfByte (BitVec.ofNat 8 crc.toNat) := rfl
  have hnat : natOfBits ((beBytes 2 crc.toNat).flatMap bitsOfByte) = crc.toNat := by
    rw [hbits]
    change (bitsOfByte _ ++ bitsOfByte _).foldl pushBit 0 = _
    rw [List.foldl_append, foldl_bitsOfByte, foldl_bitsOfByte]
    simp only [BitVec.toNat_ofNat]
    omega
  rw [hnat, BitVec.ofNat_toNat, BitVec.setWidth_eq]

/-! ### Stuffing (R193) -/

/-- The wire after `run` bits of level `last`: a stuff bit comes first when five of one level stand. -/
def stuffTail (bits : List Bool) (run : Nat) (last : Bool) : List Bool :=
  if run = 5 then (!last) :: stuffBits bits 1 (!last) else stuffBits bits run last

theorem stuffTail_of_ne {run : Nat} (h : run ≠ 5) (bits : List Bool) (last : Bool) :
    stuffTail bits run last = stuffBits bits run last := if_neg h

theorem stuffBits_cons (b : Bool) (bs : List Bool) (run : Nat) (last : Bool) :
    stuffBits (b :: bs) run last = b :: stuffTail bs (if b = last then run + 1 else 1) b := by
  unfold stuffBits stuffTail
  dsimp only
  by_cases h : (if b = last then run + 1 else 1) = 5
  · rw [if_pos h, if_pos h]
  · rw [if_neg h, if_neg h]

/-- The receiver takes the stuff bits out again: of the bits `a ++ b` on the wire it reads `a` and stands before `b`. -/
theorem unstuffBits_stuffTail (a b tail : List Bool) : ∀ (run : Nat) (last : Bool), run ≤ 5 →
    ∃ r l, r ≤ 5 ∧ unstuffBits (stuffTail (a ++ b) run last ++ tail) a.length run last =
      some (a, r, l, stuffTail b r l ++ tail) := by
  induction a with
  | nil => exact fun run last h => ⟨run, last, h, by rw [List.nil_append, List.length_nil, unstuffBits]⟩
  | cons x a ih =>
    have step (run : Nat) (last : Bool) (h : run < 5) : ∃ r l, r ≤ 5 ∧
        unstuffBits (stuffBits (x :: a ++ b) run last ++ tail) (a.length + 1) run last =
          some (x :: a, r, l, stuffTail b r l ++ tail) := by
      have hrun : (if x = last then run + 1 else 1) ≤ 5 := by split <;> omega
      obtain ⟨r, l, hr, hread⟩ := ih (if x = last then run + 1 else 1) x hrun
      refine ⟨r, l, hr, ?_⟩
      rw [List.cons_append, stuffBits_cons, List.cons_append, unstuffBits, if_neg (by omega), hread]
    intro run last h
    by_cases h5 : run = 5
    · subst h5
      obtain ⟨r, l, hr, hread⟩ := step 1 (!last) (by omega)
      refine ⟨r, l, hr, ?_⟩
      rw [List.length_cons, stuffTail, if_pos rfl, List.cons_append, unstuffBits, if_pos rfl,
        if_neg (by cases last <;> decide), hread]
    · rw [stuffTail_of_ne h5]
      exact step run last (by omega)

/-- The stuff bit after the last bit of the frame, where there is one, is taken off before the end field (log 33). -/
theorem dropLastStuff_stuffTail (run : Nat) (last : Bool) (ending : List Bool) :
    dropLastStuff run last (stuffTail [] run last ++ ending) = some ending := by
  by_cases h : run = 5
  · subst h
    cases last <;> rfl
  · rw [stuffTail_of_ne h]
    exact if_neg h

/-! ### The header (R143) -/

section
variable (cls : Bool) (k : FrameKind) (sender : BitVec 4)

theorem headerByte_toNat : (headerByte cls k sender).toNat = (if cls then 128 else 0) + 16 * k.value + sender.toNat := by
  have hs : sender.toNat < 16 := sender.isLt
  have hk : k.value ≤ 7 := by cases k <;> decide
  rw [headerByte, BitVec.toNat_ofNat]
  refine Nat.mod_eq_of_lt ?_
  split <;> omega

theorem kind_of_header : kindOfValue ((headerByte cls k sender).toNat / 16 % 8) = some k := by
  have hs : sender.toNat < 16 := sender.isLt
  have hk : k.value ≤ 7 := by cases k <;> decide
  have hvalue : (headerByte cls k sender).toNat / 16 % 8 = k.value := by
    rw [headerByte_toNat]
    split <;> omega
  rw [hvalue]
  cases k <;> rfl

theorem class_of_header : (headerByte cls k sender).getLsbD 7 = cls := by
  have hs : sender.toNat < 16 := sender.isLt
  have hk : k.value ≤ 7 := by cases k <;> decide
  change (headerByte cls k sender).toNat.testBit 7 = cls
  rw [headerByte_toNat, Nat.testBit_eq_decide_div_mod_eq]
  cases cls
  · simp only [Bool.false_eq_true, if_false, decide_eq_false_iff_not]
    omega
  · simp only [if_true, decide_eq_true_eq]
    omega

theorem sender_of_header : BitVec.ofNat 4 (headerByte cls k sender).toNat = sender := by
  have hs : sender.toNat < 16 := sender.isLt
  refine BitVec.eq_of_toNat_eq ?_
  rw [BitVec.toNat_ofNat, headerByte_toNat]
  split <;> omega

end

/-! ### The frame on the wire (R193) -/

/-- What stands on the wire behind header and length: the payload and the CRC. -/
def bodyBits (f : HeardFrame) : List Bool :=
  f.payload.flatMap bitsOfByte ++ (beBytes 2 f.crc.toNat).flatMap bitsOfByte

theorem frameBits_eq (k : FrameKind) (f : HeardFrame) : frameBits k f =
    (false :: (bitsOfByte (headerByte f.cls k f.sender) ++ bitsOfByte f.length)) ++ bodyBits f := by
  simp only [frameBits, bodyBits, List.cons_append, List.flatMap_cons, List.flatMap_append, List.append_assoc]

/-- The bits of a frame, as its sender drives them, give the command that hears it. -/
theorem decodeWire_encodeWire (k : FrameKind) {f : HeardFrame} (hf : f.wf = true) :
    decodeWire (encodeWire k f) = frameCommand k f := by
  simp only [HeardFrame.wf, Bool.and_eq_true, beq_iff_eq, decide_eq_true_eq] at hf
  obtain ⟨hlen, hle⟩ := hf
  let head := false :: (bitsOfByte (headerByte f.cls k f.sender) ++ bitsOfByte f.length)
  have hbody : (bodyBits f).length = 8 * f.length.toNat + 16 := by
    rw [bodyBits, List.length_append, flatMap_bitsOfByte_length, hlen]
    rfl
  have hwire : encodeWire k f = stuffTail (head ++ bodyBits f) 0 true ++ List.replicate 7 true := by
    rw [encodeWire, frameBits_eq, stuffTail_of_ne (by decide)]
  obtain ⟨run, last, hrun, hhead⟩ := unstuffBits_stuffTail head (bodyBits f) (List.replicate 7 true) 0 true (by decide)
  obtain ⟨run', last', -, hrest⟩ := unstuffBits_stuffTail (bodyBits f) [] (List.replicate 7 true) run last hrun
  rw [List.append_nil, hbody] at hrest
  have hhead' : unstuffBits (encodeWire k f) 17 0 true =
      some (head, run, last, stuffTail (bodyBits f) run last ++ List.replicate 7 true) := by
    rw [hwire]
    exact hhead
  have hheader : (bytesOfBits 1 (head.drop 1)).headD 0 = headerByte f.cls k f.sender := firstByte_of_bits _ _
  have hlength : (bytesOfBits 1 (head.drop 9)).headD 0 = f.length := by
    have hdrop : head.drop 9 = bitsOfByte f.length ++ [] := by
      change (bitsOfByte (headerByte f.cls k f.sender) ++ bitsOfByte f.length).drop 8 = _
      rw [List.drop_left' (bitsOfByte_length _), List.append_nil]
    rw [hdrop, firstByte_of_bits]
  have hpayload : bytesOfBits f.length.toNat (bodyBits f) = f.payload := hlen ▸ bytesOfBits_flatMap f.payload _
  have hcrc : BitVec.ofNat 16 (natOfBits ((bodyBits f).drop (8 * f.length.toNat))) = f.crc := by
    rw [bodyBits, List.drop_left' (by rw [flatMap_bitsOfByte_length, hlen]), crc_of_bits]
  have hshort : (head.headD true || decide (32 < f.length.toNat)) = false := by
    change (false || decide (32 < f.length.toNat)) = false
    simp [hle]
  simp only [decodeWire, hhead', hheader, hlength, hshort, Bool.false_eq_true, if_false, hrest, dropLastStuff_stuffTail,
    kind_of_header, class_of_header, sender_of_header, hpayload, hcrc]
  rfl

namespace Machine

/-! ### The fields of a payload (R194) -/

theorem byte1_eq (n : Nat) : byte1 n = [BitVec.ofNat 8 n] := rfl

theorem beBytes_two (n : Nat) : beBytes 2 n = [BitVec.ofNat 8 (n / 256), BitVec.ofNat 8 n] := rfl

theorem beBytes_four (n : Nat) : beBytes 4 n = [BitVec.ofNat 8 (n / 256 / 256 / 256), BitVec.ofNat 8 (n / 256 / 256),
    BitVec.ofNat 8 (n / 256), BitVec.ofNat 8 n] := rfl

theorem at8_zero (b : Byte) (l : List Byte) : at8 (b :: l) 0 = b.toNat := rfl

theorem at8_succ (b : Byte) (l : List Byte) (i : Nat) : at8 (b :: l) (i + 1) = at8 l i := rfl

theorem at8_append (pre l : List Byte) (i : Nat) : at8 (pre ++ l) (pre.length + i) = at8 l i := by
  rw [at8, List.getD_append_right _ _ _ _ (Nat.le_add_right _ _), Nat.add_sub_cancel_left]
  rfl

theorem byteField {n : Nat} (h : n < 256) : (BitVec.ofNat 8 n).toNat = n := by
  rw [BitVec.toNat_ofNat, Nat.mod_eq_of_lt h]

/-- A 2-byte field read back. -/
theorem twoByteField {n : Nat} (h : n < 65536) : 256 * (BitVec.ofNat 8 (n / 256)).toNat + (BitVec.ofNat 8 n).toNat = n := by
  simp only [BitVec.toNat_ofNat]
  omega

/-- A 4-byte field read back. -/
theorem fourByteField {n : Nat} (h : n < 4294967296) :
    65536 * (256 * (BitVec.ofNat 8 (n / 256 / 256 / 256)).toNat + (BitVec.ofNat 8 (n / 256 / 256)).toNat) +
      (256 * (BitVec.ofNat 8 (n / 256)).toNat + (BitVec.ofNat 8 n).toNat) = n := by
  simp only [BitVec.toNat_ofNat]
  omega

/-- A hole coordinate read back from its two's complement (R4). -/
theorem signedField {i : Int} (h : holeInRange i = true) :
    signed16 (256 * (BitVec.ofNat 8 ((i % 65536).toNat / 256)).toNat + (BitVec.ofNat 8 (i % 65536).toNat).toNat) = i := by
  simp only [holeInRange, Bool.and_eq_true, decide_eq_true_eq] at h
  rw [twoByteField (by omega), signed16]
  split <;> omega

theorem flagsField (f : PassFlags) : passFlagsOf f.byte.toNat = f := by
  have h : ∀ a b c d : Bool, passFlagsOf (PassFlags.byte ⟨a, b, c, d⟩).toNat = ⟨a, b, c, d⟩ := by decide
  exact h f.noPassport f.partialPassport f.unidentified f.passportFull

theorem clinchModeOf_code (m : ClinchMode) : clinchModeOf m.code = some m := by cases m <;> rfl

theorem runStateOf_code (r : RunState) : runStateOf r.code = some r := by cases r <;> rfl

/-- Even skipped stations, as a station numbered from 1 can send them (R194). -/
theorem skippedField {b : BitVec 16} (h : b.getLsbD 0 = false) : BitVec.ofNat 16 (b.toNat / 2 * 2) = b := by
  have heven : b.toNat % 2 = 0 := by
    have h' : b.toNat.testBit 0 = false := h
    simpa [Nat.testBit_zero] using h'
  rw [Nat.div_mul_cancel (Nat.dvd_of_mod_eq_zero heven), BitVec.ofNat_toNat, BitVec.setWidth_eq]

/-! ### The content of a payload (R143, R194) -/

/-- Item data behind other fields is read at their length. -/
theorem parseItem_append (pre l : List Byte) (serial : Nat) :
    parseItem (pre ++ l) serial pre.length = parseItem l serial 0 := by
  have h0 : at8 (pre ++ l) pre.length = at8 l 0 := at8_append pre l 0
  simp only [parseItem, holesAt, atS16, at16, Nat.add_assoc, at8_append, h0, Nat.zero_add]

theorem parseItem_bytes {d : ItemData} (h : d.wf = true) (rest : List Byte) :
    parseItem (d.bytes ++ rest) d.key.serial 0 = some d := by
  simp only [ItemData.wf, Holes.inRange, Bool.and_eq_true, decide_eq_true_eq, within_iff] at h
  obtain ⟨⟨⟨⟨⟨⟨h1, h15⟩, hstep⟩, himage⟩, ⟨⟨⟨hax, hay⟩, hbx⟩, hby⟩⟩, hp1, hp255⟩, hspan⟩ := h
  have hmode : d.mode.code < 256 := by cases d.mode <;> decide
  have hown : within 1 d.key.owner 15 = true := (within_iff _ _ _).mpr ⟨h1, h15⟩
  have hpart : (d.part != 0) = true := by simp; omega
  simp only [parseItem, holesAt, atS16, at16, ItemData.bytes, Holes.bytes, sBytes16, byte1_eq, beBytes_two,
    List.cons_append, List.nil_append, Nat.zero_add, Nat.reduceAdd, at8_zero, at8_succ]
  rw [byteField hmode, clinchModeOf_code]
  simp only [byteField (show d.key.owner < 256 by omega), twoByteField (show d.key.step < 65536 by omega),
    byteField (show d.image < 256 by omega), signedField hax, signedField hay, signedField hbx, signedField hby,
    byteField (show d.part < 256 by omega), byteField (show d.span < 256 by omega), Holes.inRange, hax, hay, hbx, hby, hown,
    hpart, hstep, himage, hspan, decide_true, Bool.and_self, if_true]

theorem parseEntryState_bytes {st : EntryState} (h : st.wf = true) :
    parseEntryState (at8 st.bytes 0) (at8 st.bytes 1) = some st := by
  have field {n : Nat} (hn : within 1 n 15 = true) : (BitVec.ofNat 8 n).toNat = n :=
    byteField (by have := (within_iff _ _ _).mp hn; omega)
  cases st with
  | opened => rfl
  | claimed n =>
    change (if within 1 (BitVec.ofNat 8 n).toNat 15 then some (EntryState.claimed (BitVec.ofNat 8 n).toNat) else none) = _
    rw [field h, if_pos (show within 1 n 15 = true from h)]
  | madeUp n =>
    change (if within 1 (BitVec.ofNat 8 n).toNat 15 then some (EntryState.madeUp (BitVec.ofNat 8 n).toNat) else none) = _
    rw [field h, if_pos (show within 1 n 15 = true from h)]

theorem maskField (m : BitVec 8) : BitVec.ofNat 8 (BitVec.ofNat 8 m.toNat).toNat = m := by
  rw [BitVec.ofNat_toNat, BitVec.setWidth_eq, BitVec.ofNat_toNat, BitVec.setWidth_eq]

/-- The payload of a content in range gives the content back (R148, R194). -/
theorem parsePayload_payload {f : Frame} (h : f.wf = true) : parsePayload f.kind f.payload = some f := by
  cases f with
  | withdraw serial =>
    simp only [Frame.wf, serialWf, Bool.and_eq_true, decide_eq_true_eq] at h
    simp only [Frame.kind, parsePayload, Frame.payload, at32, at16, beBytes_four, Nat.zero_add, Nat.reduceAdd, at8_zero,
      at8_succ, fourByteField h.2, if_neg (show serial ≠ 0 by omega)]
  | claim k image =>
    simp only [Frame.wf, serialWf, Bool.and_eq_true, decide_eq_true_eq, within_iff] at h
    obtain ⟨⟨⟨⟨h1, hserial⟩, ho1, ho15⟩, hstep⟩, himage⟩ := h
    have hown : within 1 k.owner 15 = true := (within_iff _ _ _).mpr ⟨ho1, ho15⟩
    simp only [Frame.kind, parsePayload, Frame.payload, at32, at16, byte1_eq, beBytes_two, beBytes_four, List.cons_append,
      List.nil_append, Nat.zero_add, Nat.reduceAdd, at8_zero, at8_succ, fourByteField hserial,
      byteField (show k.owner < 256 by omega), twoByteField (show k.step < 65536 by omega),
      byteField (show image < 256 by omega), hown, hstep, himage, decide_true, Bool.and_true,
      if_pos (show (k.serial != 0) = true by simp; omega)]
  | owe d =>
    simp only [Frame.wf, serialWf, Bool.and_eq_true, decide_eq_true_eq] at h
    obtain ⟨⟨h1, hserial⟩, hd⟩ := h
    have hitem : parseItem (beBytes 4 d.key.serial ++ d.bytes) d.key.serial 4 = some d := by
      have hshift := parseItem_append (beBytes 4 d.key.serial) (d.bytes ++ []) d.key.serial
      rw [parseItem_bytes hd, List.append_nil] at hshift
      exact hshift
    have hread : at32 (beBytes 4 d.key.serial ++ d.bytes) 0 = d.key.serial := fourByteField hserial
    simp only [Frame.kind, parsePayload, Frame.payload, hread, hitem, if_neg (show d.key.serial ≠ 0 by omega), Option.map_some]
  | announce serial programId position mask =>
    simp only [Frame.wf, serialWf, Bool.and_eq_true, decide_eq_true_eq, within_iff] at h
    obtain ⟨⟨⟨h1, hserial⟩, hp1, hp⟩, hpos⟩ := h
    simp only [Frame.kind, parsePayload, Frame.payload, at32, at16, byte1_eq, beBytes_two, beBytes_four, List.cons_append,
      List.nil_append, Nat.zero_add, Nat.reduceAdd, at8_zero, at8_succ, fourByteField hserial,
      twoByteField (show programId < 65536 by omega), byteField (show position < 256 by omega), maskField, hpos,
      show (serial != 0) = true by simp; omega, show (programId != 0) = true by simp; omega, decide_true, Bool.and_self,
      if_true]
  | passportHead h' =>
    simp only [Frame.wf, serialWf, Bool.and_eq_true, decide_eq_true_eq, Bool.not_eq_true'] at h
    obtain ⟨⟨⟨⟨-, hserial⟩, hprogram⟩, hcount⟩, hskipped⟩ := h
    simp only [Frame.kind, parsePayload, Frame.payload, at32, at16, byte1_eq, beBytes_two, beBytes_four, List.cons_append,
      List.nil_append, Nat.zero_add, Nat.reduceAdd, at8_zero, at8_succ, fourByteField hserial,
      twoByteField (show h'.programId < 65536 by omega), byteField (show h'.count < 256 by omega), maskField, flagsField,
      twoByteField h'.skipped.isLt, skippedField hskipped, if_pos hcount]
  | passportEntry index e =>
    simp only [Frame.wf, serialWf, Bool.and_eq_true, decide_eq_true_eq] at h
    obtain ⟨⟨⟨⟨-, hserial⟩, hindex⟩, hitem⟩, hstate⟩ := h
    let pre := beBytes 4 e.item.key.serial ++ byte1 index
    have hpayload : (Frame.passportEntry index e).payload = pre ++ (e.item.bytes ++ e.state.bytes) :=
      List.append_assoc _ _ _
    have hread : at32 (pre ++ (e.item.bytes ++ e.state.bytes)) 0 = e.item.key.serial := fourByteField hserial
    have hnumber : at8 (pre ++ (e.item.bytes ++ e.state.bytes)) 4 = index := byteField (by omega)
    have hparsed : parseItem (pre ++ (e.item.bytes ++ e.state.bytes)) e.item.key.serial 5 = some e.item :=
      (parseItem_append pre _ _).trans (parseItem_bytes hitem _)
    have hcode : at8 (pre ++ (e.item.bytes ++ e.state.bytes)) 20 = at8 e.state.bytes 0 := by
      rw [← List.append_assoc]
      exact at8_append (pre ++ e.item.bytes) e.state.bytes 0
    have hstation : at8 (pre ++ (e.item.bytes ++ e.state.bytes)) 21 = at8 e.state.bytes 1 := by
      rw [← List.append_assoc]
      exact at8_append (pre ++ e.item.bytes) e.state.bytes 1
    simp only [Frame.kind, parsePayload, hpayload, hnumber, if_pos hindex, hread, hparsed, hcode, hstation,
      parseEntryState_bytes hstate]
  | status c =>
    simp only [Frame.wf, serialWf, Bool.and_eq_true, decide_eq_true_eq] at h
    have hrun : c.run.code < 256 := by cases c.run <;> decide
    have hbits : ∀ a b : Bool, let n := (BitVec.ofNat 8 ((if a then 1 else 0) + (if b then 2 else 0))).toNat
        n.testBit 0 = a ∧ n.testBit 1 = b := by decide
    obtain ⟨hholding, halarm⟩ := hbits c.holding c.alarm
    simp only [Frame.kind, parsePayload, Frame.payload, at32, at16, byte1_eq, beBytes_four, List.cons_append,
      List.nil_append, Nat.reduceAdd, at8_zero, at8_succ, byteField hrun, runStateOf_code,
      fourByteField h.2, hholding, halarm]

theorem Frame.payload_length (f : Frame) : f.payload.length = f.kind.payloadLength := by
  have hitem (d : ItemData) : d.bytes.length = 15 := rfl
  have hstate (st : EntryState) : st.bytes.length = 2 := by cases st <;> rfl
  cases f with
  | withdraw | claim | owe | announce | passportHead | status => rfl
  | passportEntry index e => rw [Frame.payload, List.length_append, hstate]; rfl

theorem Frame.toWire_length (f : Frame) (n : Nat) : (f.toWire n).length.toNat = f.kind.payloadLength := by
  have hlt : f.kind.payloadLength < 256 := by cases f.kind <;> decide
  change (BitVec.ofNat 8 f.payload.length).toNat = _
  rw [f.payload_length, byteField hlt]

theorem Frame.toWire_wf (f : Frame) (n : Nat) : (f.toWire n).wf = true := by
  have hle : f.kind.payloadLength ≤ 32 := by cases f.kind <;> decide
  have hpayload : (f.toWire n).payload.length = f.kind.payloadLength := f.payload_length
  rw [HeardFrame.wf, f.toWire_length, hpayload]
  simp [hle]

/-- A frame formed from a content in range passes the checks of R148. -/
theorem parseHeard_toWire {f : Frame} {n : Nat} (hf : f.wf = true) (h1 : 1 ≤ n) (h15 : n ≤ 15) :
    parseHeard f.kind (f.toWire n) = some (n, f) := by
  have hsender : (BitVec.ofNat 4 n).toNat = n := by rw [BitVec.toNat_ofNat]; omega
  have hne : ((f.toWire n).sender != 0) = true := by
    refine bne_iff_ne.mpr fun hz => ?_
    have : (BitVec.ofNat 4 n).toNat = 0 := congrArg BitVec.toNat hz
    omega
  have hpayload : (f.toWire n).payload.length = f.kind.payloadLength := f.payload_length
  have hcrc : (f.toWire n).crc = frameCrc f.kind (f.toWire n) := by simp only [Frame.toWire, makeFrame, frameCrc]
  have hcls : (f.toWire n).cls = f.kind.normal := rfl
  have hcond : ((f.toWire n).crc == frameCrc f.kind (f.toWire n) && (f.toWire n).cls == f.kind.normal &&
      (f.toWire n).sender != 0 && (f.toWire n).length.toNat == f.kind.payloadLength &&
      (f.toWire n).payload.length == f.kind.payloadLength) = true := by
    rw [← hcrc, hcls, f.toWire_length, hpayload]
    simp only [beq_self_eq_true, hne, Bool.and_self]
  rw [parseHeard, if_pos hcond]
  change (parsePayload f.kind f.payload).map (fun c => ((BitVec.ofNat 4 n).toNat, c)) = _
  rw [parsePayload_payload hf, hsender]
  rfl

/-- Settles O59: the stuffing taken out again, and every field read back. -/
theorem theWireCarriesEveryFrame : Obligations.TheWireCarriesEveryFrame :=
  ⟨fun k _ hf => decodeWire_encodeWire k hf, fun f n hf h1 h15 =>
    ⟨f.toWire_wf n, parseHeard_toWire hf h1 h15, decodeWire_encodeWire f.kind (f.toWire_wf n)⟩⟩

end Machine
end Sys2Proof
end

section
/-! PROOF. O58: the frames heard (R131, R139, R148 to R158). -/

namespace Sys2Proof.Machine

section
variable {s : State} {c : Setup} {n : Nat}

/-! ### A frame heard -/

/-- The roster entry of a sender after a frame (R150). -/
def RosterEntry.heard (c : Setup) (f : Frame) (e : RosterEntry) : RosterEntry :=
  { present := true, silence := some (ms c.silence)
    last := match f.statusOf with
      | some x => some x
      | none => e.last }

/-- The state in which a frame of another station is acted on: its sender marked (R149, R150). -/
def markedBy (s : State) (c : Setup) (n : Nat) (f : Frame) : State :=
  s.setLine { s.line with roster := s.line.roster.modify (n - 1) (RosterEntry.heard c f) }

theorem cfg_of_setup (hc : s.console.setup = some c) : cfg s = c := by simp only [cfg, hc, Option.getD_some]

theorem setupDone_of_setup (hc : s.console.setup = some c) : setupDone s = true := by simp only [setupDone, hc, Option.isSome_some]

theorem ownNumber_of_ne (hc : s.console.setup = some c) (hn : n ≠ c.station) : ownNumber s n = false := by
  simp [ownNumber, cfg_of_setup hc, hn]

theorem ownNumber_of_own (hc : s.console.setup = some c) : ownNumber s c.station = true := by
  simp [ownNumber, cfg_of_setup hc, setupDone_of_setup hc]

/-- A valid frame of another station is acted on at a configured station (R148, R150). -/
theorem hear_of_other (hc : s.console.setup = some c) (h1 : 1 ≤ n) (h15 : n ≤ 15) (hn : n ≠ c.station) {f : Frame}
    (hf : f.wf = true) (act : State → Nat → Frame → State) :
    hear s f.kind (f.toWire n) act = finish false s (act (markedBy s c n f) n f) := by
  have hmark : markSender s n f = markedBy s c n f := by
    simp only [markSender, ownNumber_of_ne hc hn, Bool.false_eq_true, if_false, setupDone_of_setup hc, if_true,
      cfg_of_setup hc, modRoster, if_neg (show n ≠ 0 by omega)]
    rfl
  have hdup : checkDuplicate (markedBy s c n f) n = markedBy s c n f := by
    rw [checkDuplicate, ownNumber_of_ne (s := markedBy s c n f) hc hn]
    rfl
  simp only [hear, parseHeard_toWire hf h1 h15, hmark, hdup, setupDone_of_setup hc, if_true]

/-- A frame with this station's own number (R149). -/
theorem hear_of_own (hc : s.console.setup = some c) (h1 : 1 ≤ c.station) (h15 : c.station ≤ 15) {f : Frame}
    (hf : f.wf = true) : hear s f.kind (f.toWire c.station) (fun s _ _ => s) =
      finish false s (if s.jam.alarms.any fun e => e.cls == .duplicateStation then s
                      else stopAlarm s .duplicateStation .none) := by
  have hmark : markSender s c.station f = s := by rw [markSender, if_pos (ownNumber_of_own hc)]
  simp only [hear, parseHeard_toWire hf h1 h15, hmark, setupDone_of_setup hc, if_true, checkDuplicate, ownNumber_of_own hc,
    Bool.true_and]
  cases s.jam.alarms.any fun e => e.cls == .duplicateStation <;> rfl

theorem exec_frameCommand_of_dropped {k : FrameKind} {f : HeardFrame} (h : parseHeard k f = none) :
    exec (frameCommand k f) s = .next (dropFrame s) := by
  have hear_drop (act : State → Nat → Frame → State) : hear s k f act = dropFrame s := by simp only [hear, h]
  cases k <;> exact congrArg Host.Outcome.next (hear_drop _)

theorem stopAlarm_roster (s : State) (hc : AlarmClass.duplicateStation ≠ .chainStall) :
    (stopAlarm s .duplicateStation .none).line.roster = s.line.roster := by
  rw [stopAlarm_eq s .none hc, (OnHead.haltShaft _ _).line, (OnMotion.haltTable _ _).line, (raiseStop_onAlarm s _ _).line]

theorem rosterAt_modified (hlen : s.line.roster.length = 15) (h1 : 1 ≤ n) (h15 : n ≤ 15) (f : Frame) {t : State}
    (ht : t.line.roster = s.line.roster.modify (n - 1) (RosterEntry.heard c f)) : (rosterAt t n).present = true := by
  have hlt : n - 1 < s.line.roster.length := by omega
  rw [rosterAt, if_neg (by omega), ht, List.getD_eq_getElem?_getD, List.getElem?_modify, List.getElem?_eq_getElem hlt]
  simp [RosterEntry.heard]

/-! ### WITHDRAW (R139) -/

theorem ctxAt_modCtx_none {i : Nat} (h : ctxAt s i = none) (j : Nat) (f : Context → Context) :
    ctxAt (modCtx s j f) i = none := by
  rw [ctxAt_modCtx, h]
  split <;> rfl

theorem ctxAt_removeAt_none {i : Nat} (h : ctxAt s i = none) (o : Option Nat) : ctxAt (removeAt s o) i = none := by
  cases o with
  | none => exact h
  | some j =>
    change ctxAt (removeCtx s j) i = none
    rw [ctxAt_removeCtx]
    split
    · rfl
    · exact h

theorem removeAt_roster (s : State) (o : Option Nat) : (removeAt s o).line = s.line := by cases o <;> rfl

theorem queueAnnounce_roster (s : State) (n p q : Nat) (m : BitVec 8) :
    (queueAnnounce s n p q m).line.roster = s.line.roster := by
  unfold queueAnnounce
  dsimp only
  (repeat' split) <;> rfl

theorem reportResult_keeps (s : State) : (reportResult s).boards = s.boards ∧ (reportResult s).line = s.line := by
  unfold reportResult
  (repeat' split) <;> exact ⟨rfl, rfl⟩

theorem announceCtx_keeps (s : State) (slot : Nat) :
    (announceCtx s slot).boards = s.boards ∧ (announceCtx s slot).line.roster = s.line.roster := by
  unfold announceCtx
  split
  · split
    · exact ⟨queueAnnounce_boards .., queueAnnounce_roster ..⟩
    · exact ⟨rfl, rfl⟩
  · exact ⟨rfl, rfl⟩

theorem stopAtTransferEnd_line (s : State) : (stopAtTransferEnd s).line = s.line := by
  unfold stopAtTransferEnd; split <;> rfl

/-- The completion of a transfer fills no empty slot (R128). -/
theorem completeTransfer_none {i : Nat} (h : ctxAt s i = none) :
    ctxAt (completeTransfer s) i = none ∧ (completeTransfer s).line.roster = s.line.roster := by
  obtain ⟨hboards, hline⟩ := reportResult_keeps s
  let u := removeAt (reportResult s) (departingSlot s)
  have hu : ctxAt u i = none := ctxAt_removeAt_none (by rw [ctxAt_congr (congrArg Boards.slots hboards), h]) _
  have huline : u.line = s.line := (removeAt_roster _ _).trans hline
  have hcurrent : ctxAt (becomeCurrent u) i = none ∧ (becomeCurrent u).line.roster = u.line.roster := by
    unfold becomeCurrent
    split
    · exact ⟨hu, rfl⟩
    · rename_i slot _
      obtain ⟨hb, hl⟩ := announceCtx_keeps (modCtx u slot fun c => { c with state := .current, position := (cfg u).station }) slot
      refine ⟨?_, hl⟩
      rw [ctxAt_congr (congrArg Boards.slots hb)]
      exact ctxAt_modCtx_none hu _ _
  obtain ⟨hctx, hroster⟩ := hcurrent
  have hcomplete : completeTransfer s =
      stopAtTransferEnd ((becomeCurrent u).setBoards { (becomeCurrent u).boards with transfer := none }) := rfl
  rw [hcomplete, stopAtTransferEnd_line, ctxAt_congr (congrArg Boards.slots (stopAtTransferEnd_spec _).2.1)]
  exact ⟨hctx, hroster.trans (congrArg Line.roster huline)⟩

theorem tryComplete_none {i : Nat} (h : ctxAt s i = none) :
    ctxAt (tryComplete s) i = none ∧ (tryComplete s).line.roster = s.line.roster := by
  unfold tryComplete
  split
  · split
    · exact completeTransfer_none h
    · exact ⟨h, rfl⟩
  · exact ⟨h, rfl⟩

/-- A WITHDRAW heard empties the slot of its serial (R139). -/
theorem hearWithdraw_of_held {serial slot : Nat} (hs : slotOfSerial s serial = some slot) :
    ctxAt (hearWithdraw s serial) slot = none ∧ (hearWithdraw s serial).line.roster = s.line.roster := by
  obtain ⟨d, hd, -⟩ := slotOf_some hs
  have hgone : ctxAt (removeCtx s slot) slot = none := by rw [ctxAt_removeCtx, if_pos ⟨rfl, ctxAt_lt hd⟩]
  have hclear (held : Bool) : ctxAt (if held then clearPassIn (removeCtx s slot) else removeCtx s slot) slot = none ∧
      (if held then clearPassIn (removeCtx s slot) else removeCtx s slot).line.roster = s.line.roster := by
    cases held <;> exact ⟨hgone, rfl⟩
  unfold hearWithdraw
  rw [hs]
  obtain ⟨hctx, hroster⟩ := tryComplete_none (hclear _).1
  exact ⟨hctx, hroster.trans (hclear _).2⟩

theorem hearWithdraw_of_none {serial : Nat} (hs : slotOfSerial s serial = none) (hp : s.boards.passIn = none)
    (hx : s.boards.transfer = none) : hearWithdraw s serial = s := by
  simp only [hearWithdraw, hs, removeAt, hp, Bool.false_eq_true, if_false]
  exact tryComplete_of_none hx

/-! ### CLAIM and OWE (R155 to R158) -/

theorem hearClaim_of_unclaimed {k : ItemKey} {slot : Nat} {x : Context} (hs : slotOfSerial s k.serial = some slot)
    (hx : ctxAt s slot = some x) (ha : x.adoptedFor k = none) (sender : Nat) :
    hearClaim s sender k = setSlot s slot (some (x.recordClaim k sender)) := by
  have hown : x.claims k = false := by simp only [Context.claims, ha]
  simp only [hearClaim, hs, hx, hown, Bool.false_and, Bool.false_eq_true, if_false]
  exact modCtx_eq_setSlot hx _

/-- A context with an item's entry appended as OPEN (R155). -/
def Context.withOpen (x : Context) (d : ItemData) : Context :=
  { x with upstream := x.upstream ++ [{ item := d, state := .opened }] }

theorem recordOwe_of_new {x : Context} {d : ItemData} {station : Nat} (he : x.entryState d.key = none)
    (ho : d.key.owner < station) (hroom : x.entryCount < 32) (sender : Nat) :
    x.recordOwe station sender d = x.withOpen d := by
  simp only [Context.recordOwe, he, if_pos ho, if_pos (show x.entryCount < Config.entriesMax from hroom)]
  rfl

theorem key_of_entryState_none {x : Context} {k : ItemKey} (h : x.entryState k = none) :
    ∀ e ∈ x.entries, (e.item.key == k) = false := by
  rw [Context.entryState, Option.map_eq_none_iff, List.find?_eq_none] at h
  exact fun e he => by simpa using h e he

/-- An appended entry is the only one of its key, so that a change of its state changes it alone. -/
theorem setEntry_withOpen {x : Context} {d : ItemData} (h : x.entryState d.key = none) (st : EntryState)
    (l : List Adopted) : Context.setEntry { x.withOpen d with adopted := l } d.key st =
      { x with upstream := x.upstream ++ [{ item := d, state := st }], adopted := l } := by
  have hkeys := key_of_entryState_none h
  have hmap (f : Entry → Entry) (hf : ∀ e, (e.item.key == d.key) = false → f e = e) (q : List Entry)
      (hq : ∀ e ∈ q, e ∈ x.entries) : q.map f = q :=
    (List.map_congr_left fun e he => hf e (hkeys e (hq e he))).trans (List.map_id _)
  simp only [Context.setEntry, Context.withOpen, List.map_append, List.map_cons, List.map_nil, beq_self_eq_true, if_true]
  rw [hmap _ (fun e he => by simp [he]) x.upstream fun e he => List.mem_append_left _ he,
    hmap _ (fun e he => by simp [he]) x.ownRun fun e he => List.mem_append_right _ he]

theorem entryState_withOpen {x : Context} {d : ItemData} (h : x.entryState d.key = none) :
    (x.withOpen d).entryState d.key = some .opened := by
  have hkeys := key_of_entryState_none h
  have hup : x.upstream.find? (fun e => e.item.key == d.key) = none :=
    List.find?_eq_none.mpr fun e he => by simp [hkeys e (List.mem_append_left _ he)]
  simp only [Context.entryState, Context.entries, Context.withOpen, List.append_assoc, List.find?_append, hup]
  simp

/-- An OWE for a board held here, before the claim test (R155). -/
theorem hearOwe_of_held {d : ItemData} {slot : Nat} {x : Context} (hs : slotOfSerial s d.key.serial = some slot)
    (hx : ctxAt s slot = some x) (he : x.entryState d.key = none) (ho : d.key.owner < (cfg s).station)
    (hroom : x.entryCount < 32) (sender : Nat) : hearOwe s sender d =
      if claimTest (setSlot s slot (some (x.withOpen d))) sender (x.withOpen d) d then
        claim (setSlot s slot (some (x.withOpen d))) slot d
      else setSlot s slot (some (x.withOpen d)) := by
  have hmod : modCtx s slot (fun c => c.recordOwe (cfg s).station sender d) = setSlot s slot (some (x.withOpen d)) := by
    rw [modCtx_eq_setSlot hx, recordOwe_of_new he ho hroom]
  have hat : ctxAt (setSlot s slot (some (x.withOpen d))) slot = some (x.withOpen d) := ctxAt_setSlot_self hx _
  simp only [hearOwe, hs, hmod, hat]

/-- The claim of an item whose entry was just appended (R157). -/
theorem claim_withOpen {d : ItemData} {slot : Nat} {x : Context} (hx : ctxAt s slot = some x)
    (he : x.entryState d.key = none) : claim (setSlot s slot (some (x.withOpen d))) slot d =
      joinUrgent (setSlot s slot (some { x with
        upstream := x.upstream ++ [{ item := d, state := .claimed (cfg s).station }]
        adopted := x.adopted ++ [{ item := d, retries := 0, state := .pending }] })) (.claim d.key d.image) := by
  have hat : ctxAt (setSlot s slot (some (x.withOpen d))) slot = some (x.withOpen d) := ctxAt_setSlot_self hx _
  rw [claim, modCtx_eq_setSlot hat, setSlot_setSlot]
  exact congrArg (fun y => joinUrgent (setSlot s slot (some y)) (.claim d.key d.image))
    (setEntry_withOpen he (.claimed (cfg s).station) _)

/-! ### ANNOUNCE (R152, R153) -/

/-- An ANNOUNCE of a board not held, in the window, with no context EXPECTED and no bank READY (R152). -/
theorem hearAnnounce_of_new {serial programId p slot : Nat} (mask : BitVec 8) (hh : headOfLine s = false)
    (hs : slotOfSerial s serial = none) (hlow : (cfg s).station ≤ p + 4) (hhigh : p < (cfg s).station)
    (hempty : emptySlot s = some slot) (hexp : ∀ i y, ctxAt s i = some y → y.state ≠ .expected)
    (hbank : lookupBank s programId = none) : hearAnnounce s serial programId p mask =
      setSlot s slot (some { Context.created serial (some programId) p mask with noProgram := true }) := by
  have hstale : removeStale s serial p = s := by
    unfold removeStale
    rw [slotOf_eq_none fun i y hy => by simp [hexp i y hy]]
    rfl
  have hcreate := createCtx_of_none (emptySlot_lt hempty) hbank serial p mask
  have hwindow : inWindow s p = true := by simp [inWindow, hlow, hhigh]
  simp only [hearAnnounce, hh, Bool.false_eq_true, if_false, hs, hwindow, if_true, announceCreate, hstale, hempty, hcreate]
  refine closeAllAhead_of_none_entered fun i y hy he => ?_
  rw [ctxAt_setSlot] at hy
  split at hy
  · cases hy
    rfl
  · exact absurd he (hexp i y hy)

/-! ### Passport frames (R131) -/

theorem tryPair_of_not_awaited (h : awaitedSlot s = none) : tryPair s = s := by
  unfold tryPair
  split
  case h_1 hslot => rw [h] at hslot; cases hslot
  case h_2 => rfl

theorem passportFrom_of_neighbour (hh : headOfLine s = false) (hn : n + 1 = (cfg s).station) :
    passportFrom s n = true := by simp [passportFrom, hh, hn]

theorem takeHead_of_neighbour {h : PassHead} (hh : headOfLine s = false) (hn : n + 1 = (cfg s).station)
    (hp : alreadyPaired s h.serial = false) (ha : awaitedSlot s = none) :
    takeHead s n h = s.setBoards { s.boards with passIn := some (PassIn.ofHead h) } := by
  rw [takeHead, if_pos (by rw [passportFrom_of_neighbour hh hn, hp]; rfl)]
  exact tryPair_of_not_awaited (s := s.setBoards { s.boards with passIn := some (PassIn.ofHead h) }) ha

theorem takeEntry_of_neighbour {b : PassIn} {index : Nat} {e : Entry} (hh : headOfLine s = false)
    (hn : n + 1 = (cfg s).station) (hb : s.boards.passIn = some b) (hk : e.item.key.serial = b.head.serial)
    (hi : index < b.head.count) (hfree : b.entries.getD index none = none) (ha : awaitedSlot s = none) :
    takeEntry s n index e = s.setBoards { s.boards with passIn := some { b with entries := b.entries.set index (some e) } } := by
  have hcond : (passportFrom s n && e.item.key.serial == b.head.serial && decide (index < b.head.count) &&
      (b.entries.getD index none).isNone) = true := by
    rw [passportFrom_of_neighbour hh hn, hk, hfree]
    simp [hi]
  simp only [takeEntry, hb]
  rw [if_pos hcond]
  exact tryPair_of_not_awaited
    (s := s.setBoards { s.boards with passIn := some { b with entries := b.entries.set index (some e) } }) ha

end

/-- Settles O58: the sender marked, then each frame by its kind. -/
theorem framesHeardAreActedOn : Obligations.FramesHeardAreActedOn := by
  refine ⟨fun s c x hc h1 h15 hf => ⟨fun hroom hno hrun => ?duplicate, fun hheld => ?again⟩,
    fun s c n hc h1 h15 hn hlen => ⟨fun k f h => exec_frameCommand_of_dropped h, fun x hf => ?status,
      fun serial slot hf hs => ?withdraw, fun serial hf hs hp hx => ?unheld, fun k image slot x hf hs hx ha => ?claim,
      fun d slot x hf hs hx he ho hroom hrun => ?owe,
      fun d slot x p hf hs hx he ho hroom hrun hnc hst hpc had hal hpart hpose hu => ?claimed,
      fun serial programId p mask slot hf hh hs hlow hhigh hempty hexp hbank => ?announce,
      fun h hf hh hnc hp ha => ?head, fun index e b hf hh hnc hb hk hi hfree ha => ?entry⟩⟩
  case duplicate =>
    have hnone : (s.jam.alarms.any fun e => e.cls == .duplicateStation) = false := by
      rw [List.any_eq_false]
      intro e he
      simpa using hno e he
    have hexec : exec (.statusFrame ((Frame.status x).toWire c.station)) s =
        .next (finish false s (stopAlarm s .duplicateStation .none)) :=
      congrArg Host.Outcome.next ((hear_of_own hc h1 h15 hf).trans (by rw [hnone]; rfl))
    refine ⟨_, hexec, finish_stopAlarm_haltedBy .none false s rfl hroom hrun rfl rfl, ?_⟩
    exact (congrArg Work.roster (finish_work false s _)).trans (stopAlarm_roster s (by decide))
  case again =>
    have hany : (s.jam.alarms.any fun e => e.cls == .duplicateStation) = true := by
      obtain ⟨e, he, hcls⟩ := hheld
      exact List.any_eq_true.mpr ⟨e, he, by simp [hcls]⟩
    have hexec : exec (.statusFrame ((Frame.status x).toWire c.station)) s = .next (finish false s s) :=
      congrArg Host.Outcome.next ((hear_of_own hc h1 h15 hf).trans (by rw [hany]; rfl))
    exact ⟨_, hexec, finish_work false s s⟩
  all_goals have hear := fun (f : Frame) (hf : f.wf = true) => hear_of_other hc h1 h15 hn hf
  case status =>
    refine ⟨_, congrArg Host.Outcome.next (hear _ hf _), ?_⟩
    rw [finish_work]
    rfl
  case withdraw =>
    let u := markedBy s c n (.withdraw serial)
    obtain ⟨hgone, hroster⟩ := hearWithdraw_of_held (s := u) hs
    refine ⟨_, congrArg Host.Outcome.next (hear _ hf _), finish_ctxAt_none _ _ hgone, ?_⟩
    exact rosterAt_modified hlen h1 h15 (.withdraw serial)
      ((congrArg Work.roster (finish_work false s (hearWithdraw u serial))).trans hroster)
  case unheld =>
    let u := markedBy s c n (.withdraw serial)
    have hsame : hearWithdraw u serial = u := hearWithdraw_of_none (s := u) hs hp hx
    have hexec : exec (.withdrawFrame ((Frame.withdraw serial).toWire n)) s = .next (finish false s (hearWithdraw u serial)) :=
      congrArg Host.Outcome.next (hear _ hf _)
    refine ⟨_, hexec, ?_⟩
    rw [finish_work, hsame]
    rfl
  case claim =>
    let u := markedBy s c n (.claim k image)
    have hsame : hearClaim u n k = setSlot u slot (some (x.recordClaim k n)) := hearClaim_of_unclaimed (s := u) hs hx ha n
    have hexec : exec (.claimFrame ((Frame.claim k image).toWire n)) s = .next (finish false s (hearClaim u n k)) :=
      congrArg Host.Outcome.next (hear _ hf _)
    refine ⟨_, hexec, ?_⟩
    rw [finish_work, hsame]
    rfl
  case owe =>
    let u := markedBy s c n (.owe d)
    have hcfg : (cfg u).station = c.station := congrArg Setup.station (cfg_of_setup (s := u) hc)
    have hrunning : (s.jam.run == .running) = false := by simpa using hrun
    have hsame : hearOwe u n d = setSlot u slot (some (x.withOpen d)) := by
      rw [hearOwe_of_held (s := u) hs hx he (hcfg ▸ ho) hroom]
      have hnot : claimTest (setSlot u slot (some (x.withOpen d))) n (x.withOpen d) d = false := by
        have hrun' : ((setSlot u slot (some (x.withOpen d))).jam.run == .running) = false := hrunning
        simp only [claimTest, claimAllowed, hrun', Bool.false_and, Bool.and_false]
      rw [hnot]
      rfl
    have hexec : exec (.oweFrame ((Frame.owe d).toWire n)) s = .next (finish false s (hearOwe u n d)) :=
      congrArg Host.Outcome.next (hear _ hf _)
    refine ⟨_, hexec, ?_⟩
    rw [finish_work, hsame]
    rfl
  case claimed =>
    let u := markedBy s c n (.owe d)
    have hcfg : (cfg u).station = c.station := congrArg Setup.station (cfg_of_setup (s := u) hc)
    let v := setSlot u slot (some (x.withOpen d))
    have htest : claimTest v n (x.withOpen d) d = true := by
      have hstation : (cfg v).station = c.station := hcfg
      have hstate : ((x.withOpen d).state == .expected || (x.withOpen d).state == .current) = true := by
        change (x.state == .expected || x.state == .current) = true
        rcases hst with h | h <;> rw [h] <;> rfl
      have hrun' : (v.jam.run == .running) = true := by
        change (s.jam.run == .running) = true
        rw [hrun]
        rfl
      have hclosed : (x.withOpen d).planClosed = false := hpc
      have hadopted : (x.withOpen d).adoptedFor d.key = none := had
      have hlength : (x.withOpen d).adopted.length < Config.adoptedMax := hal
      have hpart' : partAvailable v d.part = true := hpart
      have hpose' : poseOf v (x.withOpen d) d = .pose p := hpose
      have hurgent : urgentRoom v = true := decide_eq_true hu
      simp only [claimTest, claimAllowed, hstation, hnc, hstate, entryState_withOpen he, hrun', hclosed, hadopted, hlength,
        hpart', hpose', hurgent, decide_true, Bool.not_false, Option.isNone_none, Bool.and_self]
    have hsame : hearOwe u n d = joinUrgent (setSlot u slot (some { x with
        upstream := x.upstream ++ [{ item := d, state := .claimed (cfg u).station }]
        adopted := x.adopted ++ [{ item := d, retries := 0, state := .pending }] })) (.claim d.key d.image) := by
      rw [hearOwe_of_held (s := u) hs hx he (hcfg ▸ ho) hroom, if_pos htest, claim_withOpen (s := u) hx he]
    have hexec : exec (.oweFrame ((Frame.owe d).toWire n)) s = .next (finish false s (hearOwe u n d)) :=
      congrArg Host.Outcome.next (hear _ hf _)
    have hjoined : (if s.line.urgent.length < Config.urgentMax then s.line.urgent ++ [Frame.claim d.key d.image]
        else s.line.urgent) = s.line.urgent ++ [.claim d.key d.image] := if_pos hu
    refine ⟨_, hexec, ?_⟩
    rw [finish_work, hsame, hcfg, ← hjoined]
    rfl
  case announce =>
    let u := markedBy s c n (.announce serial programId p mask)
    have hcfg : (cfg u).station = c.station := congrArg Setup.station (cfg_of_setup (s := u) hc)
    have hsame := hearAnnounce_of_new (s := u) mask hh hs (hcfg ▸ hlow) (hcfg ▸ hhigh) hempty hexp hbank
    have hexec : exec (.announceFrame ((Frame.announce serial programId p mask).toWire n)) s =
        .next (finish false s (hearAnnounce u serial programId p mask)) := congrArg Host.Outcome.next (hear _ hf _)
    refine ⟨_, hexec, ?_⟩
    rw [finish_work, hsame]
    rfl
  case head =>
    let u := markedBy s c n (.passportHead h)
    have hcfg : (cfg u).station = c.station := congrArg Setup.station (cfg_of_setup (s := u) hc)
    have hsame := takeHead_of_neighbour (s := u) (h := h) hh (hcfg ▸ hnc) hp ha
    have hexec : exec (.passportHead ((Frame.passportHead h).toWire n)) s = .next (finish false s (takeHead u n h)) :=
      congrArg Host.Outcome.next (hear _ hf _)
    refine ⟨_, hexec, ?_⟩
    rw [finish_work, hsame]
    rfl
  case entry =>
    let u := markedBy s c n (.passportEntry index e)
    have hcfg : (cfg u).station = c.station := congrArg Setup.station (cfg_of_setup (s := u) hc)
    have hsame := takeEntry_of_neighbour (s := u) (e := e) hh (hcfg ▸ hnc) hb hk hi hfree ha
    have hexec : exec (.passportEntry ((Frame.passportEntry index e).toWire n)) s = .next (finish false s (takeEntry u n index e)) :=
      congrArg Host.Outcome.next (hear _ hf _)
    refine ⟨_, hexec, ?_⟩
    rw [finish_work, hsame]
    rfl

end Sys2Proof.Machine
end

section
/-! SUPPORT. What a context keeps as it goes on with its board (R119, R121, R124): `Onward` is the relation that every
operation inside a command but three has between a context before and after; it composes, and it gives `Context.Keeps`. -/

namespace Sys2Proof.Machine

/-! ### Own items, adopted items and passport entries -/

/-- The own items INSERTED are the same. -/
def OwnsOnward (l l' : List OwnItem) : Prop :=
  ∀ i : Nat, (l'[i]?).map OwnItem.state = some .inserted ↔ (l[i]?).map OwnItem.state = some .inserted

/-- The first adopted entry for a key. -/
def findAdopted (l : List Adopted) (k : ItemKey) : Option Adopted := l.find? fun a => a.item.key == k

/-- Adopted entries INSERTED stay INSERTED, and none becomes so. -/
structure AdoptedOnward (l l' : List Adopted) : Prop where
  kept : ∀ k, (findAdopted l k).map (·.state) = some .inserted → (findAdopted l' k).map (·.state) = some .inserted
  none : (∀ a ∈ l, a.state ≠ .inserted) → ∀ a ∈ l', a.state ≠ .inserted

/-- The state of the first passport entry for a key. -/
def findEntry (l : List Entry) (k : ItemKey) : Option EntryState := (l.find? fun e => e.item.key == k).map (·.state)

/-- An entry is MADE_UP by some station. -/
def EntryState.isMadeUp : EntryState → Bool
  | .madeUp _ => true
  | .opened | .claimed _ => false

/-- Passport entries MADE_UP stay MADE_UP by their station, and none becomes so; with `quiet`, no key comes to be held. -/
structure EntriesOnward (quiet : Bool) (l l' : List Entry) : Prop where
  kept : ∀ k n, findEntry l k = some (.madeUp n) → findEntry l' k = some (.madeUp n)
  none : (∀ e ∈ l, e.state.isMadeUp = false) → ∀ e ∈ l', e.state.isMadeUp = false
  quiet : quiet = true → ∀ k, findEntry l k = Option.none → findEntry l' k = Option.none

theorem OwnsOnward.refl (l : List OwnItem) : OwnsOnward l l := fun _ => Iff.rfl

theorem OwnsOnward.trans {l l' l'' : List OwnItem} (h : OwnsOnward l l') (g : OwnsOnward l' l'') : OwnsOnward l l'' :=
  fun i => (g i).trans (h i)

theorem AdoptedOnward.refl (l : List Adopted) : AdoptedOnward l l := ⟨fun _ h => h, fun h => h⟩

theorem AdoptedOnward.trans {l l' l'' : List Adopted} (h : AdoptedOnward l l') (g : AdoptedOnward l' l'') :
    AdoptedOnward l l'' :=
  ⟨fun k hk => g.kept k (h.kept k hk), fun hl => g.none (h.none hl)⟩

theorem EntriesOnward.refl (q : Bool) (l : List Entry) : EntriesOnward q l l :=
  ⟨fun _ _ h => h, fun h => h, fun _ _ h => h⟩

theorem EntriesOnward.trans {q : Bool} {l l' l'' : List Entry} (h : EntriesOnward q l l')
    (g : EntriesOnward q l' l'') : EntriesOnward q l l'' :=
  ⟨fun k n hk => g.kept k n (h.kept k n hk), fun hl => g.none (h.none hl), fun hq k hk => g.quiet hq k (h.quiet hq k hk)⟩

/-! ### The changes that the part makes to such lists -/

/-- An own item changed only while it is not INSERTED, and not into an INSERTED one. -/
theorem OwnsOnward.modify (l : List OwnItem) (i : Nat) {f : OwnItem → OwnItem}
    (hf : ∀ o, l[i]? = some o → ((f o).state = .inserted ↔ o.state = .inserted)) : OwnsOnward l (l.modify i f) := by
  intro j
  rw [List.getElem?_modify]
  by_cases hij : i = j
  · subst hij
    cases h : l[i]? with
    | none => simp
    | some o => simpa using hf o h
  · simp [hij]

/-- Adopted entries changed so that what is INSERTED stays so. -/
theorem findAdopted_map_inserted (l : List Adopted) {f : Adopted → Adopted} (hi : ∀ a, (f a).item = a.item)
    (hf : ∀ a, a.state = .inserted → (f a).state = .inserted) (k : ItemKey)
    (h : (findAdopted l k).map (·.state) = some .inserted) :
    (findAdopted (l.map f) k).map (·.state) = some .inserted := by
  simp only [findAdopted, List.find?_map, Option.map_map, Function.comp_def, hi] at h ⊢
  cases hl : l.find? fun a => a.item.key == k with
  | none => simp [hl] at h
  | some a =>
    simp only [hl, Option.map_some, Option.some.injEq] at h ⊢
    exact hf a h

/-- An adopted entry changed in nothing but whether it is handled, never into or out of INSERTED. -/
theorem AdoptedOnward.map (l : List Adopted) {f : Adopted → Adopted} (hi : ∀ a, (f a).item = a.item)
    (hf : ∀ a, (f a).state = .inserted ↔ a.state = .inserted) : AdoptedOnward l (l.map f) := by
  refine ⟨fun k => findAdopted_map_inserted l hi (fun a => (hf a).mpr) k, fun h a ha => ?_⟩
  obtain ⟨x, hx, rfl⟩ := List.mem_map.mp ha
  exact fun he => h x hx ((hf x).mp he)

/-- An entry that is not INSERTED put at the end of the adopted list. -/
theorem AdoptedOnward.append (l : List Adopted) {a : Adopted} (ha : a.state ≠ .inserted) :
    AdoptedOnward l (l ++ [a]) := by
  refine ⟨fun k h => ?_, fun h x hx => ?_⟩
  · simp only [findAdopted, List.find?_append] at h ⊢
    cases hl : l.find? fun a => a.item.key == k with
    | none => simp [hl] at h
    | some x => simpa [hl] using h
  · rcases List.mem_append.mp hx with hx | hx
    · exact h x hx
    · rw [List.mem_singleton.mp hx]; exact ha

/-- Entries changed so that what is MADE_UP stays so. -/
theorem findEntry_map_madeUp (l : List Entry) {f : Entry → Entry} (hi : ∀ e, (f e).item = e.item)
    (hm : ∀ e n, e.state = .madeUp n → (f e).state = .madeUp n) (k : ItemKey) (n : Nat)
    (h : findEntry l k = some (.madeUp n)) : findEntry (l.map f) k = some (.madeUp n) := by
  simp only [findEntry, List.find?_map, Option.map_map, Function.comp_def, hi] at h ⊢
  cases hl : l.find? fun e => e.item.key == k with
  | none => simp [hl] at h
  | some e =>
    simp only [hl, Option.map_some, Option.some.injEq] at h ⊢
    exact hm e n h

/-- Entries changed in their states alone, never into or out of MADE_UP. -/
theorem EntriesOnward.map (q : Bool) (l : List Entry) {f : Entry → Entry} (hi : ∀ e, (f e).item = e.item)
    (hm : ∀ e n, e.state = .madeUp n → (f e).state = .madeUp n)
    (hn : ∀ e, e.state.isMadeUp = false → (f e).state.isMadeUp = false) : EntriesOnward q l (l.map f) := by
  refine ⟨findEntry_map_madeUp l hi hm, fun h e he => ?_, fun _ k h => ?_⟩
  · obtain ⟨x, hx, rfl⟩ := List.mem_map.mp he
    exact hn x (h x hx)
  · simp only [findEntry, List.find?_map, Option.map_map, Function.comp_def, hi, Option.map_eq_none_iff] at h ⊢
    exact h

/-- A find over a filtered list whose first match passes the filter. -/
theorem find?_filter_of_kept {α : Type} {p r : α → Bool} {l : List α} {a : α} (h : l.find? p = some a)
    (hr : r a = true) : (l.filter r).find? p = some a := by
  induction l with
  | nil => cases h
  | cons x rest ih =>
    by_cases hp : p x = true
    · simp only [List.find?_cons, hp, Option.some.injEq] at h
      subst h
      simp [hr, hp]
    · simp only [List.find?_cons, hp] at h
      by_cases hx : r x = true
      · simpa [List.filter_cons, hx, hp] using ih h
      · simpa [List.filter_cons, hx] using ih h

/-- Entries left out, none of them MADE_UP. -/
theorem EntriesOnward.filter (q : Bool) (l : List Entry) {r : Entry → Bool}
    (hr : ∀ e, e.state.isMadeUp = true → r e = true) : EntriesOnward q l (l.filter r) := by
  refine ⟨fun k n h => ?_, fun h e he => h e (List.mem_of_mem_filter he), fun _ k h => ?_⟩
  · simp only [findEntry, Option.map_eq_some_iff] at h ⊢
    obtain ⟨e, he, hs⟩ := h
    exact ⟨e, find?_filter_of_kept he (hr e (by rw [hs]; rfl)), hs⟩
  · simp only [findEntry, Option.map_eq_none_iff, List.find?_eq_none] at h ⊢
    exact fun e he => h e (List.mem_of_mem_filter he)

/-- An entry put behind a part of the list that has its key, or into a list that does not hold it. -/
theorem findEntry_insert (u o : List Entry) {e : Entry} (hk : o = [] ∨ findEntry (u ++ o) e.item.key = Option.none)
    (k : ItemKey) (n : Nat) (h : findEntry (u ++ o) k = some (.madeUp n)) :
    findEntry (u ++ [e] ++ o) k = some (.madeUp n) := by
  simp only [findEntry, List.find?_append, Option.map_eq_some_iff] at h ⊢
  obtain ⟨x, hx, hs⟩ := h
  refine ⟨x, ?_, hs⟩
  cases hu : u.find? fun e => e.item.key == k with
  | some y => simpa [hu] using hx
  | none =>
    rcases hk with ho | hk
    · simp only [hu, ho, List.find?_nil, Option.or_none, reduceCtorEq] at hx
    · have hne : (e.item.key == k) = false := by
        by_contra hc
        rw [Bool.not_eq_false, beq_iff_eq] at hc
        simp only [findEntry, List.find?_append, hc, hu, Option.none_or, Option.map_eq_none_iff] at hk
        simp [hu, hk] at hx
      simpa [hu, hne] using hx

/-- Such an entry that is not MADE_UP. -/
theorem EntriesOnward.insert (u o : List Entry) {e : Entry} (he : e.state.isMadeUp = false)
    (hk : o = [] ∨ findEntry (u ++ o) e.item.key = Option.none) : EntriesOnward false (u ++ o) (u ++ [e] ++ o) := by
  refine ⟨findEntry_insert u o hk, fun h x hx => ?_, nofun⟩
  simp only [List.mem_append, List.mem_singleton] at hx
  rcases hx with (hx | hx) | hx
  · exact h x (List.mem_append_left _ hx)
  · rw [hx]; exact he
  · exact h x (List.mem_append_right _ hx)

/-! ### The capacities of a context (R55, R120) -/

/-- A store whose banks are both READY: with it `Context.sound` says no more than `Context.fits`. -/
def readyStore : Store :=
  { State.reset.store with
    b0 := { State.reset.store.b0 with state := .ready }, b1 := { State.reset.store.b1 with state := .ready } }

theorem Context.sound_readyStore (c : Context) : c.sound readyStore ↔ c.fits = true :=
  (c.sound_iff readyStore).trans (and_iff_left fun b _ => by cases b <;> rfl)

theorem Context.fits_of_sound {c c' : Context} (h : c.sound readyStore → c'.sound readyStore) (hc : c.fits = true) :
    c'.fits = true :=
  c'.sound_readyStore.mp (h (c.sound_readyStore.mpr hc))

/-- A context whose lists are no longer than those of one that fits, fits. -/
theorem Context.fits_of_le {c c' : Context} (ha : c'.adopted.length ≤ c.adopted.length)
    (hr : c'.retry.length ≤ c.retry.length) (he : c'.entryCount ≤ c.entryCount) (hc : c.fits = true) :
    c'.fits = true := by
  simp only [Context.fits, Bool.and_eq_true, decide_eq_true_eq] at hc ⊢
  omega

/-! ### A context as it goes on -/

/-- A context goes on with its board: what is INSERTED or MADE_UP is final (R121), nothing becomes so, and the context does
not become EXPECTED again (R119); with `quiet`, no passport entry joins. -/
structure Context.Onward (quiet : Bool) (c c' : Context) : Prop where
  serial : c'.serial = c.serial
  program : c'.programId = c.programId
  expected : c'.state = .expected → c.state = .expected
  bound : c.noProgram = false → (∃ i, c.ownState i = some .inserted) → c'.noProgram = false
  own : c.noProgram = false → ∀ i, c.ownState i = some .inserted → c'.ownState i = some .inserted
  ownNone : (∀ i, c.ownState i ≠ some .inserted) → ∀ i, c'.ownState i ≠ some .inserted
  adopted : AdoptedOnward c.adopted c'.adopted
  entries : EntriesOnward quiet c.entries c'.entries
  fits : c.fits = true → c'.fits = true

section
variable {q : Bool} {c c' c'' : Context}

theorem Context.ownState_eq (c : Context) (i : Nat) : c.ownState i = (c.own[i]?).map (·.state) := rfl

theorem Context.Onward.refl (q : Bool) (c : Context) : c.Onward q c :=
  ⟨rfl, rfl, fun h => h, fun h _ => h, fun _ _ h => h, fun h => h, .refl _, .refl _ _, id⟩

theorem Context.Onward.trans (h : c.Onward q c') (g : c'.Onward q c'') : c.Onward q c'' where
  serial := g.serial.trans h.serial
  program := g.program.trans h.program
  expected he := h.expected (g.expected he)
  bound hn hi := g.bound (h.bound hn hi) (hi.imp fun i hi => h.own hn i hi)
  own hn i hi := g.own (h.bound hn ⟨i, hi⟩) i (h.own hn i hi)
  ownNone hn := g.ownNone (h.ownNone hn)
  adopted := h.adopted.trans g.adopted
  entries := h.entries.trans g.entries
  fits hc := g.fits (h.fits hc)

/-- A context changed in its lists as they go on, its identity and its bank staying. -/
theorem Context.Onward.mk' (hs : c'.serial = c.serial) (hp : c'.programId = c.programId)
    (he : c'.state = .expected → c.state = .expected) (hn : c'.noProgram = c.noProgram) (ho : OwnsOnward c.own c'.own)
    (ha : AdoptedOnward c.adopted c'.adopted) (hr : EntriesOnward q c.entries c'.entries)
    (hf : c.fits = true → c'.fits = true) : c.Onward q c' :=
  ⟨hs, hp, he, fun h _ => hn.trans h, fun _ i hi => (ho i).mpr hi, fun h i hi => h i ((ho i).mp hi), ha, hr, hf⟩

/-- A context changed in none of what the relation reads. -/
theorem Context.Onward.of_eq (hs : c'.serial = c.serial) (hp : c'.programId = c.programId)
    (he : c'.state = .expected → c.state = .expected) (hn : c'.noProgram = c.noProgram) (ho : c'.own = c.own)
    (ha : c'.adopted = c.adopted) (hu : c'.upstream = c.upstream) (hr : c'.ownRun = c.ownRun)
    (hl : c'.retry.length ≤ c.retry.length) : c.Onward q c' :=
  .mk' hs hp he hn (by rw [ho]; exact .refl _) (by rw [ha]; exact .refl _)
    (by rw [Context.entries, Context.entries, hu, hr]; exact .refl _ _)
    (Context.fits_of_le (by rw [ha]) hl (by rw [Context.entryCount, Context.entryCount, hu, hr]))

theorem Context.Onward.weaken (h : c.Onward true c') : c.Onward q c' :=
  { h with entries := ⟨h.entries.kept, h.entries.none, fun _ => h.entries.quiet rfl⟩ }

theorem Context.untouched_iff (c : Context) : c.untouched = true ↔
    (∀ i, c.ownState i ≠ some .inserted) ∧ (∀ a ∈ c.adopted, a.state ≠ .inserted) ∧
    (∀ e ∈ c.entries, e.state.isMadeUp = false) := by
  have hown : (c.own.all fun o => o.state != .inserted) = true ↔ ∀ i, c.ownState i ≠ some .inserted := by
    simp only [List.all_eq_true, bne_iff_ne, Context.ownState_eq]
    constructor
    · intro h i hi
      obtain ⟨o, ho, hs⟩ := Option.map_eq_some_iff.mp hi
      exact h o (List.mem_of_getElem? ho) hs
    · intro h o ho hs
      obtain ⟨i, hi⟩ := List.mem_iff_getElem?.mp ho
      exact h i (by rw [hi, Option.map_some, hs])
  have hent : (c.entries.all fun e => !e.state.isMadeUp) = true ↔ ∀ e ∈ c.entries, e.state.isMadeUp = false := by
    simp only [List.all_eq_true, Bool.not_eq_true']
  have hc : c.untouched = ((c.own.all fun o => o.state != .inserted) && (c.adopted.all fun a => a.state != .inserted) &&
      c.entries.all fun e => !e.state.isMadeUp) := by
    refine congrArg (_ && c.entries.all ·) (funext fun e => ?_)
    cases e.state <;> rfl
  rw [hc, Bool.and_eq_true, Bool.and_eq_true, hown, hent, and_assoc]
  simp only [List.all_eq_true, bne_iff_ne]

theorem Context.Onward.untouched (h : c.Onward q c') (hc : c.untouched = true) : c'.untouched = true := by
  obtain ⟨ho, ha, he⟩ := c.untouched_iff.mp hc
  exact c'.untouched_iff.mpr ⟨h.ownNone ho, h.adopted.none ha, h.entries.none he⟩

theorem Context.adoptedFor_eq (c : Context) (k : ItemKey) : c.adoptedFor k = findAdopted c.adopted k := rfl
theorem Context.entryState_eq (c : Context) (k : ItemKey) : c.entryState k = findEntry c.entries k := rfl

/-! ### What the part does to a context -/

theorem Context.Onward.modOwn (c : Context) (i : Nat) {f : OwnItem → OwnItem}
    (hf : ∀ o, c.own[i]? = some o → ((f o).state = .inserted ↔ o.state = .inserted)) : c.Onward q (c.modOwn i f) :=
  .mk' rfl rfl (fun h => h) rfl (.modify _ _ hf) (.refl _) (.refl _ _) id

/-- An own item that is not INSERTED takes another state than INSERTED. -/
theorem Context.Onward.modOwn_of_state (c : Context) {i : Nat} {st : OwnState} {f : OwnItem → OwnItem}
    (hi : c.ownState i = some st) (hs : st ≠ .inserted) (hf : ∀ o, (f o).state ≠ .inserted) :
    c.Onward q (c.modOwn i f) := by
  refine .modOwn c i fun o ho => ?_
  rw [Context.ownState_eq, ho, Option.map_some, Option.some.injEq] at hi
  exact iff_of_false (hf o) (by rw [hi]; exact hs)

theorem Context.Onward.modAdopted (c : Context) (k : ItemKey) {f : Adopted → Adopted} (hi : ∀ a, (f a).item = a.item)
    (hf : ∀ a, (f a).state = .inserted ↔ a.state = .inserted) : c.Onward q (c.modAdopted k f) :=
  .mk' rfl rfl (fun h => h) rfl (.refl _)
    (.map _ (fun a => by split <;> simp [hi]) (fun a => by split <;> simp [hf])) (.refl _ _)
    (Context.fits_of_sound (Context.sound_modAdopted _ c k f).mpr)

/-- The entries of a context all changed. -/
theorem Context.Onward.mapEntries (c : Context) {f : Entry → Entry} (hi : ∀ e, (f e).item = e.item)
    (hm : ∀ e n, e.state = .madeUp n → (f e).state = .madeUp n)
    (hn : ∀ e, e.state.isMadeUp = false → (f e).state.isMadeUp = false) :
    c.Onward q { c with upstream := c.upstream.map f, ownRun := c.ownRun.map f } :=
  .mk' rfl rfl (fun h => h) rfl (.refl _) (.refl _)
    (by simpa only [Context.entries, List.map_append] using EntriesOnward.map q c.entries hi hm hn)
    (Context.fits_of_le (Nat.le_refl _) (Nat.le_refl _) (by simp [Context.entryCount]))

theorem Context.Onward.setEntry (c : Context) (k : ItemKey) {st : EntryState} (hst : st.isMadeUp = false) :
    c.Onward q (c.setEntry k st) := by
  refine .mapEntries c (fun e => ?_) (fun e n he => ?_) (fun e he => ?_)
  · split
    · split <;> rfl
    · rfl
  · simp [he]
  · split
    · split
      · exact he
      · exact hst
    · exact he

theorem Context.Onward.offRetry (c : Context) (k : ItemKey) : c.Onward q (c.offRetry k) :=
  .of_eq rfl rfl (fun h => h) rfl rfl rfl rfl rfl (List.length_filter_le _ _)

theorem Context.Onward.countOwed (c : Context) : c.Onward q c.countOwed :=
  .of_eq rfl rfl (fun h => h) rfl rfl rfl rfl rfl (Nat.le_refl _)

theorem Context.Onward.walk (c : Context) : c.Onward q c.walk :=
  .of_eq rfl rfl (fun h => h) rfl rfl rfl rfl rfl (Nat.le_refl _)

theorem Context.Onward.taken (c : Context) (src : TakenFrom) : c.Onward q (c.taken src) := by
  cases src with
  | retry => exact .of_eq rfl rfl (fun h => h) rfl rfl rfl rfl rfl (by simp [Context.taken])
  | cursor i => exact .of_eq rfl rfl (fun h => h) rfl rfl rfl rfl rfl (Nat.le_refl _)
  | adoptedList => exact .refl _ _

theorem Context.Onward.joinRetry (c : Context) (place : Nat) (k : ItemKey) (hl : c.retry.length < 8) :
    c.Onward q (c.joinRetry place k) :=
  have hfits : c.fits = true → (c.joinRetry place k).fits = true :=
    Context.fits_of_sound fun h => Context.sound_joinRetry h place k hl
  .mk' (by unfold Context.joinRetry; split <;> rfl) (by unfold Context.joinRetry; split <;> rfl)
    (by unfold Context.joinRetry; split <;> exact id) (by unfold Context.joinRetry; split <;> rfl)
    (by unfold Context.joinRetry; split <;> exact .refl _) (by unfold Context.joinRetry; split <;> exact .refl _)
    (by unfold Context.joinRetry; split <;> exact .refl _ _) hfits

theorem Context.Onward.stepped (c : Context) : c.Onward q c.stepped := by
  unfold Context.stepped
  split
  · exact .of_eq rfl rfl (fun h => h) rfl rfl rfl rfl rfl (Nat.le_refl _)
  · exact .refl _ _

/-- An item owed joins the own run as OPEN (R57). -/
theorem Context.Onward.joinOwnRun (c : Context) (d : ItemData) : c.Onward false (c.joinOwnRun d) := by
  have hfits := Context.fits_of_sound fun h : c.sound readyStore => Context.sound_joinOwnRun h d
  unfold Context.joinOwnRun at hfits ⊢
  split at hfits
  case isTrue hroom =>
    rw [if_pos hroom]
    refine .mk' rfl rfl (fun h => h) rfl (.refl _) (.refl _) ?_ hfits
    have h := EntriesOnward.insert c.entries [] (e := { item := d, state := .opened }) rfl (.inl rfl)
    simpa only [Context.entries, List.append_nil, List.append_assoc] using h
  case isFalse hfull =>
    rw [if_neg hfull]
    exact .of_eq rfl rfl (fun h => h) rfl rfl rfl rfl rfl (Nat.le_refl _)

theorem Adopted.moved_item (b a : AdoptedState) (x : Adopted) : (x.moved b a).item = x.item := by
  unfold Adopted.moved; split <;> rfl

theorem Adopted.moved_inserted {b a : AdoptedState} (hb : b ≠ .inserted) (ha : a ≠ .inserted) (x : Adopted) :
    (x.moved b a).state = .inserted ↔ x.state = .inserted := by
  unfold Adopted.moved
  split
  case isTrue h => exact iff_of_false ha (by rw [h]; exact hb)
  case isFalse => exact Iff.rfl

/-- A PENDING item becomes IN_CHAIN (R50). -/
theorem Context.Onward.intoChain (c : Context) (i : Option Nat) (k : ItemKey) (o : Origin) :
    c.Onward q (c.intoChain i k o) := by
  cases o with
  | own =>
    cases i with
    | none => exact .refl _ _
    | some n =>
      refine .modOwn c n fun o _ => ?_
      split
      case isTrue h => simp [h]
      case isFalse => exact Iff.rfl
  | adopted =>
    exact .modAdopted c k (Adopted.moved_item _ _) (Adopted.moved_inserted (by decide) (by decide))

/-- The change that drops an adopted entry which is PENDING or IN_CHAIN (R122). -/
theorem Context.Onward.dropAdopted (c : Context) (k : ItemKey) :
    c.Onward q (c.modAdopted k fun a =>
      if a.state = .pending ∨ a.state = .inChain then { a with state := .dropped } else a) := by
  refine .modAdopted c k (fun a => by split <;> rfl) fun a => ?_
  split
  case isTrue h => rcases h with h | h <;> simp [h]
  case isFalse => exact Iff.rfl

theorem skipOwn_onward (new : BitVec 8) (l : List OwnItem) (steps : List StepRecord) :
    OwnsOnward l (skipOwn new l steps) := by
  induction l generalizing steps with
  | nil => cases steps <;> exact .refl _
  | cons o os ih =>
    cases steps with
    | nil => exact .refl _
    | cons r rs =>
      intro i
      cases i with
      | zero =>
        simp only [skipOwn, List.getElem?_cons_zero, Option.map_some, Option.some.injEq]
        split
        case isTrue h =>
          simp only [Bool.and_eq_true, Bool.or_eq_true, beq_iff_eq] at h
          obtain ⟨-, h | h⟩ := h <;> simp [h]
        case isFalse => exact Iff.rfl
      | succ n => simpa only [skipOwn, List.getElem?_cons_succ] using ih rs n

theorem keepEntry_of_madeUp {e : Entry} (new : BitVec 8) (h : e.state.isMadeUp = true) : keepEntry new e = true := by
  unfold keepEntry
  cases hs : e.state <;> simp_all [EntryState.isMadeUp]

/-- Images joined to the mask take out nothing that is INSERTED or MADE_UP (R122). -/
theorem Context.Onward.skipImages (c : Context) (steps : List StepRecord) (keys : List ItemKey) (new : BitVec 8) :
    c.Onward q (c.skipImages steps keys new) := by
  refine .mk' rfl rfl (fun h => h) rfl (skipOwn_onward new _ _) ?_ ?_
    (Context.fits_of_sound fun h => Context.sound_skipImages h steps keys new)
  · refine .map _ (fun a => by split <;> rfl) fun a => ?_
    split
    case isTrue h =>
      simp only [Bool.and_eq_true, Bool.or_eq_true, beq_iff_eq] at h
      obtain ⟨-, h | h⟩ := h <;> simp [h]
    case isFalse => exact Iff.rfl
  · have h := EntriesOnward.filter q c.entries (r := keepEntry new) fun e he => keepEntry_of_madeUp new he
    simpa only [Context.entries, Context.skipImages, List.filter_append] using h

/-- A CLAIM heard changes no MADE_UP entry and makes none (R158). -/
theorem Context.Onward.recordClaim (c : Context) (k : ItemKey) (n : Nat) : c.Onward q (c.recordClaim k n) := by
  refine .mapEntries c (fun e => by split <;> rfl) (fun e m he => ?_) (fun e he => ?_)
  · split <;> simp [he, lowestClaimant]
  · split
    · cases hs : e.state with
      | opened => rfl
      | claimed m => simp only [lowestClaimant]; split <;> rfl
      | madeUp m => simp [hs, EntryState.isMadeUp] at he
    · exact he

/-- An OWE heard adds an OPEN entry or opens a claimed one (R155). -/
theorem Context.Onward.recordOwe (c : Context) (station sender : Nat) (d : ItemData) :
    c.Onward false (c.recordOwe station sender d) := by
  have hfits := Context.fits_of_sound fun h : c.sound readyStore => Context.sound_recordOwe h station sender d
  unfold Context.recordOwe at hfits ⊢
  split
  case h_1 hnone =>
    rw [hnone] at hfits
    dsimp only at hfits
    split
    case isTrue hlow =>
      split
      case isTrue hroom =>
        rw [if_pos hlow, if_pos hroom] at hfits
        refine .mk' rfl rfl (fun h => h) rfl (.refl _) (.refl _) ?_ hfits
        exact EntriesOnward.insert c.upstream c.ownRun (e := { item := d, state := .opened }) rfl (.inr hnone)
      case isFalse => exact .of_eq rfl rfl (fun h => h) rfl rfl rfl rfl rfl (Nat.le_refl _)
    case isFalse => exact .refl _ _
  case h_2 =>
    split
    · exact .setEntry c _ rfl
    · exact .refl _ _
  case h_3 => exact .refl _ _

/-- The claim of an item: it joins the adopted list as PENDING, its entry becomes CLAIMED (R157). -/
theorem Context.Onward.claimed (c : Context) (d : ItemData) (n : Nat) (hroom : c.adopted.length < 16) :
    c.Onward q (Context.setEntry { c with adopted := c.adopted ++ [{ item := d, retries := 0, state := .pending }] }
      d.key (.claimed n)) :=
  .trans (c' := { c with adopted := c.adopted ++ [{ item := d, retries := 0, state := .pending }] })
    (.mk' rfl rfl (fun h => h) rfl (.refl _) (.append _ nofun) (.refl _ _) fun hc => by
      simp only [Context.fits, Bool.and_eq_true, decide_eq_true_eq] at hc ⊢
      obtain ⟨⟨-, hretry⟩, hentries⟩ := hc
      exact ⟨⟨by simp; omega, hretry⟩, hentries⟩)
    (.setEntry _ _ rfl)

theorem freshItems_not_inserted (mask : BitVec 8) (steps : List StepRecord) (i : Nat) :
    ((freshItems mask steps)[i]?).map (·.state) ≠ some .inserted := by
  simp only [freshItems, List.getElem?_map, Option.map_map]
  cases steps[i]? with
  | none => simp
  | some r => simp only [Option.map_some, Function.comp_apply]; split <;> simp

/-- A context that waits for its bank is bound to it with fresh items (R16, R118). -/
theorem Context.Onward.bound_fresh {c : Context} (hn : c.noProgram = true ∨ ∀ i, c.ownState i ≠ some .inserted)
    (b : BankId) (steps : List StepRecord) :
    c.Onward q { c with bank := some b, noProgram := false, own := freshItems c.skipMask steps, cursor := 0,
                        retry := [] } where
  serial := rfl
  program := rfl
  expected h := h
  bound _ _ := rfl
  own h i hi := by
    rcases hn with hn | hn
    · rw [hn] at h; cases h
    · exact absurd hi (hn i)
  ownNone _ := freshItems_not_inserted _ _
  adopted := .refl _
  entries := .refl _ _
  fits := Context.fits_of_le (Nat.le_refl _) (Nat.zero_le _) (Nat.le_refl _)

end

end Sys2Proof.Machine
end

section
/-! SUPPORT. What an operation inside a command keeps of the laws of the chapters (R2, R34, R79, R119, R121): `Steady` is the
relation that almost every operation has between the state before and after; it composes. This file: the relation, the
updates, the planner and the chain. -/

namespace Sys2Proof.Machine

/-! ### The normal queue (R147) -/

/-- The state with other contexts. -/
def State.withSlots (s : State) (l : List (Option Context)) : State := s.setBoards { s.boards with slots := l }

/-- Of the contexts a STATUS tells the serial of the CURRENT one alone. -/
theorem queueStatus_orderly (s : State) (h : s.line.orderly) : (queueStatus s).line.orderly := by
  let c := { Context.created (currentSerial s) none 0 0 with state := .current }
  have hc : c.sound s.store := ⟨Nat.zero_le _, Nat.zero_le _, Nat.zero_le _, nofun⟩
  have hsound : (s.withSlots [some c]).sound :=
    ⟨fun o ho x hx => by cases List.mem_singleton.mp ho; cases hx; exact hc, h⟩
  have hline : (queueStatus (s.withSlots [some c])).line = (queueStatus s).line := rfl
  exact hline ▸ (queueStatus_sound _ hsound).2

/-- An ANNOUNCE reads no context. -/
theorem queueAnnounce_orderly (s : State) (n p x : Nat) (m : BitVec 8) (h : s.line.orderly) :
    (queueAnnounce s n p x m).line.orderly := by
  have hline : (queueAnnounce (s.withSlots []) n p x m).line = (queueAnnounce s n p x m).line := by
    have hl : (s.withSlots []).line = s.line := rfl
    have hn : normalBegun (s.withSlots []) = normalBegun s := rfl
    unfold queueAnnounce
    rw [hl, hn]
    dsimp only
    split
    · rfl
    · split <;> rfl
  have hs : (s.withSlots []).sound := ⟨fun _ ho => absurd ho List.not_mem_nil, h⟩
  rw [← hline]
  exact (queueAnnounce_sound _ n p x m hs).2

/-! ### The laws, block by block -/

/-- An item key is live in one clip at most, and the targets of live clips lie within the travel (R34, R67). -/
structure ClipsOk (s : State) : Prop where
  once : ∀ p q i j, (clipAt s p).live = some i → (clipAt s q).live = some j → i.key = j.key → p = q
  within : ∀ p i, (clipAt s p).live = some i → i.pose.tx ≤ travel s .x ∧ i.pose.ty ≤ travel s .y

/-- The counters and the operation within the travel; UNCONFIGURED there is no operation, and else there is a travel (R79,
R185, R186). -/
structure TableOk (s : State) : Prop where
  counters : ∀ ax, s.table.counter ax ≤ travel s ax
  operation : s.table.op.fits s = true
  idle : s.jam.run = .unconfigured → s.table.op = .none
  travels : s.jam.run ≠ .unconfigured → ∀ ax, 1 ≤ travel s ax

/-- What an operation inside a command keeps: the setup record, whether the station is UNCONFIGURED, the laws of the clips
and the table, the board of the item in the jaws, the normal queue in its form, and every context as it goes on; no slot is filled or emptied. -/
structure Steady (quiet : Bool) (s t : State) : Prop where
  setup : t.console.setup = s.console.setup
  unconfigured : t.jam.run = .unconfigured ↔ s.jam.run = .unconfigured
  clips : ClipsOk s → ClipsOk t
  table : ClipsOk s → TableOk s → TableOk t
  jaw : ∀ b, t.stroke.jaw.itemBoard = some b → s.stroke.jaw.itemBoard = some b
  orderly : s.line.orderly → t.line.orderly
  held : ∀ i, (ctxAt s i).isSome → (ctxAt t i).isSome
  contexts : ∀ i c', ctxAt t i = some c' → ∃ c, ctxAt s i = some c ∧ c.Onward quiet c'

theorem Motion.fits_congr {s t : State} (m : Motion) (hx : t.table.x = s.table.x) (hy : t.table.y = s.table.y)
    (hs : t.console.setup = s.console.setup) : m.fits t = m.fits s := by
  simp only [Motion.fits, hx, hy, travel_congr hs]

theorem Operation.fits_congr {s t : State} (op : Operation) (hx : t.table.x = s.table.x) (hy : t.table.y = s.table.y)
    (hs : t.console.setup = s.console.setup) : op.fits t = op.fits s := by
  cases op with
  | none => rfl
  | move k m => exact m.fits_congr hx hy hs
  | jog ax c m => exact m.fits_congr hx hy hs
  | home h => simp only [Operation.fits, hx, hy, travel_congr hs]

theorem ClipsOk.congr {s t : State} (h : ClipsOk s) (hc : t.chain.clips = s.chain.clips)
    (hs : t.console.setup = s.console.setup) : ClipsOk t :=
  ⟨by rw [clipAt_congr hc]; exact h.once, by rw [clipAt_congr hc, travel_congr hs]; exact h.within⟩

theorem TableOk.congr {s t : State} (h : TableOk s) (hx : t.table.x = s.table.x) (hy : t.table.y = s.table.y)
    (ho : t.table.op = s.table.op) (hs : t.console.setup = s.console.setup)
    (hu : t.jam.run = .unconfigured ↔ s.jam.run = .unconfigured) : TableOk t where
  counters ax := by
    rw [travel_congr hs]
    cases ax with
    | x => exact hx.trans_le (h.counters .x)
    | y => exact hy.trans_le (h.counters .y)
  operation := by rw [ho, Operation.fits_congr _ hx hy hs]; exact h.operation
  idle hr := ho.trans (h.idle (hu.mp hr))
  travels hr := by rw [travel_congr hs]; exact h.travels fun e => hr (hu.mpr e)

/-- Clips of which each that is live was live with the same item keep their law. -/
theorem ClipsOk.of_live {s t : State} (h : ClipsOk s)
    (hs : t.console.setup = s.console.setup) (hl : ∀ p i, (clipAt t p).live = some i → (clipAt s p).live = some i) :
    ClipsOk t :=
  ⟨fun p q i j hp hq => h.once p q i j (hl p i hp) (hl q j hq),
    fun p i hp => by rw [travel_congr hs]; exact h.within p i (hl p i hp)⟩

namespace Steady

variable {q : Bool} {b s t : State}

theorem refl (q : Bool) (s : State) : Steady q s s :=
  ⟨rfl, Iff.rfl, id, fun _ h => h, fun _ h => h, id, fun _ h => h, fun _ c hc => ⟨c, hc, .refl _ _⟩⟩

theorem trans {s t u : State} (h : Steady q s t) (g : Steady q t u) : Steady q s u where
  setup := g.setup.trans h.setup
  unconfigured := g.unconfigured.trans h.unconfigured
  clips hs := g.clips (h.clips hs)
  table hc hs := g.table (h.clips hc) (h.table hc hs)
  jaw b hb := h.jaw b (g.jaw b hb)
  orderly hl := g.orderly (h.orderly hl)
  held i hi := g.held i (h.held i hi)
  contexts i c hc := by
    obtain ⟨c1, hc1, h1⟩ := g.contexts i c hc
    obtain ⟨c0, hc0, h0⟩ := h.contexts i c1 hc1
    exact ⟨c0, hc0, h0.trans h1⟩

theorem weaken (h : Steady true s t) : Steady q s t :=
  { h with contexts := fun i c hc => (h.contexts i c hc).imp fun _ hx => ⟨hx.1, hx.2.weaken⟩ }

/-- A change of the table drive alone. -/
theorem of_table (h : Steady q b s) (hs : t.console.setup = s.console.setup)
    (hu : t.jam.run = .unconfigured ↔ s.jam.run = .unconfigured) (hc : t.chain.clips = s.chain.clips)
    (hb : t.boards.slots = s.boards.slots) (hj : t.stroke.jaw = s.stroke.jaw)
    (hl : s.line.orderly → t.line.orderly) (ht : ClipsOk s → TableOk s → TableOk t) : Steady q b t :=
  h.trans ⟨hs, hu, fun h => h.congr hc hs, ht, fun b hx => hj ▸ hx, hl, fun i h => by rwa [ctxAt_congr hb],
    fun i c h => ⟨c, by rwa [← ctxAt_congr hb], .refl _ _⟩⟩

/-- A change in nothing that the relation reads. -/
theorem of_eq (h : Steady q b s) (hs : t.console.setup = s.console.setup)
    (hu : t.jam.run = .unconfigured ↔ s.jam.run = .unconfigured) (hc : t.chain.clips = s.chain.clips)
    (hb : t.boards.slots = s.boards.slots) (hj : t.stroke.jaw = s.stroke.jaw) (hx : t.table.x = s.table.x)
    (hy : t.table.y = s.table.y) (ho : t.table.op = s.table.op) (hl : s.line.orderly → t.line.orderly) :
    Steady q b t :=
  h.of_table hs hu hc hb hj hl fun _ h => h.congr hx hy ho hs hu

/-- A change of the clips alone. -/
theorem of_clips (h : Steady q b s) {v : Chain} (hc : ClipsOk s → ClipsOk (s.setChain v)) :
    Steady q b (s.setChain v) :=
  h.trans ⟨rfl, Iff.rfl, hc, fun _ h => h.congr rfl rfl rfl rfl Iff.rfl, fun _ h => h, id, fun _ h => h,
    fun _ c h => ⟨c, h, .refl _ _⟩⟩

/-- A change of the jaw record alone, which takes no item of a board. -/
theorem of_jaw (h : Steady q b s) {v : Stroke}
    (hj : ∀ b, v.jaw.itemBoard = some b → s.stroke.jaw.itemBoard = some b) : Steady q b (s.setStroke v) :=
  h.trans ⟨rfl, Iff.rfl, fun h => h.congr rfl rfl, fun _ h => h.congr rfl rfl rfl rfl Iff.rfl,
    hj, id, fun _ h => h, fun _ c h => ⟨c, h, .refl _ _⟩⟩

/-- A change of the contexts alone, each going on. -/
theorem of_slots (h : Steady q b s) {v : Boards}
    (hsome : ∀ i, (ctxAt s i).isSome → (ctxAt (s.setBoards v) i).isSome)
    (hc : ∀ i c', ctxAt (s.setBoards v) i = some c' → ∃ c, ctxAt s i = some c ∧ c.Onward q c') :
    Steady q b (s.setBoards v) :=
  h.trans ⟨rfl, Iff.rfl, fun h => h.congr rfl rfl, fun _ h => h.congr rfl rfl rfl rfl Iff.rfl,
    fun _ h => h, id, hsome, hc⟩

/-! ### Updates -/

theorem setStore (h : Steady q b s) (v : Store) : Steady q b (s.setStore v) :=
  h.of_eq rfl Iff.rfl rfl rfl rfl rfl rfl rfl id
theorem setPlanner (h : Steady q b s) (v : PassSummary) : Steady q b (s.setPlanner v) :=
  h.of_eq rfl Iff.rfl rfl rfl rfl rfl rfl rfl id
theorem setPose (h : Steady q b s) (v : PoseUnit) : Steady q b (s.setPose v) :=
  h.of_eq rfl Iff.rfl rfl rfl rfl rfl rfl rfl id
theorem setDisp (h : Steady q b s) (v : DispUnit) : Steady q b (s.setDisp v) :=
  h.of_eq rfl Iff.rfl rfl rfl rfl rfl rfl rfl id
theorem setInputs (h : Steady q b s) (v : Inputs) : Steady q b (s.setInputs v) :=
  h.of_eq rfl Iff.rfl rfl rfl rfl rfl rfl rfl id
/-- A change of the line that keeps the normal queue in its form. -/
theorem setLine (h : Steady q b s) {v : Line} (hv : s.line.orderly → v.orderly) : Steady q b (s.setLine v) :=
  h.of_eq rfl Iff.rfl rfl rfl rfl rfl rfl rfl hv
theorem setPending (h : Steady q b s) (v : List Instr) : Steady q b (s.setPending v) :=
  h.of_eq rfl Iff.rfl rfl rfl rfl rfl rfl rfl id
theorem setConsole (h : Steady q b s) {v : Console} (hv : v.setup = s.console.setup) : Steady q b (s.setConsole v) :=
  h.of_eq hv Iff.rfl rfl rfl rfl rfl rfl rfl id
theorem setJam (h : Steady q b s) {v : Jam} (hv : v.run = .unconfigured ↔ s.jam.run = .unconfigured) :
    Steady q b (s.setJam v) :=
  h.of_eq rfl hv rfl rfl rfl rfl rfl rfl id
theorem setStroke (h : Steady q b s) {v : Stroke} (hv : v.jaw = s.stroke.jaw) : Steady q b (s.setStroke v) :=
  h.of_eq rfl Iff.rfl rfl rfl hv rfl rfl rfl id
theorem setBoards (h : Steady q b s) {v : Boards} (hv : v.slots = s.boards.slots) : Steady q b (s.setBoards v) :=
  h.of_eq rfl Iff.rfl rfl hv rfl rfl rfl rfl id
theorem setChain (h : Steady q b s) {v : Chain} (hv : v.clips = s.chain.clips) : Steady q b (s.setChain v) :=
  h.of_eq rfl Iff.rfl hv rfl rfl rfl rfl rfl id

/-! ### Contexts -/

theorem modCtx (h : Steady q b s) (i : Nat) {f : Context → Context}
    (hf : ∀ c, ctxAt s i = some c → c.Onward q (f c)) : Steady q b (Machine.modCtx s i f) := by
  refine h.of_slots (fun j hj => ?_) fun j c' hc => ?_
  · have he := ctxAt_modCtx s i j f
    simp only [Machine.modCtx] at he
    rw [he]
    split <;> simpa using hj
  · rw [← Machine.modCtx, ctxAt_modCtx] at hc
    split at hc
    case isTrue hij =>
      subst hij
      obtain ⟨c, he, rfl⟩ := Option.map_eq_some_iff.mp hc
      exact ⟨c, he, hf c he⟩
    case isFalse => exact ⟨c', hc, .refl _ _⟩

/-- The context of a slot replaced by one that goes on from it. -/
theorem setSlot (h : Steady q b s) {i : Nat} {c c' : Context} (hc : ctxAt s i = some c) (hf : c.Onward q c') :
    Steady q b (Machine.setSlot s i (some c')) := by
  refine h.of_slots (fun j hj => ?_) fun j x hx => ?_
  · rw [← Machine.setSlot, ctxAt_setSlot]
    split
    · rfl
    · exact hj
  · rw [← Machine.setSlot, ctxAt_setSlot] at hx
    split at hx
    case isTrue hij =>
      obtain ⟨rfl, -⟩ := hij
      cases hx
      exact ⟨c, hc, hf⟩
    case isFalse => exact ⟨x, hx, .refl _ _⟩

/-! ### The named operations (Ops) -/

theorem report (h : Steady q b s) (k : ReportKind) : Steady q b (report s k) := h.setConsole rfl
theorem joinUrgent (h : Steady q b s) (f : Frame) : Steady q b (joinUrgent s f) := h.setLine id
theorem queueStatus (h : Steady q b s) : Steady q b (queueStatus s) := h.setLine (queueStatus_orderly s)
theorem enterAlarm (h : Steady q b s) (c : AlarmClass) (src : AlarmSource) : Steady q b (enterAlarm s c src) :=
  h.setJam (by rw [Jam.enter_run])
theorem modDisp (h : Steady q b s) (d : Nat) (f : Dispenser → Dispenser) : Steady q b (modDisp s d f) := h.setDisp _
theorem modGroup (h : Steady q b s) (g : Nat) (f : Group → Group) : Steady q b (modGroup s g f) := h.setDisp _
theorem modRoster (h : Steady q b s) (n : Nat) (f : RosterEntry → RosterEntry) : Steady q b (modRoster s n f) := by
  unfold Machine.modRoster
  split
  · exact h
  · exact h.setLine id
theorem queueAnnounce (h : Steady q b s) (n p x : Nat) (m : BitVec 8) : Steady q b (queueAnnounce s n p x m) := by
  have horderly := queueAnnounce_orderly s n p x m
  unfold Machine.queueAnnounce at horderly ⊢
  dsimp only at horderly ⊢
  split at horderly
  · exact h.setLine horderly
  · by_cases hroom : (s.line.normal.filter Frame.isAnnounce).length < Config.announceMax
    · rw [if_pos hroom] at horderly ⊢; exact h.setLine horderly
    · rw [if_neg hroom] at horderly ⊢; exact h.setLine horderly
theorem setActuator (h : Steady q b s) (a : Actuator) (r : ActRecord) : Steady q b (setActuator s a r) :=
  h.setStroke (by cases a <;> rfl)

/-- A fold of operations that each keep the laws. -/
theorem foldl {α : Type} {f : State → α → State} (h : Steady q b s) (hf : ∀ s a, Steady q b s → Steady q b (f s a))
    (l : List α) : Steady q b (l.foldl f s) := by
  induction l generalizing s with
  | nil => exact h
  | cons a rest ih => exact ih (hf s a h)

/-! ### Clips -/

/-- A clip replaced by one that is not live, or that is live with what it held. -/
theorem setClip (h : Steady q b s) {p : Nat} {c : Clip} (hc : ∀ i, c.live = some i → (clipAt s p).live = some i) :
    Steady q b (setClip s p c) := by
  refine h.of_clips fun hk => hk.of_live rfl fun r i hi => ?_
  rw [← Machine.setClip, clipAt_setClip] at hi
  split at hi
  case isTrue hpr => exact hpr.1 ▸ hc i hi
  case isFalse => exact hi

/-- A clip replaced by one that is not live. -/
theorem setClip_dead (h : Steady q b s) (p : Nat) {c : Clip} (hc : c.live = none) : Steady q b (Machine.setClip s p c) :=
  h.setClip fun i hi => by rw [hc] at hi; cases hi

end Steady

end Sys2Proof.Machine
end

section
/-! SUPPORT. The planner and the chain keep the laws of the chapters (`Steady`). -/

namespace Sys2Proof.Machine

/-! ### Clips that cease to be live -/

theorem ClipsOk.map {s : State} (h : ClipsOk s) (f : Clip → Clip) (hf : ∀ c i, (f c).live = some i → c.live = some i)
    {v : Chain} (hv : v.clips = s.chain.clips.map f) : ClipsOk (s.setChain v) := by
  refine h.of_live rfl fun p i hi => ?_
  simp only [clipAt, State.setChain_chain, hv, List.getD_eq_getElem?_getD, List.getElem?_map] at hi ⊢
  cases hp : s.chain.clips[p]? with
  | none => simp [hp, Clip.live] at hi
  | some c => exact hf c i (by simpa [hp] using hi)

theorem cancelClips_getElem? (s : State) (hit : ClipItem → Bool) (l : List Clip) (n p : Nat) :
    (cancelClips s hit l n)[p]? = (l[p]?).map fun c =>
      match c.live with
      | some i => if hit i then c.cancelled (dropOpen s (n + p) i.disp) else c
      | none => c := by
  induction l generalizing n p with
  | nil => rfl
  | cons c rest ih =>
    cases p with
    | zero => rfl
    | succ p => simp only [cancelClips, List.getElem?_cons_succ, ih, Nat.add_assoc, Nat.add_comm 1]

theorem Clip.cancelled_live (fired : Bool) {c : Clip} (hc : c.live.isSome) : (c.cancelled fired).live = none := by
  cases c with
  | planned i => cases fired <;> rfl
  | loaded i => rfl
  | verified i f => rfl
  | _ => cases hc

/-- A cancellation leaves live what it does not name (R41). -/
theorem cancelClips_live (s : State) (hit : ClipItem → Bool) (l : List Clip) (p : Nat) {i : ClipItem}
    (h : ((cancelClips s hit l 0).getD p .unknown).live = some i) : (l.getD p .unknown).live = some i := by
  simp only [List.getD_eq_getElem?_getD, cancelClips_getElem?] at h ⊢
  cases hp : l[p]? with
  | none => simp [hp, Clip.live] at h
  | some c =>
    simp only [hp, Option.map_some, Option.getD_some] at h ⊢
    cases hc : c.live with
    | none => simp [hc] at h
    | some j =>
      simp only [hc] at h
      split at h
      · rw [Clip.cancelled_live _ (by rw [hc]; rfl)] at h; cases h
      · exact hc.symm.trans h

theorem Clip.loseBoard_live (slot : Nat) (c : Clip) : (c.loseBoard slot).live = c.live := by cases c <;> rfl

/-! ### The jaw record under a cancellation (R116) -/

theorem cancelJaw_itemBoard {k : Stroke} {b : Nat} (h : (cancelJaw k).jaw.itemBoard = some b) :
    k.jaw.itemBoard = some b := by
  unfold cancelJaw at h
  split at h
  · split at h
    · split at h
      · exact h
      · cases h
    · cases h
  · exact h

theorem Jaw.loseBoard_itemBoard {j : Jaw} {slot b : Nat} (h : (j.loseBoard slot).itemBoard = some b) :
    j.itemBoard = some b ∧ b ≠ slot := by
  cases j with
  | item k board p f o =>
    simp only [Jaw.loseBoard, Jaw.itemBoard] at h ⊢
    split at h
    case isTrue => cases h
    case isFalse hne => exact ⟨h, fun e => hne (by rw [h, e])⟩
  | _ => cases h

/-! ### A clip that comes to be live (R34, R50, R67) -/

theorem findLive_eq_none {p : ClipItem → Bool} {l : List Clip} {n : Nat} (h : findLive p l n = none) (r : Nat)
    {i : ClipItem} (hi : (l.getD r .unknown).live = some i) : p i = false := by
  induction l generalizing n r with
  | nil => simp [Clip.live] at hi
  | cons c rest ih =>
    cases hc : c.live with
    | none =>
      simp only [findLive, hc] at h
      cases r with
      | zero => simp [hc] at hi
      | succ r => exact ih h r (by simpa using hi)
    | some j =>
      simp only [findLive, hc] at h
      split at h
      case isTrue => cases h
      case isFalse hj =>
        cases r with
        | zero =>
          simp only [List.getD_cons_zero, hc, Option.some.injEq] at hi
          rw [← hi]; simpa using hj
        | succ r => exact ih h r (by simpa using hi)

/-- No live clip holds a key that is not live. -/
theorem key_ne_of_not_keyLive {s : State} {k : ItemKey} (h : keyLive s k = false) {p : Nat} {i : ClipItem}
    (hi : (clipAt s p).live = some i) : i.key ≠ k := by
  rw [keyLive, Option.isSome_eq_false_iff, Option.isNone_iff_eq_none] at h
  simpa using findLive_eq_none h p hi

theorem ClipsOk.assigned {s : State} (h : ClipsOk s) {p : Nat} {x : ClipItem}
    (hk : ∀ r i, (clipAt s r).live = some i → i.key ≠ x.key)
    (hp : x.pose.tx ≤ travel s .x ∧ x.pose.ty ≤ travel s .y) : ClipsOk (setClip s p (.planned x)) := by
  have hlive : ∀ r i, (clipAt (setClip s p (.planned x)) r).live = some i →
      (r = p ∧ i = x) ∨ (clipAt s r).live = some i := fun r i hi => by
    rw [clipAt_setClip] at hi
    split at hi
    case isTrue hr => exact .inl ⟨hr.1.symm, by simpa [Clip.live, eq_comm] using hi⟩
    case isFalse => exact .inr hi
  refine ⟨fun r t i j hr ht hij => ?_, fun r i hr => ?_⟩
  · rcases hlive r i hr with ⟨rfl, rfl⟩ | hr' <;> rcases hlive t j ht with ⟨rfl, rfl⟩ | ht'
    · rfl
    · exact absurd hij.symm (hk t j ht')
    · exact absurd hij (hk r i hr')
    · exact h.once r t i j hr' ht' hij
  · rcases hlive r i hr with ⟨-, rfl⟩ | hr
    · exact hp
    · exact h.within r i hr

/-- A pose that the pose unit gives lies within the travel (R67). -/
theorem poseOf_within {s : State} {c : Context} {d : ItemData} {p : Pose} (h : poseOf s c d = .pose p) :
    p.tx ≤ travel s .x ∧ p.ty ≤ travel s .y := by
  unfold poseOf at h
  split at h
  · cases h
  · split at h
    · cases h
    · unfold poseOn at h
      dsimp only at h
      split at h
      · cases h
      · split at h
        case isFalse => cases h
        case isTrue hr =>
          cases h
          simp only [travel]
          omega

/-- The chain shifted by one position: what is live was live one position further (R35). -/
theorem ClipsOk.shift {s : State} (h : ClipsOk s) : ClipsOk (s.setChain s.chain.shift) := by
  have hlive : ∀ p i, (clipAt (s.setChain s.chain.shift) p).live = some i → (clipAt s (p + 1)).live = some i := by
    intro p i hi
    simp only [clipAt, State.setChain_chain, Chain.shift] at hi ⊢
    cases hc : s.chain.clips with
    | nil => simp [hc, Clip.live] at hi
    | cons c rest =>
      simp only [hc, List.getD_eq_getElem?_getD, List.getElem?_cons_succ] at hi ⊢
      by_cases hp : p < rest.length
      · rwa [List.getElem?_append_left hp] at hi
      · rw [List.getElem?_append_right (by omega)] at hi
        cases hq : p - rest.length with
        | zero => rw [hq] at hi; cases hpr : s.chain.purgeRequired <;> simp [hpr, Clip.live] at hi
        | succ n => simp [hq, Clip.live] at hi
  exact ⟨fun p r i j hp hr hij => by have := h.once _ _ i j (hlive p i hp) (hlive r j hr) hij; omega,
    fun p i hp => h.within _ i (hlive p i hp)⟩

namespace Steady

variable {q : Bool} {b s : State}

theorem cancelKeys (h : Steady q b s) (keys : List ItemKey) : Steady q b (cancelKeys s keys) := by
  refine of_jaw (of_clips h fun hk => ?_) fun b hb => ?_
  · exact hk.of_live rfl fun p i hi => cancelClips_live _ _ _ _ hi
  · split at hb
    · exact cancelJaw_itemBoard hb
    · exact hb

/-! ### Owing (R57, R58) -/

theorem oweOwn (h : Steady false b s) (slot i : Nat) : Steady false b (oweOwn s slot i) := by
  unfold Machine.oweOwn
  split
  · exact h
  · rename_i c hc
    split
    · exact h
    · rename_i d _
      split
      case isTrue hp =>
        have hon : c.Onward false ((c.modOwn i fun o => { o with state := .owed }).countOwed.joinOwnRun d) :=
          (((Context.Onward.modOwn_of_state c hp (by decide) fun _ => by simp).trans (.countOwed _)).trans
            (.joinOwnRun _ d))
        dsimp only
        split
        · exact (h.setSlot hc hon).joinUrgent _
        · exact ((h.setSlot hc hon).report _).joinUrgent _
      case isFalse => exact h

theorem dropAdopted (h : Steady q b s) (slot : Nat) (k : ItemKey) : Steady q b (dropAdopted s slot k) := by
  unfold Machine.dropAdopted
  split
  · exact h
  · rename_i c hc
    split
    · exact h
    · split
      · exact (h.setSlot hc (((Context.Onward.modAdopted c k (Adopted.moved_item _ _)
          (Adopted.moved_inserted (by decide) (by decide))).trans (.countOwed _)).trans (.setEntry _ k rfl))).joinUrgent _
      · exact h

theorem oweItem (h : Steady false b s) (slot : Nat) (k : ItemKey) (o : Origin) :
    Steady false b (oweItem s slot k o) := by
  unfold Machine.oweItem
  split
  · exact h.dropAdopted slot k
  · split
    · exact h.oweOwn slot _
    · exact h

theorem oweRetries (h : Steady false b s) (slot : Nat) (l : List ItemKey) : Steady false b (oweRetries slot l s) := by
  induction l generalizing s with
  | nil => exact h
  | cons k rest ih => exact ih (h.oweItem slot k _)

theorem oweOwns (h : Steady false b s) (slot : Nat) (l : List Nat) : Steady false b (oweOwns slot l s) := by
  induction l generalizing s with
  | nil => exact h
  | cons i rest ih => exact ih (h.oweOwn slot i)

theorem oweAdopteds (h : Steady false b s) (slot : Nat) (l : List ItemKey) :
    Steady false b (oweAdopteds slot l s) := by
  induction l generalizing s with
  | nil => exact h
  | cons k rest ih => exact ih (h.dropAdopted slot k)

theorem oweWaiting (h : Steady false b s) (slot : Nat) : Steady false b (oweWaiting s slot) := by
  unfold Machine.oweWaiting
  split
  · exact h
  · refine oweAdopteds (modCtx (oweOwns (oweRetries (modCtx h slot fun c _ => ?_) _ _) _ _) _ fun c _ => ?_) _ _
    · exact .of_eq rfl rfl id rfl rfl rfl rfl rfl (Nat.zero_le _)
    · exact .of_eq rfl rfl id rfl rfl rfl rfl rfl (Nat.le_refl _)

theorem planClose (h : Steady false b s) (slot : Nat) : Steady false b (planClose s slot) := by
  unfold Machine.planClose
  split
  · exact h
  · split
    · exact h
    · refine (h.modCtx slot fun c _ => ?_).oweWaiting slot
      exact .of_eq rfl rfl id rfl rfl rfl rfl rfl (Nat.le_refl _)

/-! ### Items handed back (R52 to R55) -/

theorem makePending (h : Steady q b s) (slot : Nat) (k : ItemKey) (o : Origin) (retries : Nat) :
    Steady q b (makePending s slot k o retries) := by
  unfold Machine.makePending
  split
  · exact h
  · rename_i c hc
    split
    · split
      · refine h.setSlot hc (.modOwn c _ fun x _ => ?_)
        split
        case isTrue hx => simp [hx]
        case isFalse => exact Iff.rfl
      · exact h
    · refine h.setSlot hc (.modAdopted c k (fun a => by split <;> rfl) fun a => ?_)
      split
      case isTrue ha => simp [ha]
      case isFalse => exact Iff.rfl

theorem queueRetry (h : Steady false b s) (slot : Nat) (k : ItemKey) (o : Origin) (place : Nat) :
    Steady false b (queueRetry s slot k o place) := by
  unfold Machine.queueRetry
  split
  · exact h
  · rename_i c hc
    split
    · exact h.oweItem slot k o
    · rename_i hn
      simp only [Config.retryMax, Bool.or_eq_true, decide_eq_true_eq, not_or, not_le] at hn
      exact h.setSlot hc (.joinRetry c place k hn.2)

theorem handReturned (h : Steady false b s) (slot : Nat) (k : ItemKey) (o : Origin) :
    Steady false b (handReturned s slot k o) := by
  unfold Machine.handReturned
  split
  · exact h
  · exact (h.makePending slot k o _).queueRetry slot k o _

theorem handCounted (h : Steady false b s) (slot : Nat) (k : ItemKey) (o : Origin) :
    Steady false b (handCounted s slot k o) := by
  unfold Machine.handCounted
  split
  · exact h
  · split
    · exact (h.makePending slot k o _).oweItem slot k o
    · exact (h.makePending slot k o _).queueRetry slot k o _

theorem handReverted (h : Steady false b s) (l : List ClipItem) (front : List Nat) :
    Steady false b (handReverted s l front) := by
  induction l generalizing s front with
  | nil => exact h
  | cons i rest ih =>
    unfold Machine.handReverted
    split
    · exact ih h _
    · exact ih ((h.makePending _ _ _ _).queueRetry _ _ _ _) _

/-! ### The plan pass (R43 to R51) -/

theorem planningBoard (h : Steady q b s) (l : List Nat) : Steady q b (planningBoard s l).1 := by
  induction l generalizing s with
  | nil => exact h
  | cons i rest ih =>
    unfold Machine.planningBoard
    split
    · exact ih h
    · rename_i c hc
      have h1 : Steady q b (if openForPlan s c then Machine.setSlot s i (some c.walk) else s) := by
        split
        · exact h.setSlot hc (.walk c)
        · exact h
      dsimp only
      split
      · exact h1
      · exact ih h1

theorem closeAhead (h : Steady false b s) (slot : Nat) (l : List Nat) : Steady false b (closeAhead slot l s) := by
  induction l generalizing s with
  | nil => exact h
  | cons i rest ih =>
    unfold Machine.closeAhead
    split
    · exact h
    · exact ih (h.planClose i)

theorem enterBoard (h : Steady false b s) (slot : Nat) : Steady false b (enterBoard s slot) := by
  unfold Machine.enterBoard
  split
  · exact h
  · split
    · exact h
    · refine (h.modCtx slot fun c _ => ?_).closeAhead slot _
      exact .of_eq rfl rfl id rfl rfl rfl rfl rfl (Nat.le_refl _)

theorem takenFrom (h : Steady q b s) (slot : Nat) (src : TakenFrom) :
    Steady q b (Machine.modCtx s slot (·.taken src)) :=
  h.modCtx slot fun c _ => .taken c src

/-- An item that no live clip holds is assigned to a clip with a pose within the travel (R34, R50, R67). -/
theorem assign (h : Steady q b s) (slot d : Nat) (x : ItemData) (o : Origin) {pose : Pose}
    (hp : pose.tx ≤ travel s .x ∧ pose.ty ≤ travel s .y) : Steady q b (assign s slot d x o pose) := by
  unfold Machine.assign
  dsimp only
  split
  case isFalse => exact h
  case isTrue hcond =>
    obtain ⟨-, hkey⟩ := hcond
    have h1 : Steady q b (Machine.setClip s (dispAt s d).position
        (.planned { key := x.key, board := slot, disp := d, pose := pose, origin := o })) :=
      h.of_clips fun hk => hk.assigned (fun _ _ hi => key_ne_of_not_keyLive (by simpa using hkey) hi) hp
    split
    · rename_i c hc
      exact h1.setSlot hc (.intoChain c _ _ o)
    · exact h1

theorem planItem (h : Steady false b s) (p : Pass) (slot : Nat) (x : ItemData) (o : Origin) (src : TakenFrom) :
    Steady false b (planItem s p slot x o src).1 := by
  unfold Machine.planItem
  dsimp only
  split
  · rename_i pose hpose
    obtain ⟨c, -, hpose⟩ := Option.map_eq_some_iff.mp hpose
    split
    · exact (h.takenFrom slot src).assign slot _ x o (poseOf_within hpose)
    · split
      · exact h
      · exact (h.takenFrom slot src).oweItem slot _ o
  · exact (h.takenFrom slot src).oweItem slot _ o

theorem planLoop (h : Steady false b s) (fuel : Nat) (p : Pass) : Steady false b (planLoop fuel s p).1 := by
  induction fuel generalizing s p with
  | zero => exact h
  | succ n ih =>
    have h1 := h.planningBoard (lineOrder s)
    unfold Machine.planLoop
    split
    · rename_i s1 hs; rw [hs] at h1; exact h1
    · rename_i s1 slot hs
      rw [hs] at h1
      have h2 := h1.enterBoard slot
      dsimp only
      split
      · exact h2
      · rename_i x o src _
        have h3 := h2.planItem p slot x o src
        split
        · rename_i s3 p' cause hc; rw [hc] at h3; exact h3
        · rename_i s3 p' hc; rw [hc] at h3; exact ih h3 p'

theorem planPass (h : Steady false b s) : Steady false b (planPass s) := by
  have h1 := h.planLoop passFuel { frontier := frontier s, assignments := 0, owed := 0, groups := [] }
  unfold Machine.planPass
  split
  rename_i hl
  rw [hl] at h1
  exact h1.setPlanner _

/-! ### Counts and faults (R30, R31, R124) -/

theorem countEjected (h : Steady q b s) (board : Option Nat) : Steady q b (countEjected s board) := by
  unfold Machine.countEjected
  split
  · refine h.modCtx _ fun c _ => ?_
    exact .of_eq rfl rfl id rfl rfl rfl rfl rfl (Nat.le_refl _)
  · exact h

theorem countSuspect (h : Steady q b s) (board : Option Nat) : Steady q b (countSuspect s board) := by
  unfold Machine.countSuspect
  split
  · refine h.modCtx _ fun c _ => ?_
    exact .of_eq rfl rfl id rfl rfl rfl rfl rfl (Nat.le_refl _)
  · exact h

theorem countFault (h : Steady q b s) (d : Nat) : Steady q b (countFault s d) := by
  have h1 : Steady q b (countDispenser s d) := by
    unfold countDispenser
    dsimp only
    split
    · exact (h.modDisp d _).enterAlarm _ _
    · exact h.modDisp d _
  unfold Machine.countFault countGroup
  dsimp only
  split
  · exact (h1.modGroup _ _).enterAlarm _ _
  · exact h1.modGroup _ _

/-! ### Drops and verification (R27 to R29, R36 to R39) -/

theorem fireClips (h : Steady q b s) (l : List (Nat × ClipItem)) : Steady q b (fireClips l s).1 := by
  induction l generalizing s with
  | nil => exact h
  | cons x rest ih =>
    unfold Machine.fireClips
    split
    · exact ih (h.modDisp _ _)
    · exact ih (h.setClip_dead _ rfl)

theorem dropWork (h : Steady false b s) : Steady false b (dropWork s) := by
  have h1 := h.fireClips (plannedClips s.chain.clips 0)
  unfold Machine.dropWork
  split
  rename_i hl
  rw [hl] at h1
  exact h1.handReverted _ _

theorem endDrop (h : Steady q b s) (pos d : Nat) : Steady q b (endDrop s pos d) := h.modDisp _ _

theorem missDrop (h : Steady false b s) (pos d : Nat) : Steady false b (missDrop s pos d) := by
  unfold Machine.missDrop
  dsimp only
  refine enterAlarm (countFault ?_ d) _ _
  split
  · exact ((h.endDrop pos d).setClip_dead pos rfl).handCounted _ _ _
  · exact (h.endDrop pos d).setClip_dead pos rfl
  · exact h.endDrop pos d

theorem missDrops (h : Steady false b s) : Steady false b (missDrops s) := h.foldl (fun _ x hs => hs.missDrop x.1 x.2) _

theorem abandonDrop (h : Steady false b s) (pos d : Nat) : Steady false b (abandonDrop s pos d) := by
  unfold Machine.abandonDrop
  dsimp only
  split
  · exact ((h.endDrop pos d).setClip_dead pos rfl).handReturned _ _ _
  · exact (h.endDrop pos d).setClip_dead pos rfl
  · exact h.endDrop pos d

theorem abandonDrops (h : Steady false b s) : Steady false b (abandonDrops s) :=
  ((h.foldl (fun _ x hs => hs.abandonDrop x.1 x.2) _).foldl (fun _ x hs => hs.setClip_dead x.1 rfl) _).handReverted _ _

theorem clearFaults (h : Steady q b s) (d : Nat) : Steady q b (clearFaults s d) := h.modDisp _ _

theorem confirmDrop (h : Steady q b s) (pos d : Nat) : Steady q b (confirmDrop s pos d) := by
  unfold Machine.confirmDrop
  dsimp only
  have h1 := h.modDisp d fun r => { r.dropped with outstanding := none }
  split
  · rename_i i hi
    have hlive : (clipAt (Machine.modDisp s d fun r => { r.dropped with outstanding := none }) pos).live = some i :=
      congrArg Clip.live hi
    split
    · exact h1.setClip fun _ hj => hj ▸ hlive
    · exact (h1.setClip fun _ hj => hj ▸ hlive).clearFaults d
  · exact h1

theorem lateConfirm (h : Steady q b s) (pos d : Nat) : Steady q b (lateConfirm s pos d) := by
  unfold Machine.lateConfirm
  dsimp only
  split
  · exact (h.modDisp _ _).setClip_dead pos rfl
  · exact h.modDisp _ _

/-- The clip accepted is live with the item it is accepted for. -/
theorem acceptClip (h : Steady q b s) {pos : Nat} {i : ClipItem} (hi : (clipAt s pos).live = some i) (flip : Bool) :
    Steady q b (acceptClip s pos i flip) :=
  (h.setClip fun _ hj => hj ▸ hi).clearFaults _

theorem rejectClip (h : Steady false b s) (pos : Nat) (i : ClipItem) : Steady false b (rejectClip s pos i) :=
  (h.setClip_dead pos rfl).handCounted _ _ _

theorem clearMeasurement (h : Steady q b s) : Steady q b (clearMeasurement s) := h.setChain rfl

theorem measured_live {m : Measurement} {i : ClipItem} (h : measured s m = some i) :
    (clipAt s m.position).live = some i := by
  unfold measured at h
  split at h
  case h_1 j hj =>
    split at h
    · cases h; rw [hj]; rfl
    · cases h
  case h_2 => cases h

theorem verifyMissing (h : Steady false b s) (m : Measurement) : Steady false b (verifyMissing s m) := by
  unfold Machine.verifyMissing
  dsimp only
  split
  · exact (h.clearMeasurement.rejectClip _ _).enterAlarm _ _
  · exact h.clearMeasurement

theorem beginMeasurement (h : Steady q b s) {pos : Nat} {i : ClipItem} (hi : (clipAt s pos).live = some i) :
    Steady q b (beginMeasurement s pos i) := by
  unfold Machine.beginMeasurement
  dsimp only
  split
  · exact h.acceptClip hi _
  · exact h.setChain rfl

theorem verifyWork (h : Steady false b s) : Steady false b (verifyWork s) := by
  have hbegin : ∀ {s1 : State}, Steady false b s1 → Steady false b
      (match clipAt s1 (cfg s).verifyPos with
       | .loaded i => Machine.beginMeasurement s1 (cfg s).verifyPos i
       | _ => s1) := fun h1 => by
    split
    · rename_i i hi
      exact h1.beginMeasurement (congrArg Clip.live hi)
    · exact h1
  unfold Machine.verifyWork
  split
  · cases s.chain.measurement with
    | none => exact hbegin h
    | some m => exact hbegin (h.verifyMissing m)
  · exact h

theorem applyResult (h : Steady false b s) (m : Measurement) (r : VerifyResult) : Steady false b (applyResult s m r) := by
  unfold Machine.applyResult
  dsimp only
  split
  · exact h.clearMeasurement
  · rename_i i hi
    split
    · exact h.clearMeasurement.acceptClip (measured_live hi) _
    · exact ((h.clearMeasurement.rejectClip _ _).countFault _).enterAlarm _ _

/-! ### The chain advance (R35) and the chain made unknown (R42) -/

theorem shiftChain (h : Steady q b s) : Steady q b (shiftChain s) := by
  refine setDisp (of_clips h fun hk => hk.shift) _

theorem chainAdvance (h : Steady false b s) : Steady false b (chainAdvance s) := by
  unfold Machine.chainAdvance
  dsimp only
  split
  · exact h.shiftChain.planPass
  · exact h.shiftChain

theorem makeUnknown (h : Steady q b s) : Steady q b (makeUnknown s) := by
  refine setJam (setDisp (of_clips h fun hk => ?_) _) Iff.rfl
  exact hk.map (fun _ => .unknown) (fun _ _ hi => by cases hi) rfl

theorem stallChain (h : Steady false b s) : Steady false b (stallChain s) :=
  h.makeUnknown.foldl (fun _ _ hs => hs.handReturned _ _ _) _

end Steady
end Sys2Proof.Machine
end

section
/-! SUPPORT. The table drive, the stroke controller, a STOP alarm and the end of a command keep the laws of the chapters
(`Steady`). -/

namespace Sys2Proof.Machine

/-! ### Motions within the travel (R79) -/

/-- A motion within the travel, its targets and its axes apart (R79). -/
theorem Motion.fits_iff {s : State} {m : Motion} : m.fits s = true ↔
    (m.tx ≤ travel s .x ∧ m.ty ≤ travel s .y) ∧ ∀ ax, (m.axis ax).fits (s.table.counter ax) (travel s ax) = true := by
  have haxes : (∀ ax, (m.axis ax).fits (s.table.counter ax) (travel s ax) = true) ↔
      m.x.fits s.table.x (travel s .x) = true ∧ m.y.fits s.table.y (travel s .y) = true :=
    ⟨fun h => ⟨h .x, h .y⟩, fun h ax => by cases ax; exacts [h.1, h.2]⟩
  simp only [Motion.fits, Bool.and_eq_true, decide_eq_true_eq, haxes, and_assoc]

theorem axisMotion_fits (rs : List Nat) {cur target limit : Nat} (h : target ≤ limit) :
    (axisMotion rs cur target).fits cur limit = true := by
  unfold axisMotion distance
  dsimp only
  split
  · rfl
  · simp only [AxisMotion.fits, Bool.or_eq_true, Bool.not_eq_true', decide_eq_false_iff_not, decide_eq_true_eq]
    omega

theorem freshMotion_fits {s : State} {tx ty : Nat} (hx : tx ≤ travel s .x) (hy : ty ≤ travel s .y) :
    (freshMotion s tx ty).fits s = true :=
  Motion.fits_iff.mpr ⟨⟨hx, hy⟩, fun ax => by cases ax; exacts [axisMotion_fits _ hx, axisMotion_fits _ hy]⟩

/-- The braking of an axis shortens what it still issues (R84). -/
theorem AxisMotion.brake_fits (rs : List Nat) {cur limit : Nat} {v : AxisMotion} (h : v.fits cur limit = true) :
    (v.brake rs).fits cur limit = true := by
  cases v with
  | profile up n k left =>
    unfold AxisMotion.brake
    dsimp only
    split
    · exact h
    · simp only [AxisMotion.fits, Bool.or_eq_true, Bool.not_eq_true', decide_eq_true_eq] at h ⊢
      rcases h with h | h
      · exact .inl h
      · right; omega
  | _ => exact h

theorem Motion.brake_fits {s : State} {m : Motion} (h : m.fits s = true) : (m.brake s).fits s = true := by
  obtain ⟨ht, ha⟩ := Motion.fits_iff.mp h
  refine Motion.fits_iff.mpr ⟨ht, fun ax => ?_⟩
  cases ax
  · exact AxisMotion.brake_fits _ (ha .x)
  · exact AxisMotion.brake_fits _ (ha .y)

/-- A step that an axis issues stays within the travel, and so does what it still issues (R79, R80, R84). -/
theorem AxisMotion.next_fits (rs : List Nat) {cur limit : Nat} {v : AxisMotion} (h : v.fits cur limit = true)
    (hc : cur ≤ limit) (hd : v.isDone = false) :
    stepped v.up cur ≤ limit ∧ (v.next rs).fits (stepped v.up cur) limit = true := by
  cases v with
  | done up n t => cases hd
  | profile up n k left =>
    cases up with
    | false =>
      refine ⟨by simp only [stepped, AxisMotion.up, Bool.false_eq_true, if_false]; omega, ?_⟩
      unfold AxisMotion.next
      dsimp only
      split <;> rfl
    | true =>
      simp only [AxisMotion.fits, Bool.not_true, Bool.false_or, decide_eq_true_eq] at h
      simp only [stepped, AxisMotion.up, if_true]
      refine ⟨by omega, ?_⟩
      unfold AxisMotion.next
      dsimp only
      split
      · rfl
      · simp only [AxisMotion.fits, Bool.not_true, Bool.false_or, decide_eq_true_eq]; omega
  | stopping up n t j left =>
    cases up with
    | false =>
      refine ⟨by simp only [stepped, AxisMotion.up, Bool.false_eq_true, if_false]; omega, ?_⟩
      unfold AxisMotion.next
      dsimp only
      split <;> rfl
    | true =>
      simp only [AxisMotion.fits, Bool.not_true, Bool.false_or, decide_eq_true_eq] at h
      simp only [stepped, AxisMotion.up, if_true]
      refine ⟨by omega, ?_⟩
      unfold AxisMotion.next
      dsimp only
      split
      · rfl
      · simp only [AxisMotion.fits, Bool.not_true, Bool.false_or, decide_eq_true_eq]; omega

/-- The MOVE or JOG in progress within the travel. -/
theorem TableOk.motion {s : State} (h : TableOk s) {m : Motion} (hm : s.table.op.motion = some m) :
    m.fits s = true := by
  have ho := h.operation
  cases hop : s.table.op with
  | none => simp [hop, Operation.motion] at hm
  | home r => simp [hop, Operation.motion] at hm
  | move k n => simp only [hop, Operation.motion, Option.some.injEq] at hm; subst hm; rwa [hop] at ho
  | jog ax c n => simp only [hop, Operation.motion, Option.some.injEq] at hm; subst hm; rwa [hop] at ho

theorem Operation.withMotion_none (m : Motion) (op : Operation) : op.withMotion m = .none ↔ op = .none := by
  cases op <;> simp [Operation.withMotion]

theorem Operation.withMotion_fits {s : State} {m : Motion} {op : Operation} (h : m.fits s = true)
    (ho : op.fits s = true) : (op.withMotion m).fits s = true := by
  cases op <;> assumption

theorem Operation.withMotion_fits_of_motion {s : State} {m n : Motion} {op : Operation} (hop : op.motion = some n)
    (h : m.fits s = true) : (op.withMotion m).fits s = true := by
  cases op with
  | none => cases hop
  | home r => cases hop
  | move k v => exact h
  | jog ax c v => exact h

/-- Another operation within the travel, none UNCONFIGURED. -/
theorem TableOk.withOp {s : State} (h : TableOk s) {op : Operation} (hf : op.fits s = true)
    (hi : s.jam.run = .unconfigured → op = .none) : TableOk (setOp s op) where
  counters := h.counters
  operation := (Operation.fits_congr (s := s) (t := setOp s op) op rfl rfl rfl).trans hf
  idle := hi
  travels := h.travels

theorem TableOk.withMotion {s : State} (h : TableOk s) {m : Motion} (hm : m.fits s = true) :
    TableOk (setOp s (s.table.op.withMotion m)) :=
  h.withOp (Operation.withMotion_fits hm h.operation) fun hr => (Operation.withMotion_none m _).mpr (h.idle hr)

theorem Motion.axis_setAxis (m : Motion) (ax : Axis) (v : AxisMotion) : (m.setAxis ax v).axis ax = v := by cases ax <;> rfl

theorem Motion.axis_setAxis_other (m : Motion) {ax other : Axis} (h : other ≠ ax) (v : AxisMotion) :
    (m.setAxis ax v).axis other = m.axis other := by
  cases ax <;> cases other
  exacts [absurd rfl h, rfl, rfl, absurd rfl h]

/-- A step of an axis that has an interval running (R79, R80). -/
theorem TableOk.stepped {s t : State} (h : TableOk s) {ax : Axis} {m : Motion} (hm : s.table.op.motion = some m)
    (hd : (m.axis ax).isDone = false)
    (hc : t.table.counter = (s.table.setCounter ax (stepped (m.axis ax).up (s.table.counter ax))).counter)
    (ho : t.table.op = s.table.op.withMotion (m.setAxis ax ((m.axis ax).next (ratesOf s ax))))
    (hs : t.console.setup = s.console.setup) (hr : t.jam.run = s.jam.run) : TableOk t := by
  obtain ⟨htarget, haxes⟩ := Motion.fits_iff.mp (h.motion hm)
  obtain ⟨hcount, hnext⟩ := AxisMotion.next_fits (ratesOf s ax) (haxes ax) (h.counters ax) hd
  refine ⟨fun a => ?_, ?_, fun hu => ?_, fun hu => ?_⟩
  · rw [hc, travel_congr hs]
    by_cases ha : a = ax
    · subst ha; rw [Table.counter_setCounter_same]; exact hcount
    · rw [Table.counter_setCounter_other _ ha]; exact h.counters a
  · rw [ho]
    refine Operation.withMotion_fits_of_motion hm (Motion.fits_iff.mpr ⟨?_, fun a => ?_⟩)
    · rw [travel_congr hs]; cases ax <;> exact htarget
    · rw [hc, travel_congr hs]
      by_cases ha : a = ax
      · subst ha; rw [Table.counter_setCounter_same, Motion.axis_setAxis]; exact hnext
      · rw [Table.counter_setCounter_other _ ha, Motion.axis_setAxis_other _ ha]; exact haxes a
  · rw [ho]; exact (Operation.withMotion_none _ _).mpr (h.idle (hr ▸ hu))
  · rw [travel_congr hs]; exact h.travels (hr ▸ hu)

/-- The direction outputs do not enter the law. -/
theorem TableOk.directed {s : State} {t : Table} (m : Motion) (h : TableOk (s.setTable t)) :
    TableOk (s.setTable (m.direct t)) := by
  obtain ⟨hx, hy, -, -, -, ho⟩ := Motion.direct_counters m t
  exact h.congr hx hy ho rfl Iff.rfl

namespace Steady

variable {q : Bool} {b s : State}

theorem setPositioning (h : Steady q b s) (r : Option Positioning) : Steady q b (setPositioning s r) := h.setPose _
theorem setLast (h : Steady q b s) (l : LastPose) : Steady q b (setLast s l) := h.setPose _

/-- A change of the table drive that keeps its law. -/
theorem setTable (h : Steady q b s) {v : Table} (hv : ClipsOk s → TableOk s → TableOk (s.setTable v)) :
    Steady q b (s.setTable v) :=
  h.of_table rfl Iff.rfl rfl rfl rfl id hv

/-- A change of the table drive that leaves its counters and its operation. -/
theorem setTable_eq (h : Steady q b s) {v : Table} (hx : v.x = s.table.x) (hy : v.y = s.table.y)
    (ho : v.op = s.table.op) : Steady q b (s.setTable v) :=
  h.of_eq rfl Iff.rfl rfl rfl rfl hx hy ho id

theorem setOp (h : Steady q b s) {op : Operation} (hv : ClipsOk s → TableOk s → TableOk (setOp s op)) :
    Steady q b (setOp s op) :=
  h.setTable hv

theorem endOp (h : Steady q b s) : Steady q b (Machine.setOp s .none) :=
  h.setOp fun _ ht => ht.withOp rfl fun _ => rfl

/-! ### Table -/

theorem rePredict (h : Steady q b s) (k : ItemKey) : Steady q b (rePredict s k) := by
  unfold Machine.rePredict
  split
  · split
    · split
      · exact h.setPositioning _
      · exact h
    · exact h
  · exact h

theorem rePredictJog (h : Steady q b s) (ax : Axis) (target : Nat) : Steady q b (rePredictJog s ax target) := by
  unfold Machine.rePredictJog
  split
  · exact h.setPositioning _
  · exact h

theorem endJog (h : Steady q b s) (ax : Axis) (m : Motion) (o : JogOutcome) : Steady q b (endJog s ax m o) :=
  (h.endOp.setPositioning _).report _

theorem completeMotion (h : Steady q b s) : Steady q b (completeMotion s) := by
  unfold Machine.completeMotion
  split
  · exact h.endOp.setLast _
  · dsimp only
    split
    · exact (h.setLast _).endJog _ _ _
    · exact h.endJog _ _ _
  · exact h
  · exact h

theorem endMotion (h : Steady q b s) (o : JogOutcome) : Steady q b (endMotion s o) := by
  unfold Machine.endMotion
  split
  · exact h.endJog _ _ _
  · exact h.endOp
  · exact h
  · exact h.endOp

theorem runFresh (h : Steady q b s) : Steady q b (runFresh s) := by
  have hfresh : ∀ {m : Motion} (v : Motion), TableOk s → s.table.op.motion = some m →
      TableOk (s.setTable (v.direct { s.table with op := s.table.op.withMotion (freshMotion s m.tx m.ty) })) :=
    fun v ht hm => by
      obtain ⟨⟨hx, hy⟩, -⟩ := Motion.fits_iff.mp (ht.motion hm)
      exact (ht.withMotion (freshMotion_fits hx hy)).directed v
  unfold Machine.runFresh
  split
  · rename_i k m hop
    refine (h.setTable fun _ ht => ?_).rePredict k
    have := hfresh (freshMotion s m.tx m.ty) ht (m := m) (by rw [hop]; rfl)
    rwa [hop] at this
  · rename_i ax c m hop
    refine (h.setTable fun _ ht => ?_).rePredictJog ax _
    have := hfresh (freshMotion s m.tx m.ty) ht (m := m) (by rw [hop]; rfl)
    rwa [hop] at this
  · exact h
  · exact h

/-- The motion of the operation in progress replaced by one within the travel when it is. -/
theorem setMotion (h : Steady q b s) {m v : Motion} (hm : s.table.op.motion = some m)
    (hv : m.fits s = true → v.fits s = true) : Steady q b (Machine.setOp s (s.table.op.withMotion v)) :=
  h.setOp fun _ ht => ht.withMotion (hv (ht.motion hm))

theorem axesStand (h : Steady q b s) : Steady q b (axesStand s) := by
  unfold Machine.axesStand
  split
  · exact h
  · rename_i m hm
    split
    · exact h.endMotion _
    · split
      · split
        · exact h.completeMotion
        · exact h.setMotion hm id
      · split
        · exact h.setMotion hm id
        · exact h.runFresh

theorem testStand (h : Steady q b s) : Steady q b (testStand s) := by
  unfold Machine.testStand
  split
  · split
    · exact h.axesStand
    · exact h
  · exact h

theorem guardTable (h : Steady q b s) : Steady q b (guardTable s) := by
  unfold Machine.guardTable
  split
  · rename_i m hm
    split
    · exact h.setMotion hm Motion.brake_fits
    · exact h
  · exact h

theorem haltTable (h : Steady q b s) (slip : Bool) : Steady q b (haltTable s slip) := by
  unfold Machine.haltTable
  split
  · exact h.endMotion _
  · split
    · rename_i m hm
      split
      · exact h.setMotion hm fun hf => Motion.brake_fits hf
      · exact h.setMotion hm id
      all_goals exact h.endMotion _
    · exact h.endMotion _

/-- A step of an axis that has an interval running (R79, R80). -/
theorem stepMotion (h : Steady q b s) {ax : Axis} {m : Motion} (hm : s.table.op.motion = some m)
    (hd : (m.axis ax).isDone = false) : Steady q b (stepMotion s ax m) := by
  unfold Machine.stepMotion
  dsimp only
  exact testStand (of_table h rfl Iff.rfl rfl rfl rfl id fun _ ht => ht.stepped hm hd rfl rfl rfl rfl)

end Steady
end Sys2Proof.Machine
end

section
/-! SUPPORT. HOME, the stroke controller, a STOP alarm and the end of a command keep the laws of the chapters (`Steady`). -/

namespace Sys2Proof.Machine

/-! ### Counters that fall (R90) -/

/-- The motion of an axis fits a counter that fell. -/
theorem AxisMotion.fits_of_le {cur cur' limit : Nat} {v : AxisMotion} (h : v.fits cur limit = true) (hle : cur' ≤ cur) :
    v.fits cur' limit = true := by
  cases v with
  | done up n t => rfl
  | profile up n k left =>
    simp only [AxisMotion.fits, Bool.or_eq_true, decide_eq_true_eq] at h ⊢
    exact h.imp_right fun h => by omega
  | stopping up n t j left =>
    simp only [AxisMotion.fits, Bool.or_eq_true, decide_eq_true_eq] at h ⊢
    exact h.imp_right fun h => by omega

theorem HomeAxis.fits_of_le {cur cur' limit : Nat} {v : HomeAxis} (h : v.fits cur limit = true) (hle : cur' ≤ cur) :
    v.fits cur' limit = true := by
  simp only [HomeAxis.fits, Bool.or_eq_true, decide_eq_true_eq] at h ⊢
  exact h.imp_right fun h => by omega

/-- A HOME fits the travel when each of its axes does. -/
theorem Operation.home_fits {s : State} {r : HomeRun} : (Operation.home r).fits s = true ↔
    ∀ ax, (r.axis ax).fits (s.table.counter ax) (travel s ax) = true := by
  rw [Operation.fits, Bool.and_eq_true]
  exact ⟨fun h ax => by cases ax; exacts [h.1, h.2], fun h => ⟨h .x, h .y⟩⟩

/-- The law of the table with the same operation and counters no greater. -/
theorem TableOk.lower {s t : State} (h : TableOk s) (hc : ∀ ax, t.table.counter ax ≤ s.table.counter ax)
    (ho : t.table.op = s.table.op) (hs : t.console.setup = s.console.setup) (hr : t.jam.run = s.jam.run) : TableOk t := by
  have htravel : travel t = travel s := travel_congr hs
  have hmotion : ∀ {m : Motion}, m.fits s = true → m.fits t = true := fun hm => by
    obtain ⟨htarget, haxes⟩ := Motion.fits_iff.mp hm
    exact Motion.fits_iff.mpr ⟨htravel ▸ htarget, fun ax => htravel ▸ AxisMotion.fits_of_le (haxes ax) (hc ax)⟩
  refine ⟨fun ax => htravel ▸ (hc ax).trans (h.counters ax), ?_, fun hu => ho.trans (h.idle (hr ▸ hu)),
    fun hu => htravel ▸ h.travels (hr ▸ hu)⟩
  have hop := h.operation
  rw [ho]
  cases hk : s.table.op with
  | none => rfl
  | move k m => rw [hk] at hop; exact hmotion hop
  | jog ax c m => rw [hk] at hop; exact hmotion hop
  | home r =>
    rw [hk] at hop
    exact Operation.home_fits.mpr fun ax => htravel ▸ HomeAxis.fits_of_le (Operation.home_fits.mp hop ax) (hc ax)

/-- A station with an operation in progress has a travel. -/
theorem TableOk.travels_of_op {s : State} (h : TableOk s) (hop : s.table.op ≠ .none) (ax : Axis) : 1 ≤ travel s ax :=
  h.travels (fun hu => hop (h.idle hu)) ax

theorem HomeRun.axis_setAxis_other (h : HomeRun) {ax other : Axis} (hne : other ≠ ax) (v : HomeAxis) :
    (h.setAxis ax v).axis other = h.axis other := by
  cases ax <;> cases other
  exacts [absurd rfl hne, rfl, rfl, absurd rfl hne]

/-- A HOME in progress with other axis records, each within the travel. -/
theorem TableOk.withHome {s : State} (h : TableOk s) {r r' : HomeRun} (hop : s.table.op = .home r)
    (hf : ∀ ax, (r'.axis ax).fits (s.table.counter ax) (travel s ax) = true) : TableOk (setOp s (.home r')) :=
  h.withOp (Operation.home_fits.mpr hf) fun hu => by rw [h.idle hu] at hop; cases hop

theorem TableOk.homeAxes {s : State} (h : TableOk s) {r : HomeRun} (hop : s.table.op = .home r) (ax : Axis) :
    (r.axis ax).fits (s.table.counter ax) (travel s ax) = true :=
  Operation.home_fits.mp (hop ▸ h.operation) ax

/-- A counted step of an axis in the search phase of HOME, which goes on only below the travel (R90). -/
theorem TableOk.searched {s t : State} (h : TableOk s) {r : HomeRun} {ax : Axis} {v : HomeAxis}
    (hop : s.table.op = .home r) (hp : (r.axis ax).phase = .search)
    (hv : v.phase = .search → s.table.counter ax + 1 + 1 ≤ travel s ax)
    (hc : t.table.counter = (s.table.setCounter ax (s.table.counter ax + 1)).counter)
    (ho : t.table.op = .home (r.setAxis ax v)) (hs : t.console.setup = s.console.setup) (hr : t.jam.run = s.jam.run) :
    TableOk t := by
  have htravel : travel t = travel s := travel_congr hs
  have hbelow : s.table.counter ax + 1 ≤ travel s ax := by simpa [HomeAxis.fits, hp] using h.homeAxes hop ax
  have hsame : t.table.counter ax = s.table.counter ax + 1 := hc ▸ Table.counter_setCounter_same _ _ _
  have hother : ∀ a, a ≠ ax → t.table.counter a = s.table.counter a := fun a ha =>
    hc ▸ Table.counter_setCounter_other _ ha _
  refine ⟨fun a => ?_, ?_, fun hu => ?_, fun hu => htravel ▸ h.travels (hr ▸ hu)⟩
  · rw [htravel]
    by_cases ha : a = ax
    · rw [ha, hsame]; exact hbelow
    · rw [hother a ha]; exact h.counters a
  · rw [ho]
    refine Operation.home_fits.mpr fun a => ?_
    rw [htravel]
    by_cases ha : a = ax
    · rw [ha, hsame, HomeRun.axis_setAxis, HomeAxis.fits, Bool.or_eq_true, decide_eq_true_eq, bne_iff_ne]
      exact (em (v.phase = .search)).symm.imp_right hv
    · rw [hother a ha, HomeRun.axis_setAxis_other _ ha]; exact h.homeAxes hop a
  · rw [h.idle (hr ▸ hu)] at hop; cases hop

namespace Steady

variable {q : Bool} {b s : State}

/-- A change of the table drive in which no counter rises and the operation stays. -/
theorem lowerTable (h : Steady q b s) {v : Table} (hc : ∀ ax, v.counter ax ≤ s.table.counter ax)
    (ho : v.op = s.table.op) : Steady q b (s.setTable v) :=
  h.setTable fun _ ht => ht.lower hc ho rfl rfl

/-- The HOME in progress with other axis records, each within the travel when those before are. -/
theorem setHome (h : Steady q b s) {r r' : HomeRun} (hop : s.table.op = .home r)
    (hf : TableOk s → ∀ ax, (r'.axis ax).fits (s.table.counter ax) (travel s ax) = true) :
    Steady q b (Machine.setOp s (.home r')) :=
  h.setOp fun _ ht => ht.withHome hop (hf ht)

/-! ### Actuators -/

theorem takeValue (h : Steady q b s) (a : Actuator) (v : Nat) : Steady q b (takeValue s a v) := by
  unfold Machine.takeValue
  split
  · exact h.setLast _
  · exact h

theorem settleActuator (h : Steady q b s) (a : Actuator) (v : Nat) : Steady q b (settleActuator s a v) :=
  (h.setActuator a _).takeValue a v

/-! ### HOME (R89 to R91) -/

theorem setHomeAxis (h : Steady q b s) (ax : Axis) {v : HomeAxis}
    (hv : v.phase = .search → s.table.op ≠ .none → TableOk s → s.table.counter ax + 1 ≤ travel s ax) :
    Steady q b (setHomeAxis s ax v) := by
  unfold Machine.setHomeAxis
  split
  case h_1 r hop =>
    refine h.setHome hop fun ht a => ?_
    by_cases ha : a = ax
    · subst ha
      rw [HomeRun.axis_setAxis, HomeAxis.fits, Bool.or_eq_true, decide_eq_true_eq, bne_iff_ne]
      by_cases hp : v.phase = .search
      · exact .inr (hv hp (by rw [hop]; nofun) ht)
      · exact .inl hp
    · rw [HomeRun.axis_setAxis_other _ ha]
      exact ht.homeAxes hop a
  case h_2 => exact h

theorem homeZero (h : Steady q b s) (ax : Axis) : Steady q b (homeZero s ax) := by
  have hzero : ∀ a, (s.table.setCounter ax 0).counter a ≤ s.table.counter a := fun a => by
    by_cases ha : a = ax
    · subst ha; rw [Table.counter_setCounter_same]; exact Nat.zero_le _
    · rw [Table.counter_setCounter_other _ ha]
  have hop : (s.table.setCounter ax 0).op = s.table.op := by cases ax <;> rfl
  have h1 : Steady q b (s.setTable (s.table.setCounter ax 0)) := h.lowerTable hzero hop
  unfold Machine.homeZero
  dsimp only
  split
  · exact (h1.setTable_eq (by cases ax <;> rfl) (by cases ax <;> rfl) (by cases ax <;> rfl)).setHomeAxis ax nofun
  · refine (h1.setTable_eq (v := (s.table.setCounter ax 0).setDir ax true) (by cases ax <;> rfl) (by cases ax <;> rfl)
      (by cases ax <;> rfl)).setHomeAxis ax fun _ hne ht => ?_
    have hcount : ((s.table.setCounter ax 0).setDir ax true).counter ax = 0 := by cases ax <;> rfl
    exact (Nat.add_le_add_right hcount.le 1).trans (ht.travels_of_op hne ax)

theorem homeApproach (h : Steady q b s) (ax : Axis) : Steady q b (homeApproach s ax) := by
  unfold Machine.homeApproach
  split
  · exact h.homeZero ax
  · exact (h.setTable_eq (by cases ax <;> rfl) (by cases ax <;> rfl) (by cases ax <;> rfl)).setHomeAxis ax nofun

theorem markHome (h : Steady q b s) (a : Actuator) : Steady q b (markHome s a) := by
  unfold Machine.markHome
  split
  case h_1 r hop =>
    refine h.setHome hop fun ht ax => ?_
    have haxis : (r.setDone a true).axis ax = r.axis ax := by cases a <;> rfl
    exact haxis ▸ ht.homeAxes hop ax
  case h_2 => exact h

theorem homeActuator (h : Steady q b s) (a : Actuator) : Steady q b (homeActuator s a) := by
  unfold Machine.homeActuator
  split
  · exact (h.settleActuator a 0).markHome a
  · exact h.setActuator a _

theorem testHome (h : Steady q b s) : Steady q b (testHome s) := by
  unfold Machine.testHome
  split
  · split
    · have h1 : Steady q b (s.setTable { s.table with op := .none, homeValid := true }) :=
        h.setTable fun _ ht => ⟨ht.counters, rfl, fun _ => rfl, ht.travels⟩
      dsimp only
      split
      · rename_i hidle
        exact ((h1.setLast _).report _).setJam (iff_of_false nofun (show ¬ s.jam.run = .unconfigured by simp [hidle]))
      · exact (h1.setLast _).report _
    · exact h
  · exact h

theorem beginHome (h : Steady q b s) : Steady q b (beginHome s) := by
  unfold Machine.beginHome
  split
  · rename_i r hop
    have h1 : Steady q b (Machine.setOp s (.home { r with begun := true })) :=
      h.setHome hop fun ht ax => by cases ax <;> exact ht.homeAxes hop _
    exact (((h1.homeApproach .x).homeApproach .y).foldl (fun _ a hs => hs.homeActuator a) _).testHome
  · exact h

theorem resumeHome (h : Steady q b s) {r : HomeRun} (hop : s.table.op = .home r) : Steady q b (resumeHome s r) := by
  have hresume : ∀ (v : HomeAxis) (r0 cur limit : Nat), (v.resume r0).fits cur limit = v.fits cur limit := fun v r0 _ _ => by
    unfold HomeAxis.resume
    split <;> rfl
  unfold Machine.resumeHome
  split
  · refine h.setHome hop fun ht ax => ?_
    cases ax
    · exact (hresume r.x _ _ _).trans (ht.homeAxes hop .x)
    · exact (hresume r.y _ _ _).trans (ht.homeAxes hop .y)
  · exact h.beginHome

/-- A step of HOME's search goes no further than the travel (R90). -/
theorem stepHome (h : Steady q b s) (ax : Axis) {r : HomeRun} (hop : s.table.op = .home r) :
    Steady q b (stepHome s ax r) := by
  unfold Machine.stepHome
  dsimp only
  split
  · exact (h.setInputs _).setHomeAxis ax nofun
  · rename_i hphase
    have hop1 : (s.table.setCounter ax (s.table.counter ax + 1)).op = .home r := by cases ax <;> exact hop
    unfold Machine.setHomeAxis
    simp only [State.setInputs_table, State.setTable_table, hop1]
    refine of_table h rfl Iff.rfl rfl rfl rfl id fun _ ht => ht.searched hop hphase (fun hv => ?_) rfl rfl rfl rfl
    split at hv
    · cases hv
    · omega
  · exact h
  · exact h

/-- The guard closes (R84, R85, R90). -/
theorem resumeTable (h : Steady q b s) : Steady q b (resumeTable s) := by
  unfold Machine.resumeTable
  split
  · exact h
  · rename_i r hop; exact h.resumeHome hop
  · split
    · exact h.endOp
    · exact h.runFresh
    · exact h
  · split
    · exact h.runFresh.testStand
    · exact h.runFresh.testStand
    · exact h

theorem homeIndex (h : Steady q b s) (ax : Axis) : Steady q b (homeIndex s ax) := by
  have hended : Steady q b (Machine.setHomeAxis (s.setTable (s.table.setPhase ax (s.table.counter ax % 1024))) ax
      { phase := .ended, interval := none }) :=
    (h.setTable_eq (by cases ax <;> rfl) (by cases ax <;> rfl) (by cases ax <;> rfl)).setHomeAxis ax nofun
  unfold Machine.homeIndex
  split
  · split
    · exact hended.testHome
    · exact hended.testHome
    · exact h
    · exact h
  · exact h

/-! ### The shaft (R97 to R101, R108) -/

theorem restartMarks (h : Steady q b s) : Steady q b (restartMarks s) := h.setStroke rfl
theorem setRev (h : Steady q b s) (r : Option Revolution) : Steady q b (setRev s r) := h.setStroke rfl
theorem takeMark (h : Steady q b s) (r : Revolution) (m : Mark) : Steady q b (takeMark s r m) := h.setStroke rfl
theorem restoreMark (h : Steady q b s) (m : Mark) : Steady q b (restoreMark s m) := h.setStroke rfl
theorem setHold (h : Steady q b s) : Steady q b (setHold s) := h.setPose _
theorem holdAtGate (h : Steady q b s) : Steady q b (holdAtGate s) := h.setHold.setStroke rfl
theorem leaveGate (h : Steady q b s) : Steady q b (leaveGate s) := h.setStroke rfl
theorem startRevolution (h : Steady q b s) (k : RevKind) : Steady q b (startRevolution s k) := (h.setPose _).setStroke rfl
theorem startRestoring (h : Steady q b s) : Steady q b (startRestoring s) := h.setStroke rfl
theorem setLead (h : Steady q b s) (l : LeadState) : Steady q b (setLead s l) := h.setRev _
theorem startChainStep (h : Steady q b s) : Steady q b (startChainStep s) := h.setStroke rfl
theorem brakeShaft (h : Steady q b s) : Steady q b (brakeShaft s) := h.setStroke rfl

theorem dropCancelled (h : Steady q b s) (slot : Nat) (k : ItemKey) (o : Origin) :
    Steady q b (dropCancelled s slot k o) := by
  cases o with
  | own => exact h
  | adopted => exact h.modCtx slot fun c _ => (Context.Onward.dropAdopted c k).trans (.offRetry _ k)

theorem tryStart (h : Steady q b s) : Steady q b (tryStart s) := by
  unfold Machine.tryStart
  split
  · split
    · exact h
    · split
      · split
        · exact ((h.dropCancelled _ _ _).cancelKeys _).startRevolution _
        · exact h.startRevolution _
      · exact h.startRevolution _
    · exact h.startRevolution _
  · exact h

/-! ### TRANSFER and the lead sense (R40, R102, R103) -/

/-- The jaws with no item. -/
theorem emptyJaw (h : Steady q b s) {v : Stroke} (hv : v.jaw.itemBoard = none) : Steady q b (s.setStroke v) :=
  h.of_jaw fun b hb => by rw [hv] at hb; cases hb

theorem takeWaste (h : Steady q b s) (r : Revolution) (board : Option Nat) : Steady q b (takeWaste s r board) :=
  (h.emptyJaw rfl).countEjected board

theorem transferIndex (h : Steady false b s) (r : Revolution) : Steady false b (transferIndex s r) := by
  have hwaste := fun board => (h.setClip_dead 0 (c := .empty) rfl).takeWaste r board
  unfold Machine.transferIndex
  split
  · exact h.emptyJaw rfl
  · exact (hwaste _).handReturned _ _ _
  · exact (hwaste _).handReturned _ _ _
  · exact (hwaste _).handReturned _ _ _
  · exact hwaste _
  · exact hwaste _
  · exact h.takeWaste r none

theorem wasteJaw (h : Steady q b s) : Steady q b (wasteJaw s) := by
  refine h.of_jaw fun b hb => ?_
  cases hj : s.stroke.jaw <;> simp [hj, Jaw.itemBoard] at hb

theorem missLead (h : Steady false b s) : Steady false b (missLead s) := by
  have h1 := (h.setLead .missed).enterAlarm .transferMiss .none
  have h2 := h1.setStroke (v := { s.stroke with
    rev := s.stroke.rev.map fun r => { r with lead := .missed }, missCount := s.stroke.missCount + 1 }) rfl
  unfold Machine.missLead
  dsimp only
  split
  · exact h2.wasteJaw.handCounted _ _ _
  · exact h2.wasteJaw
  · exact h2

/-! ### A STOP alarm (R86, R115, R169) -/

theorem returnJaw (h : Steady false b s) : Steady false b (returnJaw s) := by
  unfold Machine.returnJaw
  split
  · exact h.wasteJaw.handReturned _ _ _
  · exact h.wasteJaw
  · exact h

theorem jawAtBrake (h : Steady false b s) (r : Revolution) : Steady false b (jawAtBrake s r) := by
  unfold Machine.jawAtBrake
  split
  · split
    · exact h.returnJaw
    · dsimp only
      split
      · exact h.emptyJaw rfl
      · exact (h.emptyJaw rfl).countSuspect _
  · exact h

theorem jawAtHalt (h : Steady false b s) (r : Revolution) (slip : Bool) : Steady false b (jawAtHalt s r slip) := by
  unfold Machine.jawAtHalt
  split
  · split
    · exact h.returnJaw
    · exact h.setRev _
    · exact h.setRev _
  · exact h

theorem haltShaft (h : Steady false b s) (c : AlarmClass) : Steady false b (haltShaft s c) := by
  unfold Machine.haltShaft
  split
  · exact h.brakeShaft
  · split
    · exact h
    · rename_i r _
      split
      · dsimp only
        split
        · exact (h.jawAtBrake r).brakeShaft
        · exact (h.jawAtBrake r).brakeShaft.abandonDrops
      · exact h.jawAtHalt r _

theorem haltRun (h : Steady q b s) : Steady q b (haltRun s) := by
  have hhalting : s.jam.run ≠ .unconfigured → Steady q b (s.setJam { s.jam with run := .halting, qualifier := none }) :=
    fun hne => h.setJam (iff_of_false nofun hne)
  unfold Machine.haltRun
  split
  case h_1 hr => exact hhalting (by rw [hr]; decide)
  case h_2 hr => exact hhalting (by rw [hr]; decide)
  case h_3 hr => exact hhalting (by rw [hr]; decide)
  case h_4 hr => exact hhalting (by rw [hr]; decide)
  all_goals exact h

theorem invalidate (h : Steady q b s) (c : AlarmClass) (src : AlarmSource) : Steady q b (invalidate s c src) := by
  unfold Machine.invalidate
  split
  · have h1 : Steady q b (s.setTable { s.table with homeValid := false }) := h.setTable_eq rfl rfl rfl
    dsimp only
    split
    · exact (h1.setLast _).setActuator _ _
    · exact h1.setLast _
  · exact h

theorem stopAlarm (h : Steady false b s) (c : AlarmClass) (src : AlarmSource) : Steady false b (stopAlarm s c src) := by
  have h1 : Steady false b (Machine.haltShaft (Machine.haltTable
      (Machine.invalidate (Machine.haltRun (Machine.enterAlarm s c src)) c src) (c == .tableSlip)) c) :=
    (((h.enterAlarm c src).haltRun.invalidate c src).haltTable _).haltShaft c
  unfold Machine.stopAlarm
  dsimp only
  split
  · refine stallChain ?_
    exact h1.setStroke rfl
  · exact h1

/-! ### Aiming (R73, R74, R82, R106) -/

theorem dropStale (h : Steady q b s) : Steady q b (dropStale s) := by
  unfold Machine.dropStale
  split
  · split
    · split
      · exact h
      · exact h.setPositioning _
    · exact h
  · exact h

theorem beginPositioning (h : Steady q b s) (atUp : Bool) (pos : Nat) (i : ClipItem) :
    Steady q b (beginPositioning s atUp pos i) := by
  unfold Machine.beginPositioning
  split
  · exact h
  · exact h.setPositioning _

end Steady

/-- A positioning that begins is a record of the pose unit alone (R73). -/
theorem beginPositioning_pose (s : State) (atUp : Bool) (pos : Nat) (i : ClipItem) :
    ∃ v, beginPositioning s atUp pos i = s.setPose v := by
  unfold beginPositioning
  split
  · exact ⟨s.pose, rfl⟩
  · exact ⟨_, rfl⟩

/-- What a search over the clips finds is live. -/
theorem findLive_live {p : ClipItem → Bool} {l : List Clip} {n pos : Nat} {i : ClipItem}
    (h : findLive p l n = some (pos, i)) : n ≤ pos ∧ (l.getD (pos - n) .unknown).live = some i := by
  induction l generalizing n with
  | nil => cases h
  | cons c rest ih =>
    have hrest : findLive p rest (n + 1) = some (pos, i) → n ≤ pos ∧ ((c :: rest).getD (pos - n) .unknown).live = some i :=
      fun h => by
        obtain ⟨hle, hlive⟩ := ih h
        obtain ⟨m, hm⟩ : ∃ m, pos - n = m + 1 := ⟨pos - n - 1, by omega⟩
        have hpos : pos - (n + 1) = m := by omega
        exact ⟨by omega, by rw [hm]; rw [hpos] at hlive; exact hlive⟩
    cases hc : c.live with
    | none => simp only [findLive, hc] at h; exact hrest h
    | some j =>
      simp only [findLive, hc] at h
      split at h
      · cases h
        exact ⟨Nat.le_refl _, by simpa using hc⟩
      · exact hrest h

/-- The clip aimed at is live, and the station aims in no run state but those that produce (R82). -/
theorem aimedClip_live {s : State} {pos : Nat} {i : ClipItem} (h : aimedClip s = some (pos, i)) :
    (clipAt s pos).live = some i ∧ s.jam.run ≠ .unconfigured := by
  unfold aimedClip at h
  split at h
  case isFalse => cases h
  case isTrue ha =>
    obtain ⟨slot, -, hlow⟩ := Option.bind_eq_some_iff.mp h
    refine ⟨(findLive_live hlow).2, fun hu => ?_⟩
    simp [aims, producing, hu] at ha

namespace Steady

variable {q : Bool} {b s : State}

/-- The table aims at targets of live clips alone (R67, R82). -/
theorem aimTable (h : Steady q b s) (atUp : Bool) : Steady q b (aimTable atUp s) := by
  unfold Machine.aimTable
  split
  · exact h
  · rename_i pos i haimed
    obtain ⟨hlive, hrun⟩ := aimedClip_live haimed
    split
    · exact h
    · split
      · refine h.setOp fun hk ht => ?_
        obtain ⟨hx, hy⟩ := hk.within pos i hlive
        exact ht.withOp (Motion.fits_iff.mpr ⟨⟨hx, hy⟩, fun ax => by cases ax <;> rfl⟩) fun hu => absurd hu hrun
      · obtain ⟨v, hv⟩ := beginPositioning_pose s atUp pos i
        dsimp only
        rw [hv]
        refine (h.setPose v).setTable fun hk ht => TableOk.directed _ (ht.withOp ?_ fun hu => absurd hu hrun)
        obtain ⟨hx, hy⟩ := hk.within pos i hlive
        exact freshMotion_fits (s := s) hx hy

theorem raiseCountdown (h : Steady q b s) (k : ItemKey) (t : Nat) : Steady q b (raiseCountdown s k t) := by
  unfold Machine.raiseCountdown
  split
  · split
    · exact h.setPositioning _
    · exact h
  · exact h

theorem commandActuator (h : Steady q b s) (a : Actuator) (v : Nat) : Steady q b (commandActuator s a v) :=
  h.setActuator a _

theorem aimActuator (h : Steady q b s) (atUp : Bool) (pos : Nat) (i : ClipItem) (a : Actuator) :
    Steady q b (aimActuator atUp pos i s a) := by
  unfold Machine.aimActuator
  dsimp only
  split
  · exact h
  · split
    · refine commandActuator ?_ a _
      split
      · exact h.raiseCountdown _ _
      · split
        · exact h
        · exact h.beginPositioning _ _ _
    · exact h

theorem keepBack (h : Steady q b s) : Steady q b (keepBack s) := by
  unfold Machine.keepBack
  split
  · exact h
  · exact h.setStroke rfl

theorem aimActuators (h : Steady q b s) (atUp : Bool) : Steady q b (aimActuators atUp s) := by
  unfold Machine.aimActuators
  split
  · exact h.keepBack
  · split
    · exact h
    · exact h.foldl (fun _ a hs => hs.aimActuator _ _ _ a) _

theorem zeroCountdown (h : Steady q b s) (before : State) : Steady q b (zeroCountdown before s) := by
  unfold Machine.zeroCountdown
  split
  · split
    · exact h.setPositioning _
    · exact h
  · exact h

theorem aim (h : Steady q b s) (atUp : Bool) (before : State) : Steady q b (aim atUp before s) :=
  ((h.dropStale.aimTable atUp).aimActuators atUp).zeroCountdown before

/-! ### The end of a command (log 5) -/

theorem releaseGate (h : Steady q b s) : Steady q b (releaseGate s) := by
  unfold Machine.releaseGate
  split
  · exact h.leaveGate
  · exact h

theorem completeRun (h : Steady q b s) : Steady q b (completeRun s) := by
  have hset : ∀ r : RunState, r ≠ .unconfigured → s.jam.run ≠ .unconfigured → Steady q b (setRun s r) :=
    fun r hr hs => h.setJam (iff_of_false hr hs)
  unfold Machine.completeRun
  split
  · rename_i hr _
    split
    · exact hset _ (by decide) (by rw [hr]; decide)
    · exact h
  · rename_i hr _
    split
    · exact hset _ (by decide) (by rw [hr]; decide)
    · exact h
  · rename_i hr
    split
    · exact hset _ (by decide) (by rw [hr]; decide)
    · exact h
  · exact h

theorem updateHold (h : Steady q b s) : Steady q b (updateHold s) := by
  have h1 : Steady q b (updatePull s) := (h.setBoards (by rfl)).setInputs _
  unfold Machine.updateHold watchDownstream
  dsimp only
  split
  · exact (h1.setBoards (by rfl)).enterAlarm _ _
  · exact h1.setBoards rfl

theorem statusOnChange (h : Steady q b s) (before : State) : Steady q b (statusOnChange before s) := by
  unfold Machine.statusOnChange
  split
  · exact h
  · exact h.queueStatus

theorem testFinished (h : Steady q b s) : Steady q b (testFinished s) := by
  unfold Machine.testFinished
  split
  · exact h
  · split
    · exact h
    · rename_i c hc
      split
      · have hon : c.Onward q { c.walk with finished := true, planClosed := true } :=
          .of_eq rfl rfl id rfl rfl rfl rfl rfl (Nat.le_refl _)
        exact (h.setSlot hc hon).report _
      · exact h

theorem finish (h : Steady q b s) (atUp : Bool) (before : State) : Steady q b (finish atUp before s) :=
  (((h.testFinished.aim atUp before).releaseGate.completeRun.dropStale).updateHold).statusOnChange before

end Steady
end Sys2Proof.Machine
end

section
/-! SUPPORT. The board manager and the line keep the laws of the chapters (`Steady`), but for what creates, identifies, pairs
or removes a context. -/

namespace Sys2Proof.Machine

/-- A context that comes to the station or leaves it. -/
theorem Context.Onward.toState {q : Bool} (c : Context) {st : CtxState} (hst : st ≠ .expected) :
    c.Onward q { c with state := st } :=
  .of_eq rfl rfl (fun h => absurd h hst) rfl rfl rfl rfl rfl (Nat.le_refl _)

/-- A context that may be bound: one that waits for its bank, or with no own item INSERTED (R16, R118). -/
def Context.Unbound (c : Context) : Prop := c.noProgram = true ∨ ∀ i, c.ownState i ≠ some .inserted

namespace Steady

variable {q : Bool} {b s : State}

/-! ### Binding (R15, R16) -/

theorem bindCtx (h : Steady false b s) (slot : Nat) (bank : BankId)
    (hu : ∀ c, ctxAt s slot = some c → c.Unbound) : Steady false b (bindCtx s slot bank) := by
  unfold Machine.bindCtx
  split
  · exact h
  · rename_i c hc
    have h1 := h.setSlot hc (Context.Onward.bound_fresh (q := false) (hu c hc) bank (s.store.bank bank).steps)
    dsimp only
    split
    · exact h1.oweWaiting slot
    · exact h1

theorem lookupCtx (h : Steady false b s) (slot program : Nat) (hu : ∀ c, ctxAt s slot = some c → c.Unbound) :
    Steady false b (lookupCtx s slot program) := by
  unfold Machine.lookupCtx
  split
  · exact h.bindCtx slot _ hu
  · refine h.modCtx slot fun c hc => ?_
    have hown : c.noProgram = false → ∀ i, c.ownState i ≠ some .inserted := fun hn =>
      (hu c hc).resolve_left (by simp [hn])
    exact ⟨rfl, rfl, id, fun hn hi => hi.elim fun i hi => absurd hi (hown hn i), fun hn i hi => absurd hi (hown hn i),
      fun hi => hi, .refl _, .refl _ _, id⟩

/-! ### Closed plans ahead of an entered board (R48) -/

theorem closeIfAhead (h : Steady false b s) (slot : Nat) : Steady false b (closeIfAhead s slot) := by
  unfold Machine.closeIfAhead
  split
  · exact h
  · split
    · exact h.planClose slot
    · exact h

theorem closeAllAhead (h : Steady false b s) : Steady false b (closeAllAhead s) := h.foldl (fun _ i hs => hs.closeIfAhead i) _

/-! ### The skip mask, claims and pairing (R122, R132, R157) -/

theorem joinMask (h : Steady q b s) (slot : Nat) (mask : BitVec 8) : Steady q b (joinMask s slot mask) := by
  unfold Machine.joinMask
  split
  · exact h
  · rename_i c hc
    dsimp only
    split
    · exact h
    · exact (h.setSlot hc (.skipImages c _ _ _)).cancelKeys _

theorem withdrawAdopted (h : Steady q b s) (slot : Nat) (k : ItemKey) : Steady q b (withdrawAdopted s slot k) :=
  (h.modCtx slot fun c _ => (Context.Onward.dropAdopted c k).trans (.offRetry _ k)).cancelKeys [k]

theorem claim (h : Steady q b s) (slot : Nat) (d : ItemData)
    (hroom : ∀ c, ctxAt s slot = some c → c.adopted.length < 16) : Steady q b (claim s slot d) :=
  (h.modCtx slot fun c hc => .claimed c d _ (hroom c hc)).joinUrgent _

theorem dropMadeUp (h : Steady q b s) (slot : Nat) (l : List Entry) : Steady q b (dropMadeUp slot l s) := by
  induction l generalizing s with
  | nil => exact h
  | cons e rest ih => exact ih (h.withdrawAdopted slot _)

theorem reportLost (h : Steady q b s) (serial : Nat) (l : List Entry) : Steady q b (reportLost s serial l) := by
  induction l generalizing s with
  | nil => exact h
  | cons e rest ih =>
    refine ih ?_
    split
    · exact h
    · exact h.report _

theorem claimAllowed_room {s : State} {c : Context} {d : ItemData} (h : claimAllowed s c d = true) :
    c.adopted.length < 16 := by
  simp only [claimAllowed, Bool.and_eq_true, decide_eq_true_eq, Config.adoptedMax] at h
  exact h.1.1.1.2

theorem lateAdopt (h : Steady q b s) (slot : Nat) (l : List Entry) : Steady q b (lateAdopt slot l s) := by
  induction l generalizing s with
  | nil => exact h
  | cons e rest ih =>
    refine ih ?_
    split
    · exact h
    · rename_i c hc
      split
      · rename_i hcond
        refine h.claim slot _ fun x hx => ?_
        rw [hc] at hx
        cases hx
        exact claimAllowed_room hcond.2
      · exact h

theorem announceCtx (h : Steady q b s) (slot : Nat) : Steady q b (announceCtx s slot) := by
  unfold Machine.announceCtx
  split
  · split
    · exact h.queueAnnounce _ _ _ _
    · exact h
  · exact h

theorem clearPassIn (h : Steady q b s) : Steady q b (clearPassIn s) := h.setBoards rfl

theorem settlePairing (h : Steady q b s) (slot : Nat) : Steady q b (settlePairing s slot) := by
  have h1 : Steady q b (Machine.modCtx s slot fun c => { c with pairing := .settled }) :=
    h.modCtx slot fun c _ => .of_eq rfl rfl id rfl rfl rfl rfl rfl (Nat.le_refl _)
  exact h1.setBoards rfl

theorem reportUnknown (h : Steady q b s) (slot : Nat) : Steady q b (reportUnknown s slot) := by
  unfold Machine.reportUnknown
  split
  · split
    · exact h.report _
    · exact h
  · exact h

/-! ### The clamp and the board transfer (R127, R128) -/

theorem setClamp (h : Steady q b s) (closed : Bool) : Steady q b (setClamp s closed) := by
  unfold Machine.setClamp
  split
  · exact h.setBoards rfl
  · exact (h.setBoards (by rfl)).setInputs _

theorem depart (h : Steady q b s) : Steady q b (depart s) := by
  unfold Machine.depart
  split
  · exact h
  · split
    · exact h
    · rename_i c hc
      have h1 := (h.setSlot hc (Context.Onward.toState (q := q) c (st := .departing) nofun)).setClamp false
      dsimp only
      split
      · exact h1.setBoards rfl
      · exact h1

theorem arrive (h : Steady q b s) (slot : Nat) : Steady q b (arrive s slot) := by
  have h1 : Steady q b (Machine.modCtx s slot fun c =>
      { c with state := .arriving, pairing := if headOfLine s then .settled else .awaited }) :=
    h.modCtx slot fun c _ => .of_eq rfl rfl nofun rfl rfl rfl rfl rfl (Nat.le_refl _)
  exact h1.setBoards rfl

theorem stepPositions (h : Steady q b s) : Steady q b (stepPositions s) := by
  have hctx : ∀ i, ctxAt (Machine.stepPositions s) i = (ctxAt s i).map Context.stepped := fun i => by
    simp only [ctxAt, Machine.stepPositions, State.setBoards_boards, List.getD_eq_getElem?_getD, List.getElem?_map]
    cases s.boards.slots[i]? <;> rfl
  refine h.of_slots (fun i hi => ?_) fun i c' hc => ?_
  · show (ctxAt (Machine.stepPositions s) i).isSome
    rw [hctx, Option.isSome_map]; exact hi
  · obtain ⟨c, hs, rfl⟩ := Option.map_eq_some_iff.mp ((hctx i).symm.trans hc)
    exact ⟨c, hs, .stepped c⟩

theorem beginTransfer (h : Steady q b s) : Steady q b (beginTransfer s) := by
  have h1 : Steady q b (Machine.depart (s.setBoards { s.boards with passIn := none, passWait := none })) :=
    (h.setBoards (by rfl)).depart
  have h2 : ∀ {t}, Steady q b t → Steady q b (match nextArrival t with
      | some slot => Machine.stepPositions (Machine.arrive t slot)
      | none => Machine.stepPositions (if headOfLine t then t.setBoards { t.boards with load := none } else t)) :=
    fun {t} ht => by
      split
      · exact (ht.arrive _).stepPositions
      · split
        · exact (ht.setBoards (v := { t.boards with load := none }) rfl).stepPositions
        · exact ht.stepPositions
  exact (h2 h1).setBoards rfl

theorem reportResult (h : Steady q b s) : Steady q b (reportResult s) := by
  unfold Machine.reportResult
  split
  · split
    · exact h.report _
    · exact h
  · exact h

theorem becomeCurrent (h : Steady q b s) : Steady q b (becomeCurrent s) := by
  unfold Machine.becomeCurrent
  split
  · exact h
  · refine (h.modCtx _ fun c _ => ?_).announceCtx _
    exact .of_eq rfl rfl nofun rfl rfl rfl rfl rfl (Nat.le_refl _)

theorem stopAtTransferEnd (h : Steady q b s) : Steady q b (stopAtTransferEnd s) := by
  unfold Machine.stopAtTransferEnd
  split
  · rename_i hs
    refine h.setJam (iff_of_false nofun fun hu => ?_)
    simp [stoppingAtBoardEnd, hu] at hs
  · exact h

/-! ### Frames heard (R148 to R150, R155, R158) -/

theorem markSender (h : Steady q b s) (sender : Nat) (f : Frame) : Steady q b (markSender s sender f) := by
  unfold Machine.markSender
  split
  · exact h
  · exact h.modRoster _ _

theorem checkDuplicate (h : Steady false b s) (sender : Nat) : Steady false b (checkDuplicate s sender) := by
  unfold Machine.checkDuplicate
  split
  · exact h.stopAlarm _ _
  · exact h

theorem withdrawClaim (h : Steady q b s) (k : ItemKey) : Steady q b (withdrawClaim s k) := by
  unfold Machine.withdrawClaim
  split
  · split
    · exact h.setLine id
    · exact h.setLine id
  · exact h.setLine id

theorem hearClaim (h : Steady q b s) (sender : Nat) (k : ItemKey) : Steady q b (hearClaim s sender k) := by
  unfold Machine.hearClaim
  split
  · exact h
  · rename_i slot _
    have h1 : ∀ own : Bool, Steady q b
        (if own && decide (sender < (cfg s).station) then Machine.withdrawClaim (Machine.withdrawAdopted s slot k) k
         else s) := fun own => by
      split
      · exact (h.withdrawAdopted slot k).withdrawClaim k
      · exact h
    exact (h1 _).modCtx slot fun c _ => .recordClaim c k sender

theorem hearOwe (h : Steady false b s) (sender : Nat) (d : ItemData) : Steady false b (hearOwe s sender d) := by
  unfold Machine.hearOwe
  split
  · exact h
  · rename_i slot _
    have h1 : Steady false b (Machine.modCtx s slot fun c => c.recordOwe (cfg s).station sender d) :=
      h.modCtx slot fun c _ => .recordOwe c _ sender d
    dsimp only
    split
    · rename_i c hc
      split
      · rename_i hcond
        refine h1.claim slot d fun x hx => ?_
        rw [hc] at hx
        cases hx
        simp only [claimTest, Bool.and_eq_true] at hcond
        exact claimAllowed_room hcond.2
      · exact h1
    · exact h1

end Steady
end Sys2Proof.Machine
end

section
/-! SUPPORT. Commands that fill, identify, pair or empty slots of contexts: the relations `Grows` (no board that has come to the
station leaves), `Passes` (a context goes on or another board has its slot) and `Abides` (what is final stays), each with
what it keeps of the laws (`Sustains`). -/

namespace Sys2Proof.Machine

/-! ### The laws of the contexts -/

/-- The lists of every context within their capacities. -/
def FitsOk (s : State) : Prop := ∀ i c, ctxAt s i = some c → c.fits = true

/-- Nothing is INSERTED or MADE_UP in an EXPECTED context. -/
def UntouchedOk (s : State) : Prop := ∀ i c, ctxAt s i = some c → c.state = .expected → c.untouched = true

/-- The board of the item in the jaws is held and no longer EXPECTED. -/
def JawOk (s : State) : Prop :=
  ∀ b, s.stroke.jaw.itemBoard = some b → ∃ c, ctxAt s b = some c ∧ c.state ≠ .expected

/-- What every command but SETUP and PIN_RESET keeps of the laws and of the shape of the contexts. -/
structure Sustains (s t : State) : Prop where
  setup : t.console.setup = s.console.setup
  unconfigured : t.jam.run = .unconfigured ↔ s.jam.run = .unconfigured
  clips : ClipsOk s → ClipsOk t
  table : ClipsOk s → TableOk s → TableOk t
  orderly : s.line.orderly → t.line.orderly
  fits : FitsOk s → FitsOk t
  untouched : JawOk s → UntouchedOk s → UntouchedOk t
  jaw : JawOk s → JawOk t

theorem Sustains.trans {s t u : State} (h : Sustains s t) (g : Sustains t u) : Sustains s u where
  setup := g.setup.trans h.setup
  unconfigured := g.unconfigured.trans h.unconfigured
  clips hc := g.clips (h.clips hc)
  table hc ht := g.table (h.clips hc) (h.table hc ht)
  orderly hl := g.orderly (h.orderly hl)
  fits hf := g.fits (h.fits hf)
  untouched hj hu := g.untouched (h.jaw hj) (h.untouched hj hu)
  jaw hj := g.jaw (h.jaw hj)

theorem Steady.sustains {q : Bool} {s t : State} (h : Steady q s t) : Sustains s t where
  setup := h.setup
  unconfigured := h.unconfigured
  clips := h.clips
  table := h.table
  orderly := h.orderly
  fits hf i c' hc := by
    obtain ⟨c, hs, hon⟩ := h.contexts i c' hc
    exact hon.fits (hf i c hs)
  untouched _ hu i c' hc he := by
    obtain ⟨c, hs, hon⟩ := h.contexts i c' hc
    exact hon.untouched (hu i c hs (hon.expected he))
  jaw hj b hb := by
    obtain ⟨c, hs, hne⟩ := hj b (h.jaw b hb)
    obtain ⟨c', hc'⟩ := Option.isSome_iff_exists.mp (h.held b (by rw [hs]; rfl))
    obtain ⟨x, hx, hon⟩ := h.contexts b c' hc'
    rw [hs] at hx
    cases hx
    exact ⟨c', hc', fun he => hne (hon.expected he)⟩

/-! ### A context that keeps what is final -/

/-- A context of the same board that keeps what is final: what is INSERTED stays INSERTED, an entry MADE_UP stays so or is
gone (R121, R132). -/
structure Context.Carries (c c' : Context) : Prop where
  serial : c'.serial = c.serial
  expected : c'.state = .expected → c.state = .expected
  bound : c.noProgram = false → (∃ i, c.ownState i = some .inserted) → c'.noProgram = false
  own : c.noProgram = false → ∀ i, c.ownState i = some .inserted → c'.ownState i = some .inserted
  adopted : ∀ k, (findAdopted c.adopted k).map (·.state) = some .inserted →
    (findAdopted c'.adopted k).map (·.state) = some .inserted
  entry : ∀ k n, findEntry c.entries k = some (.madeUp n) →
    findEntry c'.entries k = some (.madeUp n) ∨ findEntry c'.entries k = none

section
variable {q : Bool} {c c' c'' : Context}

theorem Context.Onward.carries (h : c.Onward q c') : c.Carries c' :=
  ⟨h.serial, h.expected, h.bound, h.own, h.adopted.kept, fun k n hk => .inl (h.entries.kept k n hk)⟩

/-- What goes on first and then carries. -/
theorem Context.Onward.trans_carries (h : c.Onward q c') (g : c'.Carries c'') : c.Carries c'' where
  serial := g.serial.trans h.serial
  expected he := h.expected (g.expected he)
  bound hn hi := g.bound (h.bound hn hi) (hi.imp fun i hi => h.own hn i hi)
  own hn i hi := g.own (h.bound hn ⟨i, hi⟩) i (h.own hn i hi)
  adopted k hk := g.adopted k (h.adopted.kept k hk)
  entry k n hk := g.entry k n (h.entries.kept k n hk)

/-- What carries goes on, no entry joining. -/
theorem Context.Carries.trans_onward (h : c.Carries c') (g : c'.Onward true c'') : c.Carries c'' where
  serial := g.serial.trans h.serial
  expected he := h.expected (g.expected he)
  bound hn hi := g.bound (h.bound hn hi) (hi.imp fun i hi => h.own hn i hi)
  own hn i hi := g.own (h.bound hn ⟨i, hi⟩) i (h.own hn i hi)
  adopted k hk := g.adopted.kept k (h.adopted k hk)
  entry k n hk := (h.entry k n hk).imp (g.entries.kept k n) (g.entries.quiet rfl k)

theorem Context.Carries.keeps (h : c.Carries c') : c.Keeps c' where
  own := h.own
  adopted k a hk ha := h.adopted k (by rw [← Context.adoptedFor_eq, hk, Option.map_some, ha])
  entry := h.entry

end

/-! ### The relations -/

/-- No board that has come to the station leaves: slots may be filled, and emptied of EXPECTED contexts alone. -/
structure Grows (s t : State) : Prop extends Sustains s t where
  lasting : ∀ i c, ctxAt s i = some c → c.state ≠ .expected → ∃ c', ctxAt t i = some c' ∧ c.Onward false c'

/-- A context that has come to the station goes on, leaves, or another board has its slot. -/
structure Passes (s t : State) : Prop extends Sustains s t where
  passing : ∀ i c c', ctxAt s i = some c → ctxAt t i = some c' → c.state ≠ .expected →
    c'.serial ≠ c.serial ∨ c.Onward false c'

/-- Every context carries what is final in it. -/
structure Mends (s t : State) : Prop extends Sustains s t where
  mended : ∀ i c', ctxAt t i = some c' → ∃ c, ctxAt s i = some c ∧ c.Carries c'

/-- A context that has come to the station carries what is final in it, leaves, or another board has its slot. -/
structure Abides (s t : State) : Prop extends Sustains s t where
  final : ∀ i c c', ctxAt s i = some c → ctxAt t i = some c' → c.state ≠ .expected →
    c'.serial ≠ c.serial ∨ c.Carries c'

theorem Steady.grows {s t : State} (h : Steady false s t) : Grows s t where
  toSustains := h.sustains
  lasting i c hc _ := by
    obtain ⟨c', hc'⟩ := Option.isSome_iff_exists.mp (h.held i (by rw [hc]; rfl))
    obtain ⟨x, hx, hon⟩ := h.contexts i c' hc'
    rw [hc] at hx
    cases hx
    exact ⟨c', hc', hon⟩

theorem Grows.refl (s : State) : Grows s s := (Steady.refl false s).grows

theorem Grows.trans {s t u : State} (h : Grows s t) (g : Grows t u) : Grows s u where
  toSustains := h.toSustains.trans g.toSustains
  lasting i c hc hne := by
    obtain ⟨c1, hc1, h1⟩ := h.lasting i c hc hne
    obtain ⟨c2, hc2, h2⟩ := g.lasting i c1 hc1 fun he => hne (h1.expected he)
    exact ⟨c2, hc2, h1.trans h2⟩

theorem Grows.passes {s t : State} (h : Grows s t) : Passes s t where
  toSustains := h.toSustains
  passing i c c' hc hc' hne := by
    obtain ⟨x, hx, hon⟩ := h.lasting i c hc hne
    rw [hc'] at hx
    cases hx
    exact .inr hon

theorem Passes.refl (s : State) : Passes s s := (Grows.refl s).passes

theorem Passes.trans_steady {s t u : State} (h : Passes s t) (g : Steady false t u) : Passes s u where
  toSustains := h.toSustains.trans g.sustains
  passing i c c' hc hc' hne := by
    obtain ⟨c1, hc1, h1⟩ := g.contexts i c' hc'
    exact (h.passing i c c1 hc hc1 hne).imp (fun hs => by rwa [h1.serial]) (·.trans h1)

theorem Passes.trans_mends {s t u : State} (h : Passes s t) (g : Mends t u) : Abides s u where
  toSustains := h.toSustains.trans g.toSustains
  final i c c' hc hc' hne := by
    obtain ⟨c1, hc1, h1⟩ := g.mended i c' hc'
    exact (h.passing i c c1 hc hc1 hne).imp (fun hs => by rwa [h1.serial]) (·.trans_carries h1)

theorem Passes.abides {s t : State} (h : Passes s t) : Abides s t where
  toSustains := h.toSustains
  final i c c' hc hc' hne := (h.passing i c c' hc hc' hne).imp_right (·.carries)

theorem Steady.abides {s t : State} (h : Steady false s t) : Abides s t := h.grows.passes.abides

theorem Abides.refl (s : State) : Abides s s := (Passes.refl s).abides

theorem Grows.trans_abides {s t u : State} (h : Grows s t) (g : Abides t u) : Abides s u where
  toSustains := h.toSustains.trans g.toSustains
  final i c c' hc hc' hne := by
    obtain ⟨c1, hc1, h1⟩ := h.lasting i c hc hne
    exact (g.final i c1 c' hc1 hc' fun he => hne (h1.expected he)).imp
      (fun hs => by rwa [h1.serial] at hs) (h1.trans_carries ·)

theorem Abides.trans_steady {s t u : State} (h : Abides s t) (g : Steady true t u) : Abides s u where
  toSustains := h.toSustains.trans g.sustains
  final i c c' hc hc' hne := by
    obtain ⟨c1, hc1, h1⟩ := g.contexts i c' hc'
    exact (h.final i c c1 hc hc1 hne).imp (fun hs => by rwa [h1.serial]) (·.trans_onward h1)

theorem Mends.trans_steady {s t u : State} (h : Mends s t) (g : Steady true t u) : Mends s u where
  toSustains := h.toSustains.trans g.sustains
  mended i c' hc' := by
    obtain ⟨c1, hc1, h1⟩ := g.contexts i c' hc'
    obtain ⟨c, hc, h0⟩ := h.mended i c1 hc1
    exact ⟨c, hc, h0.trans_onward h1⟩

theorem Steady.trans_mends {s t u : State} (h : Steady false s t) (g : Mends t u) : Mends s u where
  toSustains := h.sustains.trans g.toSustains
  mended i c' hc' := by
    obtain ⟨c1, hc1, h1⟩ := g.mended i c' hc'
    obtain ⟨c, hc, h0⟩ := h.contexts i c1 hc1
    exact ⟨c, hc, h0.trans_carries h1⟩

end Sys2Proof.Machine
end

section
/-! SUPPORT. Contexts removed, created, identified and paired: each is one of the relations `Grows`, `Passes`, `Mends`,
`Abides`, or takes contexts away (`Thins`). -/

namespace Sys2Proof.Machine

/-! ### Slots changed -/

/-- A change of the slots alone keeps the other blocks' laws. -/
theorem Sustains.of_slots {s : State} {v : Boards} (hf : FitsOk s → FitsOk (s.setBoards v))
    (hu : JawOk s → UntouchedOk s → UntouchedOk (s.setBoards v)) (hj : JawOk s → JawOk (s.setBoards v)) :
    Sustains s (s.setBoards v) where
  setup := rfl
  unconfigured := Iff.rfl
  clips h := h.congr rfl rfl
  table _ h := h.congr rfl rfl rfl rfl Iff.rfl
  orderly := id
  fits := hf
  untouched := hu
  jaw := hj

section
variable {s : State} {slot : Nat}

/-- A context of a slot replaced by one that fits when it did, and that is untouched when EXPECTED. -/
theorem setSlot_sustains {c c' : Context} (hc : ctxAt s slot = some c) (hf : c.fits = true → c'.fits = true)
    (he : c'.state = .expected → c.state = .expected)
    (hu : JawOk s → c'.state = .expected → c.untouched = true → c'.untouched = true) :
    Sustains s (setSlot s slot (some c')) := by
  have hctx : ∀ i x, ctxAt (setSlot s slot (some c')) i = some x → (i = slot ∧ x = c') ∨ ctxAt s i = some x :=
    fun i x hx => by
      rw [ctxAt_setSlot] at hx
      split at hx
      case isTrue hi => exact .inl ⟨hi.1.symm, (Option.some.inj hx).symm⟩
      case isFalse => exact .inr hx
  refine .of_slots (fun h i x hx => ?_) (fun hj h i x hx hex => ?_) fun h b hb => ?_
  · rcases hctx i x hx with ⟨-, rfl⟩ | hx
    · exact hf (h slot c hc)
    · exact h i x hx
  · rcases hctx i x hx with ⟨-, rfl⟩ | hx
    · exact hu hj hex (h slot c hc (he hex))
    · exact h i x hx hex
  · obtain ⟨x, hx, hne⟩ := h b hb
    rw [← setSlot, ctxAt_setSlot]
    split
    case isTrue hi =>
      obtain ⟨rfl, -⟩ := hi
      rw [hc] at hx
      cases hx
      exact ⟨c', rfl, fun hex => hne (he hex)⟩
    case isFalse => exact ⟨x, hx, hne⟩

/-- A context changed in what the laws do not read. -/
theorem modCtx_sustains {f : Context → Context} (hf : ∀ c : Context, c.fits = true → (f c).fits = true)
    (he : ∀ c, (f c).state = c.state) (hu : ∀ c, (f c).untouched = c.untouched) : Sustains s (modCtx s slot f) := by
  cases hc : ctxAt s slot with
  | none => exact ((Steady.refl false s).modCtx slot fun c hx => by rw [hc] at hx; cases hx).sustains
  | some c =>
    rw [modCtx_eq_setSlot hc]
    exact setSlot_sustains hc (hf c) (fun h => (he c).symm.trans h) fun _ _ h => (hu c).trans h

/-- An empty slot filled with a context that fits and is untouched. -/
theorem fillSlot_grows {c : Context} (hn : ctxAt s slot = none) (hf : c.fits = true) (hu : c.untouched = true) :
    Grows s (setSlot s slot (some c)) := by
  have hctx : ∀ i x, ctxAt (setSlot s slot (some c)) i = some x → x = c ∨ ctxAt s i = some x := fun i x hx => by
    rw [ctxAt_setSlot] at hx
    split at hx
    case isTrue => exact .inl (Option.some.inj hx).symm
    case isFalse => exact .inr hx
  have hkeep : ∀ i x, ctxAt s i = some x → ctxAt (setSlot s slot (some c)) i = some x := fun i x hx => by
    rw [ctxAt_setSlot, if_neg]
    · exact hx
    · rintro ⟨rfl, -⟩
      rw [hn] at hx; cases hx
  refine { toSustains := .of_slots (fun h i x hx => ?_) (fun hj h i x hx hex => ?_) fun h b hb => ?_
           lasting := fun i x hx _ => ⟨x, hkeep i x hx, .refl _ _⟩ }
  · rcases hctx i x hx with rfl | hx
    · exact hf
    · exact h i x hx
  · rcases hctx i x hx with rfl | hx
    · exact hu
    · exact h i x hx hex
  · obtain ⟨x, hx, hne⟩ := h b hb
    exact ⟨x, hkeep b x hx, hne⟩

end

/-! ### Contexts removed (R119) -/

/-- Contexts leave, the others staying as they are. -/
structure Thins (s t : State) : Prop extends Sustains s t where
  left : ∀ i c, ctxAt t i = some c → ctxAt s i = some c

theorem Thins.refl (s : State) : Thins s s := ⟨(Steady.refl false s).sustains, fun _ _ h => h⟩

theorem Thins.trans {s t u : State} (h : Thins s t) (g : Thins t u) : Thins s u :=
  ⟨h.toSustains.trans g.toSustains, fun i c hc => h.left i c (g.left i c hc)⟩

theorem Abides.trans_thins {s t u : State} (h : Abides s t) (g : Thins t u) : Abides s u :=
  ⟨h.toSustains.trans g.toSustains, fun i c c' hc hc' => h.final i c c' hc (g.left i c' hc')⟩

theorem removeCtx_thins (s : State) (slot : Nat) : Thins s (removeCtx s slot) := by
  have hctx : ∀ i c, ctxAt (removeCtx s slot) i = some c → ctxAt s i = some c := fun i c hc => by
    rw [ctxAt_removeCtx] at hc
    split at hc
    · cases hc
    · exact hc
  refine ⟨⟨rfl, Iff.rfl, fun h => ?_, fun _ h => h.congr rfl rfl rfl rfl Iff.rfl, id, fun h i c hc => h i c (hctx i c hc),
    fun _ h i c hc => h i c (hctx i c hc), fun h b hb => ?_⟩, hctx⟩
  · refine h.of_live rfl fun p i hi => ?_
    have hlive : (((cancelClips s (fun i => i.board == slot) s.chain.clips 0).map
        fun c : Clip => c.loseBoard slot).getD p Clip.unknown).live = some i := hi
    refine cancelClips_live s (fun i => i.board == slot) _ p (Eq.trans ?_ hlive)
    simp only [List.getD_eq_getElem?_getD, List.getElem?_map]
    cases (cancelClips s (fun i => i.board == slot) s.chain.clips 0)[p]? with
    | none => rfl
    | some c => exact (Clip.loseBoard_live slot c).symm
  · obtain ⟨hjaw, hne⟩ : s.stroke.jaw.itemBoard = some b ∧ b ≠ slot := by
      have hb' : (((if s.stroke.jaw.ofBoard slot then cancelJaw s.stroke else s.stroke).jaw).loseBoard slot).itemBoard =
          some b := hb
      obtain ⟨hi, hne⟩ := Jaw.loseBoard_itemBoard hb'
      refine ⟨?_, hne⟩
      split at hi
      · exact cancelJaw_itemBoard hi
      · exact hi
    obtain ⟨c, hc, hx⟩ := h b hjaw
    exact ⟨c, by rw [ctxAt_removeCtx, if_neg fun hs => hne hs.1.symm]; exact hc, hx⟩

theorem removeAt_thins (s : State) (o : Option Nat) : Thins s (removeAt s o) := by
  cases o with
  | none => exact .refl s
  | some slot => exact removeCtx_thins s slot

theorem removeOthers_thins (s : State) (slot serial : Nat) : Thins s (removeOthers s slot serial) := by
  have hfold : ∀ (l : List Nat) (t : State), Thins t (l.foldl removeCtx t) := fun l => by
    induction l with
    | nil => exact .refl
    | cons i rest ih => exact fun t => (removeCtx_thins t i).trans (ih _)
  exact hfold _ s

/-- An EXPECTED context removed. -/
theorem removeCtx_grows {s : State} {slot : Nat} (h : ∀ c, ctxAt s slot = some c → c.state = .expected) :
    Grows s (removeCtx s slot) where
  toSustains := (removeCtx_thins s slot).toSustains
  lasting i c hc hne := by
    refine ⟨c, ?_, .refl _ _⟩
    rw [ctxAt_removeCtx, if_neg]
    · exact hc
    · rintro ⟨rfl, -⟩
      exact hne (h c hc)

/-- The EXPECTED context that a search finds removed. -/
theorem removeAt_grows {s : State} {o : Option Nat}
    (h : ∀ slot c, o = some slot → ctxAt s slot = some c → c.state = .expected) : Grows s (removeAt s o) := by
  cases o with
  | none => exact .refl s
  | some slot => exact removeCtx_grows fun c hc => h slot c rfl hc

/-! ### Contexts created (R118, R129, R152) -/

theorem created_fits (n p : Nat) (id : Option Nat) (m : BitVec 8) : (Context.created n id p m).fits = true := by
  simp [Context.fits, Context.created, Context.entryCount]

/-- A context created is bound or waits for its bank (R15, R118). -/
theorem createCtx_grows {s : State} {slot : Nat} (hn : ctxAt s slot = none) (n id p : Nat) (m : BitVec 8) :
    Grows s (createCtx s slot n id p m) := by
  have h1 : Grows s (setSlot s slot (some (Context.created n (some id) p m))) :=
    fillSlot_grows hn (created_fits _ _ _ _) rfl
  refine h1.trans ((Steady.refl false _).lookupCtx slot id fun c hc => .inr fun i => ?_).grows
  rw [ctxAt_setSlot] at hc
  split at hc
  · cases hc; simp [Context.ownState, Context.created]
  · rw [hn] at hc; cases hc

theorem removeStale_grows (s : State) (n p : Nat) : Grows s (removeStale s n p) :=
  removeAt_grows fun slot c hs hc => by
    obtain ⟨x, hx, hp⟩ := slotOf_some hs
    rw [hc] at hx
    cases hx
    simp only [Bool.and_eq_true, beq_iff_eq] at hp
    exact hp.1.1

theorem announceCreate_grows (s : State) (n id p : Nat) (m : BitVec 8) : Grows s (announceCreate s n id p m) := by
  have h1 := removeStale_grows s n p
  unfold announceCreate
  dsimp only
  split
  · rename_i slot hslot
    exact (h1.trans (createCtx_grows (ctxAt_of_emptySlot hslot) n id p m)).trans
      (Steady.refl false _).closeAllAhead.grows
  · exact h1

theorem announceUpdate_grows (s : State) (slot n id p : Nat) (m : BitVec 8) : Grows s (announceUpdate s slot n id p m) := by
  have h1 : Steady false (removeStale s n p)
      (joinMask (modCtx (removeStale s n p) slot fun c => { c with position := p }) slot m) :=
    Steady.joinMask ((Steady.refl false _).modCtx slot fun c _ =>
      .of_eq (c' := { c with position := p }) rfl rfl (fun h => h) rfl rfl rfl rfl rfl (Nat.le_refl _)) slot m
  unfold announceUpdate
  dsimp only
  refine (removeStale_grows s n p).trans (Steady.closeAllAhead ?_).grows
  split
  · rename_i c hc
    split
    · rename_i hn
      exact h1.lookupCtx slot id fun x hx => .inl (by rw [hc] at hx; cases hx; exact hn)
    · exact h1
  · exact h1

/-- The last case of an ANNOUNCE heard: another program for the serial (R152). -/
theorem hearAnnounce_grows (s : State) (n id p : Nat) (m : BitVec 8) : Grows s (hearAnnounce s n id p m) := by
  unfold hearAnnounce
  split
  · exact .refl s
  · split
    · split
      · exact announceCreate_grows s n id p m
      · exact .refl s
    · rename_i slot _
      split
      · exact .refl s
      · rename_i c hc
        have hgone : c.state = .expected → Grows s (removeCtx s slot) := fun he => removeCtx_grows fun x hx => by
          rw [hc] at hx; cases hx; exact he
        split
        · exact .refl s
        · rename_i he
          rw [not_not] at he
          split
          · exact hgone he
          · split
            · exact .refl s
            · split
              · exact announceUpdate_grows s slot n id p m
              · exact (hgone he).trans (announceCreate_grows _ n id p m)

/-! ### An unexpected board and the head's identity (R129, R133) -/

theorem mismatchCtx_fits (s : State) (st : CtxState) (p : Nat) (h : PassHead) : (mismatchCtx s st p h).fits = true := by
  simp [Context.fits, mismatchCtx, Context.created, Context.entryCount]

/-- The head gives the slot's context its serial, or another context in its place (R133). -/
theorem identify_passes (s : State) (slot : Nat) (h : PassHead) : Passes s (identify s slot h) := by
  unfold identify
  split
  · exact .refl s
  · rename_i c hc
    split
    · exact .refl s
    · rename_i hserial
      have hthin : Thins s (if h.serial = 0 then s else removeOthers s slot h.serial) := by
        split
        · exact .refl s
        · exact removeOthers_thins s slot h.serial
      dsimp only
      generalize (if h.serial = 0 then s else removeOthers s slot h.serial) = s1 at hthin
      split
      · refine ⟨hthin.toSustains.trans (modCtx_sustains (fun _ h => h) (fun _ => rfl) fun _ => rfl), ?_⟩
        intro i x x' hx hx' _
        rw [ctxAt_modCtx] at hx'
        split at hx'
        case isTrue hi =>
          subst hi
          obtain ⟨y, hy, rfl⟩ := Option.map_eq_some_iff.mp hx'
          rw [hc] at hx
          cases hx
          exact .inl fun hs => hserial hs.symm
        case isFalse =>
          rw [hthin.left i x' hx'] at hx
          cases hx
          exact .inr (.refl _ _)
      · have hgone := hthin.trans (removeCtx_thins _ slot)
        refine Passes.trans_steady ?_ (Steady.refl false _).closeAllAhead
        refine ⟨hgone.toSustains.trans (fillSlot_grows ?_ (mismatchCtx_fits _ _ _ h) rfl).toSustains, ?_⟩
        · cases hn : ctxAt (removeCtx s1 slot) slot with
          | none => rfl
          | some x =>
            have hx := hn
            rw [ctxAt_removeCtx, if_pos ⟨rfl, ctxAt_lt ((removeCtx_thins _ slot).left slot x hn)⟩] at hx
            cases hx
        · intro i x x' hx hx' _
          rw [ctxAt_setSlot] at hx'
          split at hx'
          case isTrue hi =>
            obtain ⟨rfl, -⟩ := hi
            cases hx'
            rw [hc] at hx
            cases hx
            exact .inl fun hs => hserial hs.symm
          case isFalse =>
            rw [hgone.left i x' hx'] at hx
            cases hx
            exact .inr (.refl _ _)

end Sys2Proof.Machine
end

section
/-! SUPPORT. Pairing, an unexpected board and the completion of a transfer keep what is final (`Abides`). -/

namespace Sys2Proof.Machine

/-! ### The rebuilt entries (R132) -/

theorem findEntry_append (l m : List Entry) (k : ItemKey) : findEntry (l ++ m) k = (findEntry l k).or (findEntry m k) := by
  simp only [findEntry, List.find?_append]
  cases l.find? fun e => e.item.key == k <;> rfl

/-- Of the first entries of a list the first for a key is that of the list, or there is none. -/
theorem findEntry_take (l : List Entry) (n : Nat) (k : ItemKey) :
    findEntry (l.take n) k = findEntry l k ∨ findEntry (l.take n) k = none := by
  cases hs : findEntry (l.take n) k with
  | none => exact .inr rfl
  | some st =>
    left
    rw [← List.take_append_drop n l, findEntry_append, hs]
    rfl

/-- The entries of a passport with a state for each. -/
theorem findEntry_map {f : Entry → EntryState} (l : List Entry) (k : ItemKey) {st : EntryState}
    (hf : ∀ e ∈ l, e.item.key = k → f e = st) :
    findEntry (l.map fun e => { e with state := f e }) k = if (findEntry l k).isSome then some st else none := by
  simp only [findEntry, List.find?_map, Option.map_map, Function.comp_def, Option.isSome_map]
  cases hl : l.find? fun e => e.item.key == k with
  | none => rfl
  | some e =>
    have hkey : e.item.key = k := by simpa using List.find?_some hl
    simp [hf e (List.mem_of_find?_eq_some hl) hkey]

/-- The upstream run keeps a MADE_UP entry that the passport lacks (R132). -/
theorem findEntry_keptUpstream {c : Context} {es : List Entry} {k : ItemKey} {n : Nat} (hes : findEntry es k = none)
    (hk : findEntry c.entries k = some (.madeUp n)) :
    findEntry (keptUpstream c es ++ c.ownRun) k = some (.madeUp n) := by
  have hkeep : ∀ e : Entry, e.item.key = k → e.state = .madeUp n →
      ((match e.state with | .madeUp _ => true | _ => false) && !(es.any fun x => x.item.key == e.item.key)) = true :=
    fun e he hs => by
      rw [findEntry, Option.map_eq_none_iff, List.find?_eq_none] at hes
      rw [hs, he, Bool.true_and, Bool.not_eq_true', List.any_eq_false]
      exact hes
  rw [Context.entries, findEntry_append] at hk
  rw [findEntry_append]
  cases hu : c.upstream.find? fun e => e.item.key == k with
  | none =>
    have hnone : findEntry (keptUpstream c es) k = none := by
      rw [findEntry, Option.map_eq_none_iff, List.find?_eq_none]
      exact fun e he => List.find?_eq_none.mp hu e (List.mem_of_mem_filter he)
    rw [hnone]
    simpa [findEntry, hu] using hk
  | some e =>
    have hkey : e.item.key = k := by simpa using List.find?_some hu
    have hstate : e.state = .madeUp n := by simpa [findEntry, hu] using hk
    have hfind : (keptUpstream c es).find? (fun e => e.item.key == k) = some e :=
      find?_filter_of_kept hu (hkeep e hkey hstate)
    simp [findEntry, hfind, hstate]

theorem pairedState_of_madeUp (s : State) {c : Context} {e : Entry} {n : Nat}
    (h : c.entryState e.item.key = some (.madeUp n)) : pairedState s c e = .madeUp n := by
  unfold pairedState
  rw [h]

/-- The rebuilt entries hold a key MADE_UP as it was, or no more (R121, R132). -/
theorem Context.Carries.rebuilt (s : State) (c : Context) (es : List Entry) (f : PassFlags) (k : BitVec 16) :
    c.Carries { c.rebuilt ((es.map fun e => { e with state := pairedState s c e }) ++ keptUpstream c es) with
      history := f, skippedStations := k } where
  serial := rfl
  expected h := h
  bound h _ := h
  own _ _ h := h
  adopted _ h := h
  entry key n hk := by
    have hall : findEntry (((es.map fun e => { e with state := pairedState s c e }) ++ keptUpstream c es) ++ c.ownRun) key =
        some (.madeUp n) := by
      rw [List.append_assoc, findEntry_append,
        findEntry_map (st := .madeUp n) es key fun e _ he => pairedState_of_madeUp s (he ▸ hk)]
      cases hes : findEntry es key with
      | none => exact findEntry_keptUpstream hes hk
      | some st => rfl
    have htake := findEntry_take
      (((es.map fun e => { e with state := pairedState s c e }) ++ keptUpstream c es) ++ c.ownRun) Config.entriesMax key
    rw [hall, List.take_append] at htake
    exact htake

/-! ### Pairing (R132, R133) -/

theorem Steady.mends {s t : State} (h : Steady false s t) : Mends s t where
  toSustains := h.sustains
  mended i c' hc := (h.contexts i c' hc).imp fun _ hx => ⟨hx.1, hx.2.carries⟩

theorem Mends.abides {s t : State} (h : Mends s t) : Abides s t := (Passes.refl s).trans_mends h

/-- A context of a slot that carries what is final, and that has come to the station. -/
theorem setSlot_mends {s : State} {slot : Nat} {c c' : Context} (hc : ctxAt s slot = some c) (h : c.Carries c')
    (hf : c.fits = true → c'.fits = true) (hne : c.state ≠ .expected) : Mends s (setSlot s slot (some c')) where
  toSustains := setSlot_sustains hc hf h.expected fun _ he => absurd (h.expected he) hne
  mended i x hx := by
    rw [ctxAt_setSlot] at hx
    split at hx
    case isTrue hi => obtain ⟨rfl, -⟩ := hi; cases hx; exact ⟨c, hc, h⟩
    case isFalse => exact ⟨x, hx, Context.Onward.carries (.refl false x)⟩

theorem rebuilt_fits (c : Context) (run : List Entry) (f : PassFlags) (k : BitVec 16) (hf : c.fits = true) :
    ({ c.rebuilt run with history := f, skippedStations := k } : Context).fits = true := by
  have hcount : ((run.take Config.entriesMax).length + (c.ownRun.take (Config.entriesMax - run.length)).length) ≤ 32 := by
    simp only [List.length_take, Config.entriesMax]
    omega
  simp only [Context.fits, Bool.and_eq_true] at hf ⊢
  exact ⟨hf.1, decide_eq_true hcount⟩

/-- The passport applied to a context that has come to the station (R132). -/
theorem applyPassport_mends {s : State} {slot : Nat} (hne : ∀ c, ctxAt s slot = some c → c.state ≠ .expected)
    (h : PassHead) (es : List Entry) : Mends s (applyPassport s slot h es) := by
  have hjoin : Steady false s (joinMask s slot h.mask) := (Steady.refl false s).joinMask slot h.mask
  unfold applyPassport
  dsimp only
  split
  · exact hjoin.mends
  · rename_i c hc
    have hstate : c.state ≠ .expected := fun he => by
      obtain ⟨x, hx, hon⟩ := hjoin.contexts slot c hc
      exact hne x hx (hon.expected he)
    have hrebuilt := setSlot_mends hc (.rebuilt (joinMask s slot h.mask) c es h.flags h.skipped)
      (rebuilt_fits c _ _ _) hstate
    exact hjoin.trans_mends (hrebuilt.trans_steady
      ((((Steady.refl true _).dropMadeUp slot _).reportLost _ _).lateAdopt slot es))

/-- The head's context stays at the station. -/
theorem identify_state {s : State} {slot : Nat} (hne : ∀ c, ctxAt s slot = some c → c.state ≠ .expected) (h : PassHead) :
    ∀ c, ctxAt (identify s slot h) slot = some c → c.state ≠ .expected := by
  unfold identify
  split
  · exact hne
  · rename_i c hc
    split
    · exact hne
    · have hthin : Thins s (if h.serial = 0 then s else removeOthers s slot h.serial) := by
        split
        · exact .refl s
        · exact removeOthers_thins s slot h.serial
      dsimp only
      generalize (if h.serial = 0 then s else removeOthers s slot h.serial) = s1 at hthin
      split
      · intro x hx
        rw [ctxAt_modCtx, if_pos rfl] at hx
        obtain ⟨y, hy, rfl⟩ := Option.map_eq_some_iff.mp hx
        exact hne y (hthin.left slot y hy)
      · intro x hx he
        obtain ⟨y, hy, hon⟩ := ((Steady.refl false _).closeAllAhead).contexts slot x hx
        have hyne : y.state ≠ .expected := by
          rw [ctxAt_setSlot] at hy
          split at hy
          · cases hy; exact hne c hc
          · exact hne y (hthin.left slot y ((removeCtx_thins s1 slot).left slot y hy))
        exact hyne (hon.expected he)

theorem pairWith_abides {s : State} {slot : Nat} (hne : ∀ c, ctxAt s slot = some c → c.state ≠ .expected) (b : PassIn) :
    Abides s (pairWith s slot b) := by
  have h1 : Abides s (applyPassport (identify s slot b.head) slot b.head b.held) :=
    (identify_passes s slot b.head).trans_mends (applyPassport_mends (identify_state hne b.head) b.head b.held)
  unfold pairWith
  dsimp only
  split
  · exact h1
  · exact h1.trans_steady ((Steady.refl true _).announceCtx slot)

/-- The context whose pairing is awaited has come to the station. -/
theorem awaitedSlot_state {s : State} {slot : Nat} (h : awaitedSlot s = some slot) :
    ∀ c, ctxAt s slot = some c → c.state ≠ .expected := by
  intro c hc he
  obtain ⟨x, hx, hp⟩ := slotOf_some h
  rw [hc] at hx
  cases hx
  simp [he] at hp

theorem tryPair_abides (s : State) : Abides s (tryPair s) := by
  unfold tryPair
  split
  · rename_i b slot _ hslot
    split
    · have h1 := pairWith_abides (awaitedSlot_state hslot) b
      dsimp only
      split
      · exact h1.trans_steady (Steady.refl true _).clearPassIn
      · exact h1.trans_steady ((Steady.refl true _).settlePairing slot)
    · exact .refl s
  · exact .refl s

theorem expireWait_abides (s : State) : Abides s (expireWait s) := by
  unfold expireWait
  split
  · exact ((Steady.refl false s).setBoards (by rfl)).abides
  · rename_i slot hslot
    have hflags : ∀ {t : State} (f : PassFlags → PassFlags), Steady true t
        (settlePairing (reportUnknown (modCtx t slot fun c => { c with flags := f c.flags }) slot) slot) := fun {t} f =>
      ((Steady.modCtx (Steady.refl true t) slot fun c _ =>
        .of_eq (c' := { c with flags := f c.flags }) rfl rfl id rfl rfl rfl rfl rfl (Nat.le_refl _)).reportUnknown
        slot).settlePairing slot
    split
    · rename_i b _
      exact (pairWith_abides (awaitedSlot_state hslot) b).trans_steady
        (hflags fun f => { f with partialPassport := true })
    · exact (Abides.refl s).trans_steady (hflags fun f => { f with noPassport := true })

theorem takeHead_abides (s : State) (sender : Nat) (h : PassHead) : Abides s (takeHead s sender h) := by
  unfold takeHead
  split
  · exact ((Steady.refl false s).setBoards (by rfl)).grows.trans_abides (tryPair_abides _)
  · exact .refl s

theorem takeEntry_abides (s : State) (sender index : Nat) (e : Entry) : Abides s (takeEntry s sender index e) := by
  unfold takeEntry
  split
  · exact .refl s
  · split
    · exact ((Steady.refl false s).setBoards (by rfl)).grows.trans_abides (tryPair_abides _)
    · exact .refl s

/-! ### An unexpected board (R129) -/

theorem lowestExpected_state {s : State} {slot : Nat} (h : lowestExpected s = some slot) :
    ∀ c, ctxAt s slot = some c → c.state = .expected := by
  intro c hc
  obtain ⟨p, -, hp⟩ := List.exists_of_findSome?_eq_some h
  obtain ⟨x, hx, hpass⟩ := slotOf_some hp
  rw [hc] at hx
  cases hx
  simp only [Bool.and_eq_true, beq_iff_eq] at hpass
  exact hpass.1

theorem unexpectedBoard_abides (s : State) : Abides s (unexpectedBoard s) := by
  have h1 : Grows s (if (emptySlot s).isSome then s else removeAt s (lowestExpected s)) := by
    split
    · exact .refl s
    · exact removeAt_grows fun slot c hs hc => lowestExpected_state hs c hc
  unfold unexpectedBoard
  dsimp only
  generalize (if (emptySlot s).isSome then s else removeAt s (lowestExpected s)) = s1 at h1
  split
  · exact h1.passes.abides
  · rename_i slot hslot
    have hfill : Grows s1 (setSlot s1 slot (some (unexpectedCtx ((cfg s).station - 1)))) :=
      fillSlot_grows (ctxAt_of_emptySlot hslot) (by simp [Context.fits, unexpectedCtx, Context.created, Context.entryCount])
        rfl
    have hwait := ((Steady.refl false (setSlot s1 slot (some (unexpectedCtx ((cfg s).station - 1))))).closeAllAhead).setBoards
      (v := { (closeAllAhead (setSlot s1 slot (some (unexpectedCtx ((cfg s).station - 1))))).boards with
        passWait := some (ms (cfg s).passportWait) }) rfl
    exact ((h1.trans hfill).trans hwait.grows).trans_abides (tryPair_abides _)

/-! ### A transfer completes, a board is withdrawn (R128, R139) -/

theorem Abides.trans_completeTransfer {s t : State} (h : Abides s t) : Abides s (completeTransfer t) := by
  have h1 := (h.trans_steady (Steady.refl true t).reportResult).trans_thins
    (removeAt_thins (reportResult t) (departingSlot t))
  exact h1.trans_steady (Steady.stopAtTransferEnd ((Steady.refl true _).becomeCurrent.setBoards (by rfl)))

theorem Abides.trans_tryComplete {s t : State} (h : Abides s t) : Abides s (tryComplete t) := by
  unfold tryComplete
  split
  · split
    · exact h.trans_completeTransfer
    · exact h
  · exact h

theorem hearWithdraw_abides (s : State) (n : Nat) : Abides s (hearWithdraw s n) := by
  have h1 : Abides s (removeAt s (slotOfSerial s n)) := (Abides.refl s).trans_thins (removeAt_thins s _)
  have h2 : ∀ held : Bool, Abides s
      (if held then clearPassIn (removeAt s (slotOfSerial s n)) else removeAt s (slotOfSerial s n)) := fun held => by
    split
    · exact h1.trans_steady (Steady.refl true _).clearPassIn
    · exact h1
  exact (h2 _).trans_tryComplete

end Sys2Proof.Machine
end

section
/-! SUPPORT. The work of each command keeps the laws of the chapters: `Steady` for most, `Abides` for an insertion, the jaws that
take an item, and a run reset. -/

namespace Sys2Proof.Machine

namespace Steady

variable {q : Bool} {b s : State}

/-! ### The table requests (R89, R92) -/

/-- An operation begins at a configured station, within the travel. -/
theorem setOp_of_run (h : Steady q b s) {op : Operation} (hr : s.jam.run ≠ .unconfigured)
    (hf : TableOk s → op.fits s = true) : Steady q b (Machine.setOp s op) :=
  h.setOp fun _ ht => ht.withOp (hf ht) fun hu => absurd hu hr

theorem takeHome (h : Steady q b s) (hr : s.jam.run ≠ .unconfigured) : Steady q b (takeHome s) := by
  have h1 : Steady q b (Machine.setPositioning (Machine.setLast s { s.pose.last with valid := false }) none) :=
    (h.setLast _).setPositioning none
  have h2 := h1.setTable (v := { s.table with homeValid := false, op := .home (HomeRun.waiting (ms (cfg s).homeLimit)) })
    fun _ ht => ⟨ht.counters, rfl, fun hu => absurd hu hr, ht.travels⟩
  unfold Machine.takeHome
  dsimp only
  split
  · exact h2
  · exact h2.beginHome

theorem takeJog (h : Steady q b s) {ax : Axis} {target : Nat} (hr : s.jam.run ≠ .unconfigured)
    (htarget : target ≤ travel s ax) (check : Bool) : Steady q b (takeJog s ax target check) := by
  have h1 : Steady q b (Machine.setOp s (.jog ax check (jogMotion s ax target))) := by
    refine h.setOp_of_run hr fun ht => Motion.fits_iff.mpr ⟨?_, fun a => by cases a <;> rfl⟩
    cases ax
    · exact ⟨htarget, ht.counters .y⟩
    · exact ⟨ht.counters .x, htarget⟩
  unfold Machine.takeJog
  dsimp only
  split
  · exact h1.setPositioning _
  · exact (h1.setPositioning _).resumeTable

theorem reachHome (h : Steady q b s) (ax : Axis) : Steady q b (reachHome s ax) := by
  unfold Machine.reachHome
  split
  · split
    · exact (h.homeZero ax).testHome
    · exact h
  · exact h

theorem reportPosition (h : Steady q b s) (a : Actuator) (v : Nat) : Steady q b (reportPosition s a v) := by
  have h1 := h.settleActuator a v
  unfold Machine.reportPosition
  dsimp only
  split
  · split
    · exact (h1.markHome a).testHome
    · exact h1
  · exact h1

/-! ### The guard (R84, R85) -/

theorem openGuard (h : Steady q b s) : Steady q b (openGuard s) := (h.setInputs _).guardTable.setStroke rfl

theorem resumeShaft (h : Steady q b s) : Steady q b (resumeShaft s) := by
  unfold Machine.resumeShaft
  split
  · exact h.setStroke rfl
  · split
    · exact h.setStroke rfl
    · exact h

theorem commandWanted (h : Steady q b s) (p : Pose) (flip : Bool) (a : Actuator) :
    Steady q b (commandWanted p flip s a) := by
  unfold Machine.commandWanted
  split
  · exact h.commandActuator a _
  · exact h

theorem commandKept (h : Steady q b s) : Steady q b (commandKept s) := by
  have h1 : Steady q b (s.setStroke { s.stroke with keptBack := [] }) := h.setStroke rfl
  unfold Machine.commandKept
  dsimp only
  split
  · split
    · exact h1.foldl (fun _ a hs => hs.commandWanted _ _ a) _
    · exact h1
  · exact h1
  · exact h1

theorem closeGuard (h : Steady q b s) : Steady q b (closeGuard s) :=
  ((h.setInputs _).setClamp _).resumeTable.commandKept.resumeShaft

/-! ### Marks (R101 to R112) -/

theorem openJaws (h : Steady q b s) : Steady q b (openJaws s) := by
  unfold Machine.openJaws
  dsimp only
  split
  · exact (h.countEjected _).emptyJaw rfl
  · exact h.emptyJaw rfl

theorem restoreStep (h : Steady q b s) (m : Mark) : Steady q b (restoreStep s m) := by
  have h1 := h.restoreMark m
  unfold Machine.restoreStep
  cases m
  case up => exact h1.openJaws
  case gate =>
    dsimp only
    split
    · exact h1.setStroke rfl
    · exact h1
  all_goals exact h1

theorem advanceWork (h : Steady false b s) (r : Revolution) : Steady false b (advanceWork s r) := by
  unfold Machine.advanceWork
  split
  · have h1 := h.missLead
    dsimp only
    split
    · refine stopAlarm ?_ _ _
      exact h1.setStroke rfl
    · exact h1.startChainStep
  · exact h.startChainStep

theorem dropMarkWork (h : Steady false b s) (r : Revolution) : Steady false b (dropMarkWork s r) := by
  unfold Machine.dropMarkWork
  split
  · exact h.setHold.setStroke rfl
  · exact h.dropWork

theorem gateWork (h : Steady false b s) (r : Revolution) : Steady false b (gateWork s r) := by
  unfold Machine.gateWork
  dsimp only
  split
  · exact h.missDrops.holdAtGate
  · exact h.missDrops.leaveGate

theorem clinchWork (h : Steady q b s) (r : Revolution) : Steady q b (clinchWork s r) := by
  unfold Machine.clinchWork
  split
  · exact h.setStroke rfl
  · exact h

theorem upWork (h : Steady false b s) (r : Revolution) : Steady false b (upWork s r) := by
  unfold Machine.upWork
  dsimp only
  split
  · exact ((h.openJaws.setRev _).countSuspect _).stopAlarm _ _
  · exact h.openJaws

/-! ### REST (R75, R112, R173) -/

theorem measurePeriod (h : Steady q b s) (r : Revolution) : Steady q b (measurePeriod s r) := by
  unfold Machine.measurePeriod
  split
  · exact h
  · exact h.setPose _

theorem creditUp (h : Steady q b s) : Steady q b (creditUp s) := by
  unfold Machine.creditUp
  split
  · split
    · exact h.setPositioning _
    · exact h
  · exact h

theorem endPurge (h : Steady q b s) : Steady q b (endPurge s) := by
  refine setJam (h.of_clips fun hk => ?_) Iff.rfl
  exact hk.map (fun _ => .empty) (fun _ _ hi => by cases hi) rfl

theorem countPurge (h : Steady q b s) (r : Revolution) : Steady q b (countPurge s r) := by
  unfold Machine.countPurge
  split
  · split
    · exact h.endPurge
    · exact h.setJam Iff.rfl
  · exact h

theorem standAtRest (h : Steady q b s) : Steady q b (standAtRest s) := h.setStroke rfl

theorem endRevolution (h : Steady q b s) (r : Revolution) : Steady q b (endRevolution s r) :=
  ((h.standAtRest.measurePeriod r).creditUp).countPurge r

/-! ### Confirms (R35, R104) -/

theorem releasePitch (h : Steady false b s) : Steady false b (releasePitch s) := by
  unfold Machine.releasePitch
  split
  · refine restartMarks ?_
    exact h.dropWork.setStroke rfl
  · exact h

theorem confirmPitch (h : Steady false b s) : Steady false b (confirmPitch s) := by
  refine releasePitch (chainAdvance ?_)
  exact h.setStroke rfl

/-! ### The line, the boards, run control -/

theorem noteLine (h : Steady q b s) (released : Bool) : Steady q b (noteLine s released) :=
  (h.setInputs _).setBoards (by rfl)

theorem takeIndex (h : Steady q b s) : Steady q b (takeIndex s) := by
  refine statusOnChange (updateHold (beginTransfer ?_)) s
  exact h.setBoards rfl

theorem jamTransfer (h : Steady false b s) (t : Transfer) : Steady false b (jamTransfer s t) := by
  refine stopAlarm ?_ _ _
  exact h.setBoards rfl

theorem resumeTransfer (h : Steady q b s) : Steady q b (resumeTransfer s) := h.setBoards rfl

theorem setRun (h : Steady q b s) {r : RunState} (hr : r ≠ .unconfigured) (hs : s.jam.run ≠ .unconfigured) :
    Steady q b (setRun s r) :=
  h.setJam (iff_of_false hr hs)

theorem setStopping (h : Steady q b s) (k : StopQualifier) (hs : s.jam.run ≠ .unconfigured) :
    Steady q b (setStopping s k) :=
  h.setJam (iff_of_false nofun hs)

theorem closeCurrent (h : Steady false b s) : Steady false b (closeCurrent s) := by
  unfold Machine.closeCurrent
  split
  · exact h.planClose _
  · exact h

theorem ackAlarm (h : Steady q b s) (n : Nat) : Steady q b (ackAlarm s n) := h.setJam Iff.rfl

theorem leaveHalted (h : Steady q b s) : Steady q b (leaveHalted s) := by
  unfold Machine.leaveHalted
  split
  · rename_i hr
    exact h.setRun (by split <;> decide) (by rw [hr.1]; decide)
  · exact h

theorem dropAlarm (h : Steady q b s) (e : AlarmEntry) : Steady q b (dropAlarm s e) := by
  have h1 : Steady q b (s.setJam { s.jam with alarms := s.jam.alarms.filter (·.number != e.number) }) := h.setJam Iff.rfl
  unfold Machine.dropAlarm
  dsimp only
  split
  · exact h1.leaveHalted
  · exact h1

theorem noteTapeEnd (h : Steady q b s) (d : Nat) (active : Bool) : Steady q b (noteTapeEnd s d active) := by
  unfold Machine.noteTapeEnd
  dsimp only
  split
  · exact (h.modDisp d _).report _
  · exact h.modDisp d _

/-! ### Sending (R144, R147) -/

/-- A frame that leaves the normal queue leaves it in its form. -/
theorem leaveSource (h : Steady q b s) (o : Option Source) : Steady q b (leaveSource s o) := by
  unfold Machine.leaveSource
  split
  · exact h.setLine id
  · exact h.setBoards rfl
  · exact h.setLine fun ho =>
      (leaveSource_sound (s.withSlots []) (some .normal) ⟨fun _ hx => absurd hx List.not_mem_nil, ho⟩).2
  · exact h

theorem sentFrame (h : Steady q b s) (x : Sending) : Steady q b (sentFrame s x) := by
  unfold Machine.sentFrame
  dsimp only
  exact (h.leaveSource _).setLine id

theorem failedFrame (h : Steady q b s) (x : Sending) : Steady q b (failedFrame s x) := h.setLine id

theorem dropFrame (h : Steady q b s) : Steady q b (dropFrame s) := h.setLine id

end Steady
end Sys2Proof.Machine
end

section
/-! SUPPORT. The insertion of an item, the jaws that take one, the commands that bring or take boards, a run reset, and a
microsecond: each keeps what is final (`Abides`). -/

namespace Sys2Proof.Machine

/-! ### The insertion of an item (R124) -/

/-- An own item INSERTED leaves every other as it is. -/
theorem Context.Carries.insertOwn (c : Context) (i : Nat) : c.Carries (c.insertOwn i) := by
  unfold Context.insertOwn
  split
  case isFalse => exact Context.Onward.carries (.refl false c)
  case isTrue =>
    refine ⟨rfl, fun h => h, fun h _ => h, fun _ j hj => ?_, fun _ h => h, fun _ _ h => .inl h⟩
    rw [Context.ownState_eq] at hj ⊢
    simp only [Context.modOwn, List.getElem?_modify]
    cases ho : c.own[j]? with
    | none => rw [ho] at hj; cases hj
    | some o =>
      rw [ho] at hj
      by_cases hij : i = j
      · simp [hij]
      · simpa [hij] using hj

/-- The entry of an item inserted becomes MADE_UP; one that is MADE_UP stays as it is (R121, R124). -/
theorem Context.Carries.madeUpBy (c : Context) (station : Nat) (k : ItemKey) : c.Carries (c.madeUpBy station k) := by
  unfold Context.madeUpBy
  split
  · refine ⟨rfl, fun h => h, fun h _ => h, fun _ _ h => h, fun _ h => h, fun key n h => .inl ?_⟩
    refine (congrArg (findEntry · key) (List.map_append (l₁ := c.upstream)).symm).trans
      (findEntry_map_madeUp c.entries (fun e => ?_) (fun e n he => ?_) key n h)
    · split
      · split <;> rfl
      · rfl
    · simp [he]
  · rename_i hnone
    split
    · exact Context.Onward.carries (.refl false c)
    · rename_i a ha
      split
      · refine ⟨rfl, fun h => h, fun h _ => h, fun _ _ h => h, fun _ h => h, fun key n h => .inl ?_⟩
        have hkey : a.item.key = k := by simpa using List.find?_some ha
        exact findEntry_insert c.upstream c.ownRun (e := { item := a.item, state := .madeUp station })
          (.inr (hkey ▸ hnone)) key n h
      · exact ⟨rfl, fun h => h, fun h _ => h, fun _ _ h => h, fun _ h => h, fun _ _ h => .inl h⟩

theorem Context.Carries.trans {c c' c'' : Context} (h : c.Carries c') (g : c'.Carries c'')
    (he : c'.entries = c.entries) : c.Carries c'' where
  serial := g.serial.trans h.serial
  expected hx := h.expected (g.expected hx)
  bound hn hi := g.bound (h.bound hn hi) (hi.imp fun i hi => h.own hn i hi)
  own hn i hi := g.own (h.bound hn ⟨i, hi⟩) i (h.own hn i hi)
  adopted k hk := g.adopted k (h.adopted k hk)
  entry k n hk := g.entry k n (he ▸ hk)

theorem Context.Carries.insertAdopted (c : Context) (station : Nat) (k : ItemKey) :
    c.Carries (c.insertAdopted station k) := by
  unfold Context.insertAdopted
  split
  · exact Context.Onward.carries (.refl false c)
  · refine Context.Carries.trans (c' := { c.modAdopted k fun a =>
        if a.state = .inChain ∨ a.state = .pending then { a with state := .inserted } else a with
      madeUpInserted := capAt 65535 (c.madeUpInserted + 1) }) ?_ (.madeUpBy _ station k) rfl
    refine ⟨rfl, fun h => h, fun h _ => h, fun _ _ h => h, fun key h => ?_, fun _ _ h => .inl h⟩
    refine findAdopted_map_inserted c.adopted (fun a => ?_) (fun a ha => ?_) key h
    · split
      · dsimp only
        split <;> rfl
      · rfl
    · simp [ha]

/-- A context that carries what is final, of the board of the item in the jaws. -/
theorem setSlot_abides_of_jaw {s : State} {slot : Nat} {c c' : Context} (hc : ctxAt s slot = some c) (h : c.Carries c')
    (hf : c.fits = true → c'.fits = true) (hj : s.stroke.jaw.itemBoard = some slot) :
    Abides s (setSlot s slot (some c')) where
  toSustains := by
    refine setSlot_sustains hc hf h.expected fun hjaw he => ?_
    obtain ⟨x, hx, hne⟩ := hjaw slot hj
    rw [hc] at hx
    cases hx
    exact absurd (h.expected he) hne
  final i x x' hx hx' _ := by
    rw [ctxAt_setSlot] at hx'
    split at hx'
    case isTrue hi =>
      obtain ⟨rfl, -⟩ := hi
      rw [hc] at hx
      cases hx
      cases hx'
      exact .inr h
    case isFalse =>
      rw [hx] at hx'
      cases hx'
      exact .inr (Context.Onward.carries (.refl false x))

/-- The insertion report for the item in the jaws (R124). -/
theorem reportInserted_abides {s : State} {board : Option Nat} (hj : s.stroke.jaw.itemBoard = board) (k : ItemKey)
    (o : Origin) : Abides s (reportInserted s board k o) := by
  unfold reportInserted
  split
  · exact .refl s
  · rename_i slot
    split
    · exact .refl s
    · rename_i c hc
      split
      · exact setSlot_abides_of_jaw hc (.insertAdopted c _ k)
          (Context.fits_of_sound fun h => Context.sound_insertAdopted h _ k) hj
      · split
        · exact setSlot_abides_of_jaw hc (.insertOwn c _)
            (Context.fits_of_sound fun h => (Context.sound_insertOwn readyStore c _).mpr h) hj
        · exact .refl s

theorem downWork_abides (s : State) (r : Revolution) : Abides s (downWork s r) := by
  have h1 : Steady false s (s.setStroke { s.stroke with
      descentOut := true, jawOut := false, rev := some { r with clinch := .awaited } }) :=
    (Steady.refl false s).setStroke rfl
  unfold downWork
  split
  · dsimp only
    split
    · rename_i k board p f o hjaw
      exact h1.grows.trans_abides (reportInserted_abides (by exact congrArg Jaw.itemBoard hjaw) k o)
    · exact h1.abides
  · exact .refl s

/-! ### The jaws take an item (R102) -/

/-- The item that an INSERT takes is one of the CURRENT board. -/
theorem insertClip_current {s : State} {i : ClipItem} {flip : Bool} (h : insertClip s = some (i, flip)) :
    ∃ c, ctxAt s i.board = some c ∧ c.state ≠ .expected := by
  unfold insertClip at h
  split at h
  · split at h
    case isTrue hcur =>
      cases h
      obtain ⟨c, hc, hp⟩ := slotOf_some hcur
      exact ⟨c, hc, fun he => by simp [he] at hp⟩
    case isFalse => cases h
  · cases h

theorem transferWork_abides (s : State) (r : Revolution) : Abides s (transferWork s r) := by
  have hindex : Abides s (transferIndex s r) := ((Steady.refl false s).transferIndex r).abides
  unfold transferWork
  split
  · exact ((Steady.refl false s).emptyJaw rfl).abides
  · exact hindex
  · split
    · rename_i i flip hi
      split
      · have hclip : Steady false s (setClip s 0 .empty) := (Steady.refl false s).setClip_dead 0 rfl
        obtain ⟨c, hc, hne⟩ := insertClip_current hi
        refine { setup := rfl, unconfigured := Iff.rfl, clips := fun h => (hclip.clips h).congr rfl rfl,
                 table := fun hk ht => (hclip.table hk ht).congr rfl rfl rfl rfl Iff.rfl, orderly := id,
                 fits := fun h j x hx => h j x hx, untouched := fun _ h j x hx => h j x hx, jaw := fun _ b hb => ?_,
                 final := fun j x x' hx hx' _ => ?_ }
        · obtain rfl : i.board = b := Option.some.inj hb
          exact ⟨c, hc, hne⟩
        · have hsame : ctxAt s j = some x' := hx'
          rw [hx] at hsame
          cases hsame
          exact .inr (Context.Onward.carries (.refl false x))
      · exact hindex
    · exact hindex

/-! ### Boards that come and go (R127 to R138) -/

theorem takeBoard_grows {s : State} {slot : Nat} (hn : ctxAt s slot = none) (n id : Nat) (m : BitVec 8) :
    Grows s (takeBoard s slot n id m) := by
  have h1 := (Steady.refl false s).setBoards
    (v := { s.boards with load := some { serial := n, programId := id, mask := m } }) rfl
  exact (h1.grows.trans (createCtx_grows (by exact hn) n id 0 m)).trans ((Steady.refl false _).queueAnnounce n id 0 m).grows

theorem boardAtStop_abides (s : State) (t : Transfer) : Abides s (boardAtStop s t) := by
  have h1 : Abides s (if (arrivingSlot s).isSome then s else unexpectedBoard s) := by
    split
    · exact .refl s
    · exact unexpectedBoard_abides s
  have h2 := h1.trans_steady ((Steady.refl true _).setClamp true)
  unfold boardAtStop
  refine Abides.trans_tryComplete (h2.trans_steady ?_)
  exact (Steady.refl true _).setBoards rfl

/-- A transfer may complete after the boards' own work. -/
theorem tryComplete_abides {s t : State} (h : Steady false s t) : Abides s (tryComplete t) := h.abides.trans_tryComplete

theorem takeStart_abides {s : State} (hr : s.jam.run ≠ .unconfigured) : Abides s (takeStart s) :=
  tryComplete_abides (((Steady.refl false s).setRun (by decide) hr).resumeTransfer)

/-! ### Run reset (R172) -/

/-- After a run reset no context is held, no clip is live, and no item is in the jaws. -/
theorem takeReset_abides {s : State} (hr : s.jam.run ≠ .unconfigured) : Abides s (takeReset s) := by
  have hnone : ∀ i, ctxAt (takeReset s) i = none := fun i => by
    show (List.replicate 5 (none : Option Context)).getD i none = none
    rw [List.getD_eq_getElem?_getD, List.getElem?_replicate]
    split <;> rfl
  have hrun : (takeReset s).jam.run ≠ .unconfigured := by
    show (if s.table.homeValid then RunState.ready else .idle) ≠ .unconfigured
    split <;> decide
  refine { setup := rfl, unconfigured := iff_of_false hrun hr, clips := fun h => ?_, table := fun _ h => ?_, orderly := id,
           fits := fun _ i c hc => ?_, untouched := fun _ _ i c hc => ?_, jaw := fun _ b hb => ?_,
           final := fun i _ c hc hc' => ?_ }
  · refine h.of_live rfl fun p i hi => ?_
    have hmap : ((s.chain.clips.map fun _ => Clip.unknown).getD p .unknown).live = some i := hi
    rw [List.getD_eq_getElem?_getD, List.getElem?_map] at hmap
    cases hp : s.chain.clips[p]? <;> simp [hp, Clip.live] at hmap
  · exact h.congr rfl rfl rfl rfl (iff_of_false hrun hr)
  · rw [hnone] at hc; cases hc
  · rw [hnone] at hc; cases hc
  · have hjaw : (resetStroke s.stroke).jaw.itemBoard = some b := hb
    unfold resetStroke at hjaw
    cases hk : s.stroke.jaw <;> simp [hk, Jaw.itemBoard] at hjaw
  · rw [hnone] at hc'; cases hc'

end Sys2Proof.Machine
end

section
/-! SUPPORT. Every event of the pins keeps what is final and the soundness of the contexts (`Heeds`). -/

namespace Sys2Proof.Machine

/-- A command keeps what is final, and every context sound (R2, R55, R120, R147). -/
structure Heeds (s t : State) : Prop extends Abides s t where
  sound : s.sound → t.sound

section
variable {s t u : State}

theorem Heeds.refl (s : State) : Heeds s s := ⟨.refl s, id⟩

theorem Heeds.of_steady (h : Steady false s t) (hs : s.sound → t.sound) : Heeds s t := ⟨h.abides, hs⟩

theorem Heeds.finish (h : Heeds s t) (atUp : Bool) (before : State) : Heeds s (finish atUp before t) :=
  ⟨h.toAbides.trans_steady ((Steady.refl true t).finish atUp before), fun hs => by simp [h.sound hs]⟩

/-- What goes on without leaving the station, and then heeds. -/
theorem Heeds.after (g : Heeds t u) (h : Steady false s t) (hs : s.sound → t.sound) : Heeds s u :=
  ⟨h.grows.trans_abides g.toAbides, fun hb => g.sound (hs hb)⟩

theorem leads_heeds {atUp : Bool} {before : State} (h : Heeds s u) :
    Leads (Heeds s) (.next (Machine.finish atUp before u)) := h.finish _ _

theorem leads_heeds_if {p : Prop} [Decidable p] {atUp : Bool} {before : State} (h : p → Heeds s u) :
    Leads (Heeds s) (if p then .next (Machine.finish atUp before u) else .next s) :=
  leads_ite (fun hp => (h hp).finish _ _) fun _ => .refl s

theorem withMark_heeds (s : State) (m : Mark) {work : State → Revolution → State} (hw : ∀ u r, Heeds u (work u r)) :
    Heeds s (withMark s m work) := by
  unfold withMark
  split
  · exact Heeds.finish (.of_steady ((Steady.refl false s).restoreStep m) (restoreStep_sound s m)) _ _
  · split
    · split
      · exact ((hw _ _).after ((Steady.refl false s).takeMark _ m) id).finish _ _
      · exact .refl s
    · exact .refl s

theorem hear_heeds (s : State) (k : FrameKind) (f : HeardFrame) {act : State → Nat → Frame → State}
    (ha : ∀ u n c, Heeds u (act u n c)) : Heeds s (hear s k f act) := by
  unfold hear
  split
  · exact .of_steady (Steady.refl false s).dropFrame (dropFrame_sound s)
  case h_2 n c _ =>
    have hchecked : Steady false s (checkDuplicate (markSender s n c) n) :=
      ((Steady.refl false s).markSender n c).checkDuplicate n
    have hsound : s.sound → (checkDuplicate (markSender s n c) n).sound := fun hb => by simp [hb]
    dsimp only
    refine Heeds.finish ?_ _ _
    split
    · exact (ha _ _ _).after hchecked hsound
    · exact .of_steady hchecked hsound

/-- The frame in transmission closed to replacement (R147). -/
theorem orderly_begun {l : Line} (h : l.orderly) (x : Option Sending) (b : Bool) :
    ({ l with sending := x, begunNormal := l.begunNormal || b } : Line).orderly := by
  obtain ⟨hkinds, hannounces, hstatuses⟩ := h
  refine ⟨hkinds, hannounces, le_trans ?_ hstatuses⟩
  refine List.Sublist.length_le (List.Sublist.filter _ ?_)
  unfold Line.openNormal
  cases hb : l.begunNormal with
  | true => exact List.Sublist.refl _
  | false =>
    cases b with
    | true => exact List.drop_sublist 1 _
    | false => exact List.Sublist.refl _

end

/-! ### Events one by one -/

theorem execRestMark_heeds (s : State) : Leads (Heeds s) (execRestMark s) := by
  refine leads_ite (fun _ => leads_heeds
    (.of_steady (Steady.refl false s).standAtRest.tryStart fun hb => by simp [hb])) fun _ => ?_
  split
  · exact leads_heeds_if fun _ =>
      .of_steady ((Steady.refl false s).endRevolution _).tryStart fun hb => by simp [hb]
  · exact .refl s

theorem execLeadSenseConfirm_heeds (s : State) : Leads (Heeds s) (execLeadSenseConfirm s) := by
  unfold execLeadSenseConfirm
  split
  · exact leads_ite (fun _ => .of_steady ((Steady.refl false s).setStroke (by rfl)) id) fun _ => .refl s
  · exact .refl s

theorem execVerifyWord_heeds (s : State) (bits : List Bool) : Leads (Heeds s) (execVerifyWord bits s) := by
  unfold execVerifyWord
  split
  · exact leads_heeds_if fun _ => .of_steady ((Steady.refl false s).applyResult _ _) (applyResult_sound s _ _)
  · exact .refl s

theorem execClinchConfirm_heeds (s : State) : Leads (Heeds s) (execClinchConfirm s) := by
  unfold execClinchConfirm
  split
  · exact leads_ite (fun _ => .of_steady ((Steady.refl false s).setRev _) id) fun _ => .refl s
  · exact .refl s

theorem execActuatorInPosition_heeds (s : State) (a : Actuator) : Leads (Heeds s) (execActuatorInPosition a s) := by
  unfold execActuatorInPosition
  split
  · exact leads_heeds (.of_steady ((Steady.refl false s).reportPosition _ _) (reportPosition_sound s _ _))
  · exact .refl s

theorem execGateHoldLimitExpiry_heeds (s : State) : Leads (Heeds s) (execGateHoldLimitExpiry s) := by
  refine leads_ite (fun _ => ?_) fun _ => .refl s
  have h1 : Steady false s (s.setStroke { s.stroke with gateTimer := none }) := (Steady.refl false s).setStroke rfl
  split
  · exact leads_heeds (.of_steady (h1.stopAlarm _ _) fun hb => by simp [hb])
  · exact leads_heeds (.of_steady h1 id)

theorem execAxisStep_heeds (s : State) (ax : Axis) : Leads (Heeds s) (execAxisStep ax s) := by
  have hmotion : ∀ {m : Motion}, s.table.op.motion = some m → m.steps ax = true → Heeds s (stepMotion s ax m) :=
    fun hm hs => .of_steady ((Steady.refl false s).stepMotion hm (by
      simp only [Motion.steps, Bool.and_eq_true, Bool.not_eq_true'] at hs; exact hs.2)) (stepMotion_sound s ax _)
  unfold execAxisStep
  split
  · exact .refl s
  · rename_i hop; exact leads_heeds_if fun hs => hmotion (by rw [hop]; rfl) hs
  · rename_i hop; exact leads_heeds_if fun hs => hmotion (by rw [hop]; rfl) hs
  · rename_i h hop
    exact leads_heeds_if fun _ => .of_steady ((Steady.refl false s).stepHome ax hop) (stepHome_sound s ax h)

theorem execSettleExpiry_heeds (s : State) : Leads (Heeds s) (execSettleExpiry s) := by
  unfold execSettleExpiry
  split
  · exact leads_heeds_if fun _ => .of_steady (Steady.refl false s).completeMotion (completeMotion_sound s)
  · exact .refl s

theorem execHomeLimitExpiry_heeds (s : State) : Leads (Heeds s) (execHomeLimitExpiry s) := by
  unfold execHomeLimitExpiry
  split
  · exact leads_heeds_if fun _ => .of_steady ((Steady.refl false s).stopAlarm _ _) (stopAlarm_sound s _ _)
  all_goals exact .refl s

theorem execDropConfirm_heeds (s : State) (d : Fin 64) : Leads (Heeds s) (execDropConfirm d s) := by
  unfold execDropConfirm
  split
  · exact leads_heeds (.of_steady ((Steady.refl false s).confirmDrop _ _) (confirmDrop_sound s _ _))
  · exact leads_heeds (.of_steady ((Steady.refl false s).lateConfirm _ _) (lateConfirm_sound s _ _))
  · exact .refl s

theorem execEntrySensor_heeds (s : State) : Leads (Heeds s) (execEntrySensor s) := by
  unfold execEntrySensor
  split
  · exact leads_heeds (Heeds.after ⟨boardAtStop_abides _ _, boardAtStop_sound _ _⟩
      ((Steady.refl false s).setInputs _) (by exact id))
  · exact leads_heeds (.of_steady ((Steady.refl false s).setInputs _) id)

theorem execExitSensor_heeds (s : State) : Leads (Heeds s) (execExitSensor s) := by
  unfold execExitSensor
  split
  · exact leads_heeds ⟨tryComplete_abides ((Steady.refl false s).setBoards (by rfl)), fun hb => by simp [hb]⟩
  · exact .refl s

theorem execTransferLimitExpiry_heeds (s : State) : Leads (Heeds s) (execTransferLimitExpiry s) := by
  unfold execTransferLimitExpiry
  split
  · exact leads_heeds_if fun _ => .of_steady ((Steady.refl false s).jamTransfer _) (jamTransfer_sound s _)
  · exact .refl s

theorem execFrameBegin_heeds (s : State) : Leads (Heeds s) (execFrameBegin s) := by
  unfold execFrameBegin
  split
  · exact leads_ite (fun _ => .of_steady ((Steady.refl false s).setLine fun h => orderly_begun h _ _)
      fun hb => ⟨hb.1, orderly_begun hb.2 _ _⟩) fun _ => .refl s
  · exact .refl s

theorem execFrameSent_heeds (s : State) : Leads (Heeds s) (execFrameSent s) := by
  unfold execFrameSent
  split
  · exact leads_heeds (.of_steady ((Steady.refl false s).sentFrame _) (sentFrame_sound s _))
  · exact .refl s

theorem execFrameAttemptFailed_heeds (s : State) : Leads (Heeds s) (execFrameAttemptFailed s) := by
  unfold execFrameAttemptFailed
  split
  · exact .of_steady ((Steady.refl false s).failedFrame _) (failedFrame_sound s _)
  · exact .refl s

/-- An event keeps what is final, and every context sound. -/
theorem exec_event_heeds (s : State) : ∀ c : Instr, c.request = none → c ≠ .pinReset → (∀ n b, c ≠ .unknownRequest n b) →
    Leads (Heeds s) (exec c s)
  | .pinReset, _, h, _ => absurd rfl h
  | .unknownRequest n b, _, _, h => absurd rfl (h n b)
  | .readTransaction _, _, _, _ => .refl s
  | .withdrawClampOpen, _, _, _ => leads_heeds_if fun _ =>
      .of_steady (((Steady.refl false s).setClamp false).setBoards (by rfl)) fun hb => by simp [hb]
  | .revolutionStart, _, _, _ => leads_heeds_if fun _ => .of_steady (Steady.refl false s).tryStart (tryStart_sound s)
  | .restoringTurnStart, _, _, _ => leads_heeds_if fun _ =>
      .of_steady (Steady.refl false s).startRestoring (startRestoring_sound s)
  | .restMark, _, _, _ => execRestMark_heeds s
  | .transferMark, _, _, _ => withMark_heeds s _ fun u r => ⟨transferWork_abides u r, transferWork_sound u r⟩
  | .advanceMark, _, _, _ => withMark_heeds s _ fun u r =>
      .of_steady ((Steady.refl false u).advanceWork r) (advanceWork_sound u r)
  | .leadSenseConfirm, _, _, _ => execLeadSenseConfirm_heeds s
  | .pitchConfirm, _, _, _ => leads_heeds_if fun _ =>
      .of_steady (Steady.refl false s).confirmPitch (confirmPitch_sound s)
  | .dropMark, _, _, _ => withMark_heeds s _ fun u r =>
      .of_steady ((Steady.refl false u).dropMarkWork r) (dropMarkWork_sound u r)
  | .verifyMark, _, _, _ => withMark_heeds s _ fun u _ => .of_steady (Steady.refl false u).verifyWork (verifyWork_sound u)
  | .verifyWord bits, _, _, _ => execVerifyWord_heeds s bits
  | .gateMark, _, _, _ => withMark_heeds s _ fun u r =>
      .of_steady ((Steady.refl false u).gateWork r) (gateWork_sound u r)
  | .downMark, _, _, _ => withMark_heeds s _ fun u r => ⟨downWork_abides u r, downWork_sound u r⟩
  | .clinchMark, _, _, _ => withMark_heeds s _ fun u r =>
      .of_steady ((Steady.refl false u).clinchWork r) (clinchWork_sound u r)
  | .clinchConfirm, _, _, _ => execClinchConfirm_heeds s
  | .upMark, _, _, _ => withMark_heeds s _ fun u r => .of_steady ((Steady.refl false u).upWork r) (upWork_sound u r)
  | .markTimeoutExpiry, _, _, _ => leads_heeds_if fun _ => .of_steady
      (Steady.stopAlarm ((Steady.refl false s).setStroke (by rfl)) .strokeStall .none) fun hb => by simp [hb]
  | .chainTimerExpiry, _, _, _ => leads_heeds_if fun _ =>
      .of_steady ((Steady.refl false s).stopAlarm _ _) (stopAlarm_sound s _ _)
  | .actuatorInPosition a, _, _, _ => execActuatorInPosition_heeds s a
  | .actuatorTimerExpiry _, _, _, _ => leads_heeds_if fun _ =>
      .of_steady ((Steady.refl false s).stopAlarm _ _) (stopAlarm_sound s _ _)
  | .gateHoldLimitExpiry, _, _, _ => execGateHoldLimitExpiry_heeds s
  | .axisStep ax, _, _, _ => execAxisStep_heeds s ax
  | .settleExpiry, _, _, _ => execSettleExpiry_heeds s
  | .indexMark ax, _, _, _ => leads_ite
      (fun _ => leads_heeds (.of_steady (((Steady.refl false s).setInputs _).stopAlarm _ _) fun hb => by simp [hb]))
      fun _ => leads_heeds (.of_steady (((Steady.refl false s).setInputs _).homeIndex ax) fun hb => by simp [hb])
  | .homeInput ax, _, _, _ => leads_heeds
      (.of_steady (((Steady.refl false s).setInputs _).reachHome ax) fun hb => by simp [hb])
  | .homeLimitExpiry, _, _, _ => execHomeLimitExpiry_heeds s
  | .guardOpen, _, _, _ => leads_ite (fun _ => .refl s) fun _ =>
      leads_heeds (.of_steady (Steady.refl false s).openGuard (openGuard_sound s))
  | .guardClose, _, _, _ => leads_heeds_if fun _ => .of_steady (Steady.refl false s).closeGuard (closeGuard_sound s)
  | .tapeEnd d active, _, _, _ => .of_steady ((Steady.refl false s).noteTapeEnd d active) fun hb => by simp [hb]
  | .dropConfirm d, _, _, _ => execDropConfirm_heeds s d
  | .indexHoldLevelChange released, _, _, _ =>
      .of_steady ((Steady.refl false s).noteLine released) fun hb => by simp [hb]
  | .lineIndex, _, _, _ => leads_heeds_if fun _ =>
      ⟨tryComplete_abides (Steady.refl false s).takeIndex, fun hb => by simp [hb]⟩
  | .entrySensor, _, _, _ => execEntrySensor_heeds s
  | .exitSensor, _, _, _ => execExitSensor_heeds s
  | .clampClosed, _, _, _ => leads_heeds_if fun _ =>
      ⟨tryComplete_abides ((Steady.refl false s).setInputs _), fun hb => by simp [hb]⟩
  | .transferLimitExpiry, _, _, _ => execTransferLimitExpiry_heeds s
  | .passportWaitExpiry, _, _, _ => leads_heeds_if fun _ => ⟨expireWait_abides s, expireWait_sound s⟩
  | .silenceExpiry _, _, _, _ => leads_heeds_if fun _ =>
      .of_steady ((Steady.refl false s).modRoster _ _) fun hb => by simp [hb]
  | .statusIntervalExpiry, _, _, _ => leads_ite
      (fun _ => .of_steady (Steady.refl false s).queueStatus (queueStatus_sound s)) fun _ => .refl s
  | .frameBegin, _, _, _ => execFrameBegin_heeds s
  | .frameSent, _, _, _ => execFrameSent_heeds s
  | .frameAttemptFailed, _, _, _ => execFrameAttemptFailed_heeds s
  | .frameDropped, _, _, _ => .of_steady (Steady.refl false s).dropFrame (dropFrame_sound s)
  | .withdrawFrame f, _, _, _ => hear_heeds s _ f fun u _ c => by
      split
      · exact ⟨hearWithdraw_abides u _, hearWithdraw_sound u _⟩
      · exact .refl u
  | .claimFrame f, _, _, _ => hear_heeds s _ f fun u _ c => by
      split
      · exact .of_steady ((Steady.refl false u).hearClaim _ _) (hearClaim_sound u _ _)
      · exact .refl u
  | .oweFrame f, _, _, _ => hear_heeds s _ f fun u _ c => by
      split
      · exact .of_steady ((Steady.refl false u).hearOwe _ _) (hearOwe_sound u _ _)
      · exact .refl u
  | .announceFrame f, _, _, _ => hear_heeds s _ f fun u _ c => by
      split
      · exact ⟨(hearAnnounce_grows u _ _ _ _).passes.abides, hearAnnounce_sound u _ _ _ _⟩
      · exact .refl u
  | .passportHead f, _, _, _ => hear_heeds s _ f fun u _ c => by
      split
      · exact ⟨takeHead_abides u _ _, fun hb => by simp [hb]⟩
      · exact .refl u
  | .passportEntry f, _, _, _ => hear_heeds s _ f fun u _ c => by
      split
      · exact ⟨takeEntry_abides u _ _ _, fun hb => by simp [hb]⟩
      · exact .refl u
  | .statusFrame f, _, _, _ => hear_heeds s _ f fun u _ _ => .refl u
  | .entrySensorEmpty, _, _, _ => leads_heeds (.of_steady ((Steady.refl false s).setInputs _) id)

end Sys2Proof.Machine
end

section
/-! SUPPORT. What a step owes the storage (R1, R2, R34, R79, R121): `Obeys`; events, answers, refusals and the passing of time
have it. -/

namespace Sys2Proof.Machine

/-- A step from a state to another keeps the storage in shape, the laws of the chapters, and what R121 makes final. -/
structure Obeys (s t : State) : Prop where
  shape : Shape s → Shape t
  lawful : Shape s → Lawful s → Lawful t
  keeps : ∀ slot c c', ctxAt s slot = some c → ctxAt t slot = some c' → (c.state = .expected → c.untouched = true) →
    c'.serial = c.serial → c.Keeps c'

/-! ### Nothing final in an untouched context -/

theorem Context.Keeps.refl (c : Context) : c.Keeps c :=
  ⟨fun _ _ h => h, fun k a h ha => by rw [h, Option.map_some, ha], fun _ _ h => .inl h⟩

theorem Context.Keeps.of_untouched {c : Context} (h : c.untouched = true) (c' : Context) : c.Keeps c' := by
  obtain ⟨hown, hadopted, hentries⟩ := c.untouched_iff.mp h
  refine ⟨fun _ i hi => absurd hi (hown i), fun k a hk ha => ?_, fun k n hk => ?_⟩
  · exact absurd ha (hadopted a (List.mem_of_find?_eq_some hk))
  · rw [Context.entryState_eq, findEntry, Option.map_eq_some_iff] at hk
    obtain ⟨e, he, hs⟩ := hk
    have := hentries e (List.mem_of_find?_eq_some he)
    rw [hs] at this
    cases this

/-! ### The laws by blocks -/

section
variable {s t : State}

theorem Lawful.clipsOk (h : Lawful s) : ClipsOk s := ⟨h.liveOnce, h.poses⟩

theorem travel_pos {s : State} (h : ∀ c, s.console.setup = some c → 1 ≤ c.travelX ∧ 1 ≤ c.travelY)
    (hs : s.console.setup ≠ none) (ax : Axis) : 1 ≤ travel s ax := by
  obtain ⟨c, hc⟩ := Option.ne_none_iff_exists'.mp hs
  cases ax <;> simp only [travel, cfg, hc, Option.getD_some]
  exacts [(h c hc).1, (h c hc).2]

theorem Lawful.tableOk (h : Lawful s) (hc : s.jam.run = .unconfigured ↔ s.console.setup = none) : TableOk s where
  counters := h.counters
  operation := h.operation
  idle hu := h.idle (hc.mp hu)
  travels hu := travel_pos h.travels fun hn => hu (hc.mpr hn)

theorem Jaw.itemBoard_iff {j : Jaw} {b : Nat} : j.itemBoard = some b ↔ ∃ k p f o, j = .item k (some b) p f o := by
  cases j with
  | item k board p f o => simp [Jaw.itemBoard]
  | _ => simp [Jaw.itemBoard]

theorem Lawful.jawOk (h : Lawful s) : JawOk s := fun b hb => by
  obtain ⟨k, p, f, o, hj⟩ := Jaw.itemBoard_iff.mp hb
  exact h.jaws k b p f o hj

/-- Every context is sound when each fits its lists and is bound to READY banks alone. -/
theorem sound_iff {s : State} : s.sound ↔
    FitsOk s ∧ (∀ i c b, ctxAt s i = some c → c.bank = some b → (s.store.bank b).state = .ready) ∧ s.line.orderly := by
  constructor
  · intro h
    exact ⟨fun i c hc => ((c.sound_iff _).mp (h.ctx hc)).1, fun i c b hc => ((c.sound_iff _).mp (h.ctx hc)).2 b, h.2⟩
  · rintro ⟨hfits, hbound, hline⟩
    refine ⟨fun o ho c hc => ?_, hline⟩
    obtain ⟨i, hi⟩ := List.mem_iff_getElem?.mp ho
    have hctx : ctxAt s i = some c := by simp [ctxAt, List.getD_eq_getElem?_getD, hi, hc]
    exact (c.sound_iff _).mpr ⟨hfits i c hctx, fun b => hbound i c b hctx⟩

/-! ### Commands that heed the laws and keep the storage -/

theorem Obeys.refl (s : State) : Obeys s s :=
  ⟨id, fun _ h => h, fun slot c c' hc hc' _ _ => by rw [hc] at hc'; cases hc'; exact .refl c⟩

theorem Obeys.of_sized (hz : Sized s → Sized t) (hstore : t.store = s.store) (h : Heeds s t) : Obeys s t where
  shape hs :=
    have hline := h.orderly ⟨hs.normalKinds, hs.announces, hs.statuses⟩
    { hz hs.toSized with
      contexts := h.fits hs.contexts
      banks := hstore ▸ hs.banks
      block := hstore ▸ hs.block
      normalKinds := hline.1
      announces := hline.2.1
      statuses := hline.2.2 }
  lawful hs hl := by
    have hsound := sound_iff.mp (h.sound (sound_iff.mpr ⟨hs.contexts, hl.bound, hs.normalKinds, hs.announces, hs.statuses⟩))
    have hclips := h.clips hl.clipsOk
    have htable := h.table hl.clipsOk (hl.tableOk hs.configured)
    have hjaw := h.jaw hl.jawOk
    refine { bound := hsound.2.1, liveOnce := hclips.once, counters := htable.counters, operation := htable.operation,
             poses := hclips.within, travels := by rw [h.setup]; exact hl.travels, idle := fun hn => htable.idle ?_,
             untouched := h.untouched hl.jawOk hl.untouched,
             jaws := fun k b p f o hj => hjaw b (Jaw.itemBoard_iff.mpr ⟨k, p, f, o, hj⟩) }
    rw [h.unconfigured, hs.configured, ← h.setup]
    exact hn
  keeps slot c c' hc hc' hu hserial := by
    by_cases he : c.state = .expected
    · exact .of_untouched (hu he) c'
    · exact ((h.final slot c c' hc hc' he).resolve_left fun hne => hne hserial).keeps

theorem Obeys.of_heeds (hk : Kept s t) (h : Heeds s t) : Obeys s t :=
  .of_sized hk.sized (congrArg Sizes.store hk.1) h

/-- A first part that leaves the contexts as they are, and what follows. -/
theorem Obeys.after {u : State} (h : Obeys s u) (hc : ctxAt u = ctxAt s) (g : Obeys u t) : Obeys s t where
  shape hs := g.shape (h.shape hs)
  lawful hs hl := g.lawful (h.shape hs) (h.lawful hs hl)
  keeps slot c c' hs ht := g.keeps slot c c' (hc ▸ hs) ht

/-- What a command leaves, with a change that no law reads. -/
theorem Obeys.before {u : State} (h : Obeys s u) (hc : ctxAt t = ctxAt u) (g : Obeys u t) : Obeys s t where
  shape hs := g.shape (h.shape hs)
  lawful hs hl := g.lawful (h.shape hs) (h.lawful hs hl)
  keeps slot c c' hs ht := h.keeps slot c c' hs (hc ▸ ht)

theorem Obeys.finish {u : State} (h : Obeys s u) (hc : ctxAt u = ctxAt s) (atUp : Bool) (before : State) :
    Obeys s (finish atUp before u) :=
  h.after hc (.of_heeds ((Kept.refl u).finish atUp before) ((Heeds.refl u).finish atUp before))

/-! ### The queue and the response -/

theorem Obeys.setPending (s : State) (l : List Instr) : Obeys s (s.setPending l) where
  shape h := { h.toSized.setPending l with
    contexts := h.contexts, banks := h.banks, block := h.block, normalKinds := h.normalKinds, announces := h.announces,
    statuses := h.statuses }
  lawful _ h := ⟨h.bound, h.liveOnce, h.counters, h.operation, h.poses, h.travels, h.idle, h.untouched, h.jaws⟩
  keeps slot c c' hc hc' _ _ := (Obeys.refl s).keeps slot c c' hc hc' ‹_› ‹_›

theorem Obeys.respond (s : State) (rc : ResultCode) (code : Byte) (body : Body) : Obeys s (respond s rc code body) where
  shape h := { h.toSized.respond rc code body with
    contexts := h.contexts, banks := h.banks, block := h.block, normalKinds := h.normalKinds, announces := h.announces,
    statuses := h.statuses }
  lawful _ h := ⟨h.bound, h.liveOnce, h.counters, h.operation, h.poses, h.travels, h.idle, h.untouched, h.jaws⟩
  keeps slot c c' hc hc' _ _ := (Obeys.refl s).keeps slot c c' hc hc' ‹_› ‹_›

/-- A request whose judge answers with states that obey. -/
theorem Obeys.request (s : State) (code : Byte) (len : Nat) (always : Bool) (bytes : List Byte)
    {judge : List Byte → Verdict} (hj : ∀ body, (judge body).Meets (Obeys s)) :
    Obeys s (request s code len always bytes judge) := by
  unfold Machine.request
  split
  · exact .respond s _ _ _
  · rename_i body _
    split
    · exact .respond s _ _ _
    · have hbody := hj body
      unfold Verdict.conclude
      split
      · exact .respond s _ _ _
      · rename_i rc b t hv
        rw [hv] at hbody
        exact hbody.2.before rfl (.respond t _ _ _)

end

/-! ### Time (log 1) -/

theorem AxisMotion.tick_fits (v : AxisMotion) (cur limit : Nat) : v.tick.fits cur limit = v.fits cur limit := by
  cases v <;> rfl

theorem Operation.tick_fits {s : State} (g : Bool) (op : Operation) : (op.tick g).fits s = op.fits s := by
  have hmotion : ∀ m : Motion, m.tick.fits s = m.fits s := fun m => by
    simp only [Motion.fits, Motion.tick, AxisMotion.tick_fits]
    rfl
  cases op with
  | none => rfl
  | move k m => exact hmotion m
  | jog ax c m => exact hmotion m
  | home r => rfl

theorem tick_steady (s : State) : Steady false s (tick s) := by
  have htable : Steady false s (s.setTable { s.table with op := s.table.op.tick s.inputs.guardOpen }) :=
    (Steady.refl false s).setOp fun _ ht => ht.withOp ((Operation.tick_fits _ _).trans ht.operation) fun hu => by
      rw [ht.idle hu]; rfl
  refine Steady.setLine (Steady.setBoards (Steady.setStroke (htable.setPose _) ?_) ?_) ?_
  · rfl
  · rfl
  · exact id

theorem tick_obeys (s : State) : Obeys s (tick s) := by
  refine .of_heeds ⟨?_, id⟩ (.of_steady (tick_steady s) id)
  have hroster : (tick s).line.roster.length = s.line.roster.length := by simp [tick, Line.tick]
  simp only [State.sizes, hroster]
  rfl

theorem idle_obeys (s : State) : Obeys s (idle s) := by
  unfold idle
  split
  · exact .setPending s _
  · exact tick_obeys s

end Sys2Proof.Machine
end

section
/-! SUPPORT. The requests keep the storage and the laws (`Obeys`): the program store (R1, R2, R6 to R17) and the others. -/

namespace Sys2Proof.Machine

/-! ### The program store -/

/-- The banks and the open block within the sizes they declare (R1). -/
structure StoreOk (st : Store) : Prop where
  banks : ∀ b, (st.bank b).fits = true
  block : ∀ ob, st.block = some ob → ob.fits st = true

/-- A program store that a request may leave: in shape, and a READY bank in use stays READY (R1, R2). -/
structure Restores (s : State) (v : Store) : Prop where
  parts : v.parts.length = s.store.parts.length
  fits : StoreOk s.store → StoreOk v
  ready : StoreOk s.store → ∀ b, inUse s b = true → (s.store.bank b).state = .ready → (v.bank b).state = .ready

section
variable {s : State}

theorem inUse_of_ctx {i : Nat} {c : Context} {b : BankId} (hc : ctxAt s i = some c) (hb : c.bank = some b) :
    inUse s b = true := by
  rw [inUse, List.any_eq_true]
  exact ⟨some c, List.mem_of_getElem? (ctxAt_some hc), by simp [hb]⟩

theorem Shape.storeOk (h : Shape s) : StoreOk s.store := ⟨h.banks, h.block⟩

theorem Obeys.setStore {v : Store} (h : Restores s v) : Obeys s (s.setStore v) where
  shape hs := { hs.toSized.setStore v h.parts with
    contexts := hs.contexts, banks := (h.fits hs.storeOk).banks, block := (h.fits hs.storeOk).block,
    normalKinds := hs.normalKinds, announces := hs.announces, statuses := hs.statuses }
  lawful hs hl := { hl with
    bound := fun i c b hc hb => h.ready hs.storeOk b (inUse_of_ctx hc hb) (hl.bound i c b hc hb) }
  keeps slot c c' hc hc' _ _ := (Obeys.refl s).keeps slot c c' hc hc' ‹_› ‹_›

/-- A bank replaced with the open block, of which a READY one in use stays READY. -/
theorem Restores.setBank {b : BankId} {w : Bank} {o : Option OpenBlock} (hw : StoreOk s.store → w.fits = true)
    (ho : StoreOk s.store → ∀ ob, o = some ob → ob.fits { s.store.setBank b w with block := o } = true)
    (hr : StoreOk s.store → inUse s b = true → (s.store.bank b).state = .ready → w.state = .ready) :
    Restores s { s.store.setBank b w with block := o } where
  parts := by cases b <;> rfl
  fits h := by
    refine ⟨fun x => ?_, ho h⟩
    rw [Store.bank_withBlock]
    by_cases hx : x = b
    · rw [hx, Store.bank_setBank_self]; exact hw h
    · rw [Store.bank_setBank_of_ne _ _ hx]; exact h.banks x
  ready h x hu hs := by
    rw [Store.bank_withBlock]
    by_cases hx : x = b
    · rw [hx] at hu hs; rw [hx, Store.bank_setBank_self]; exact hr h hu hs
    · rw [Store.bank_setBank_of_ne _ _ hx]; exact hs

/-- A bank replaced while no block is open. -/
theorem Obeys.putBank {b : BankId} {w : Bank} (hn : s.store.block = none) (hw : StoreOk s.store → w.fits = true)
    (hr : inUse s b = true → (s.store.bank b).state = .ready → w.state = .ready) : Obeys s (putBank s b w) := by
  have hstore : s.store.setBank b w = { s.store.setBank b w with block := none } := by cases b <;> simp [Store.setBank, hn]
  rw [Machine.putBank, hstore]
  exact .setStore (.setBank hw (fun _ _ => nofun) fun _ => hr)

/-- The open block's bank is LOADING. -/
theorem OpenBlock.fits_loading {st : Store} {ob : OpenBlock} (h : ob.fits st = true) :
    (st.bank ob.bank).state = .loading ∧ (1 ≤ ob.size ∧ ob.size ≤ 32) ∧ ob.steps.length ≤ ob.size ∧
    (st.bank ob.bank).steps.length + ob.size ≤ (st.bank ob.bank).declared := by
  simpa only [OpenBlock.fits, Bool.and_eq_true, beq_iff_eq, within_iff, decide_eq_true_eq, and_assoc] using h

/-- A bank that aborts is not READY (R11). -/
theorem Obeys.abortBank {b : BankId} (hb : StoreOk s.store → (s.store.bank b).state ≠ .ready) (c : AbortCause) :
    Obeys s (abortBank s b c) :=
  .setStore (.setBank (fun h => h.banks b) (fun _ _ => nofun) fun h _ hs => absurd hs (hb h))

theorem aborted_obeys {b : BankId} (hb : StoreOk s.store → (s.store.bank b).state ≠ .ready) (c : AbortCause) :
    (aborted s b c).Meets (Obeys s) :=
  (aborted_meets s b c).mono fun _ e => e ▸ .abortBank hb c

theorem openBlock_loading {ob : OpenBlock} (h : s.store.block = some ob) (hs : StoreOk s.store) :
    (s.store.bank ob.bank).state ≠ .ready := by
  rw [(OpenBlock.fits_loading (hs.block ob h)).1]
  decide

theorem unlessOpen_obeys {v : Verdict} (hv : s.store.block = none → v.Meets (Obeys s)) :
    (unlessOpen s v).Meets (Obeys s) :=
  unlessOpen_meets (fun _ h => .abortBank (openBlock_loading h) _) hv

theorem openBank_obeys (body : List Byte) (b : BankId) (hn : s.store.block = none) :
    (openBank s body b).Meets (Obeys s) := by
  unfold openBank
  dsimp only
  split
  · exact .refuse rfl
  · refine meets_ite (fun _ => .refuse rfl) fun hr => meets_ite (fun _ => .refuse rfl) fun hu =>
      meets_ite (fun _ => .refuse rfl) fun _ => .done (.putBank hn (fun _ => ?_) fun hi => absurd hi hu)
    simp only [not_or, Bool.not_eq_true', Bool.not_eq_false, within_iff] at hr
    simp only [Bank.fits, List.length_nil, Nat.zero_le, decide_true, Bool.true_and, decide_eq_true_eq]
    exact hr.2.1.2

theorem beginBlock_obeys (body : List Byte) (b : BankId) : (beginBlock s body b).Meets (Obeys s) := by
  refine meets_ite (fun _ => .refuse rfl) fun hl => ?_
  rw [not_not] at hl
  have habort : ∀ c, (aborted s b c).Meets (Obeys s) := aborted_obeys fun _ hs => by rw [hl] at hs; cases hs
  refine meets_ite (fun _ => habort _) fun hsize => meets_ite (fun _ => habort _) fun hroom => .done ?_
  rw [Bool.not_eq_true, Bool.not_eq_false', within_iff] at hsize
  refine .setStore ⟨rfl, fun h => ⟨h.banks, fun ob he => ?_⟩, fun _ _ _ hs => hs⟩
  cases he
  have hbank : Store.bank { s.store with block := some { bank := b, size := at8 body 1, steps := [] } } b =
      s.store.bank b := Store.bank_withBlock _ _ _
  simp only [OpenBlock.fits, hbank, hl, Bool.and_eq_true, beq_self_eq_true, true_and, within_iff, decide_eq_true_eq,
    List.length_nil]
  exact ⟨⟨hsize, Nat.zero_le _⟩, by omega⟩

theorem takeStep_obeys {ob : OpenBlock} (ho : s.store.block = some ob) (body : List Byte) (b : BankId) :
    (takeStep s ob body b).Meets (Obeys s) := by
  refine meets_ite (fun _ => aborted_obeys (openBlock_loading ho) _) fun hb =>
    meets_ite (fun _ => aborted_obeys (openBlock_loading ho) _) fun hroom => ?_
  rw [not_not] at hb
  split
  · exact aborted_obeys (hb ▸ openBlock_loading ho) _
  · refine .done (.setStore ⟨rfl, fun h => ⟨h.banks, fun x hx => ?_⟩, fun _ _ _ hs => hs⟩)
    obtain rfl := Option.some.inj hx
    obtain ⟨hl, hsize, -, hd⟩ := OpenBlock.fits_loading (h.block ob ho)
    simp only [OpenBlock.fits, Bool.and_eq_true, beq_iff_eq, within_iff, decide_eq_true_eq, List.length_append,
      List.length_cons, List.length_nil]
    exact ⟨⟨⟨hl, hsize⟩, by omega⟩, hd⟩

theorem commitBlock_obeys {ob : OpenBlock} (ho : s.store.block = some ob) (b : BankId) :
    (commitBlock s ob b).Meets (Obeys s) := by
  refine meets_ite (fun _ => aborted_obeys (openBlock_loading ho) _) fun hb => .done ?_
  rw [not_or, not_not, Nat.not_lt] at hb
  obtain ⟨rfl, -⟩ := hb
  refine .setStore (.setBank (fun h => ?_) (fun _ _ => nofun) fun h _ hs => absurd hs (openBlock_loading ho h))
  obtain ⟨-, -, hlen, hd⟩ := OpenBlock.fits_loading (h.block ob ho)
  have hbank := h.banks ob.bank
  simp only [Bank.fits, Bool.and_eq_true, decide_eq_true_eq, List.length_append] at hbank ⊢
  exact ⟨by omega, hbank.2⟩

/-- The contexts that wait for the program are bound: each waits until its turn (R16). -/
theorem bindAtClose_steady (b : BankId) (p : Nat) : Steady false s (bindAtClose s b p) := by
  have hfold : ∀ (l : List Nat) (t : State), l.Nodup → (∀ i ∈ l, ∀ c, ctxAt t i = some c → c.Unbound) →
      Steady false t (l.foldl (fun s i => bindCtx s i b) t) := fun l => by
    induction l with
    | nil => exact fun t _ _ => .refl false t
    | cons i rest ih =>
      intro t hl hu
      rw [List.nodup_cons] at hl
      refine ((Steady.refl false t).bindCtx i b (hu i List.mem_cons_self)).trans (ih _ hl.2 fun j hj c hc => ?_)
      have hne : j ≠ i := fun e => hl.1 (e ▸ hj)
      have hsame : ctxAt (bindCtx t i b) j = ctxAt t j :=
        ctxAt_foldl_bindCtx_of_not_mem (l := [i]) (by simpa using hne) t
      exact hu j (List.mem_cons_of_mem _ hj) c (hsame ▸ hc)
  refine hfold _ s (slotsWhere_nodup s _) fun i hi c hc => ?_
  obtain ⟨-, x, hx, hp⟩ := mem_slotsWhere.mp hi
  rw [hc] at hx
  cases hx
  simp only [Bool.and_eq_true] at hp
  exact .inl hp.1.2

theorem bindAtClose_obeys {b : BankId} (p : Nat) (hr : (s.store.bank b).state = .ready) :
    Obeys s (bindAtClose s b p) :=
  .of_heeds ⟨bindAtClose_sizes s b p, bindAtClose_bounded s b p⟩
    (.of_steady (bindAtClose_steady b p) fun hb => bindAtClose_sound s b p hb hr)

theorem closeBank_obeys (b : BankId) (hn : s.store.block = none) : (closeBank s b).Meets (Obeys s) := by
  refine meets_ite (fun _ => .refuse rfl) fun hl => ?_
  rw [not_not] at hl
  refine meets_ite (fun _ => aborted_obeys (fun _ hs => by rw [hl] at hs; cases hs) _) fun _ => .done ?_
  have hput : Obeys s (putBank s b { s.store.bank b with state := .ready }) :=
    .putBank hn (fun h => h.banks b) fun _ _ => rfl
  split
  · exact hput.after rfl (bindAtClose_obeys _ (congrArg Bank.state (Store.bank_setBank_self _ _ _)))
  · exact hput

theorem clearBank_obeys (b : BankId) (hn : s.store.block = none) : (clearBank s b).Meets (Obeys s) :=
  meets_ite (fun ha => .done (.putBank hn (fun _ => rfl) fun _ hs => by rw [ha] at hs; cases hs)) fun _ => .refuse rfl

theorem eraseBank_obeys (b : BankId) (hn : s.store.block = none) : (eraseBank s b).Meets (Obeys s) := by
  unfold eraseBank
  split
  · exact meets_ite (fun _ => .refuse rfl) fun hu => .done (.putBank hn (fun _ => rfl) fun hi => absurd hi hu)
  · rename_i ha
    exact .done (.putBank hn (fun _ => rfl) fun _ hs => by rw [ha] at hs; cases hs)
  all_goals exact .refuse rfl

theorem writePart_obeys (body : List Byte) : (writePart s body).Meets (Obeys s) := by
  unfold writePart
  dsimp only
  split
  · exact .refuse rfl
  · exact meets_ite (fun _ => .refuse rfl) fun _ =>
      .done (.setStore ⟨List.length_set, fun h => ⟨h.banks, h.block⟩, fun _ _ _ hs => hs⟩)

end

end Sys2Proof.Machine
end

section
/-! PROOF. Every step keeps the shape of the storage, the laws of the chapters and what is final (O6): SETUP, PIN_RESET, the
requests one by one, and the step. -/

namespace Sys2Proof.Machine

section
variable {s : State}

/-! ### SETUP and PIN_RESET (R186, R187) -/

theorem parseSetup_travel {body : List Byte} {c : Setup} (h : parseSetup body = some c) : 1 ≤ c.travelX ∧ 1 ≤ c.travelY := by
  unfold parseSetup at h
  split at h
  · dsimp only at h
    split at h
    case isTrue hr =>
      cases h
      simp only [Setup.inRange, Bool.and_eq_true, within_iff, and_assoc] at hr
      obtain ⟨-, -, -, -, -, -, -, -, -, hx, -, hy, -⟩ := hr
      exact ⟨hx, hy⟩
    case isFalse => cases h
  · cases h

/-- The clips of a station just set up are UNKNOWN. -/
theorem clipAt_configure_live (s : State) (c : Setup) (p : Nat) : (clipAt (configure s c) p).live = none := by
  show ((List.replicate (c.pmax + 1) Clip.unknown).getD p .unknown).live = none
  rw [List.getD_eq_getElem?_getD, List.getElem?_replicate]
  split <;> rfl

/-- The station set up: no clip is live, and no operation is in progress (R187). -/
theorem configure_obeys {c : Setup} (hu : s.jam.run = .unconfigured) (hc : 1 ≤ c.travelX ∧ 1 ≤ c.travelY) :
    Obeys s (configure s c) where
  shape h := { configure_sized h.toSized c with
    contexts := h.contexts, banks := h.banks, block := h.block, normalKinds := rfl, announces := Nat.zero_le _,
    statuses := Nat.zero_le _ }
  lawful hs hl := by
    have hnone : s.console.setup = none := hs.configured.mp hu
    have hzero : ∀ ax, s.table.counter ax = 0 := fun ax => by
      have htravel : travel s ax = 0 := by cases ax <;> simp [travel, cfg, hnone, Setup.blank]
      exact Nat.le_zero.mp (htravel ▸ hl.counters ax)
    have hop : (configure s c).table.op = .none := hl.idle hnone
    refine { bound := hl.bound, liveOnce := fun p q i j hp => ?_, counters := fun ax => (hzero ax).trans_le (Nat.zero_le _),
             operation := by rw [hop]; rfl, poses := fun p i hp => ?_, travels := fun x hx => by cases hx; exact hc,
             idle := fun _ => hop, untouched := hl.untouched, jaws := hl.jaws }
    all_goals rw [clipAt_configure_live] at hp; cases hp
  keeps slot x x' hx hx' _ _ := (Obeys.refl s).keeps slot x x' hx hx' ‹_› ‹_›

/-- PIN_RESET: the state after reset, but for the tape-end levels, the inputs and the queue. -/
theorem execPinReset_obeys (s : State) : Leads (Obeys s) (execPinReset s) where
  shape h := { reset_sized with
    dispensers := (List.length_map _).trans h.dispensers
    contexts := reset_shape.contexts, banks := reset_shape.banks, block := reset_shape.block,
    normalKinds := reset_shape.normalKinds, announces := reset_shape.announces, statuses := reset_shape.statuses }
  lawful _ _ := ⟨reset_lawful.bound, reset_lawful.liveOnce, reset_lawful.counters, reset_lawful.operation,
    reset_lawful.poses, reset_lawful.travels, reset_lawful.idle, reset_lawful.untouched, reset_lawful.jaws⟩
  keeps slot _ c' _ hc' _ _ := by
    have hnone : ctxAt State.reset slot = some c' := hc'
    rw [ctxAt_reset] at hnone
    cases hnone

/-! ### Requests -/

theorem Obeys.of_steady {t : State} (h : Steady false s t) (hk : Kept s t) (hs : s.sound → t.sound) : Obeys s t :=
  .of_heeds hk (.of_steady h hs)

/-- A request's work and the end of the command. -/
theorem Obeys.of_heeds_finish {t : State} (hk : Kept s t) (h : Heeds s t) : Obeys s (Machine.finish false s t) :=
  .of_heeds (hk.finish _ _) (h.finish _ _)

theorem Obeys.of_oneDispenser {t : State} (h : OneDispenser s t) : Obeys s t := by
  obtain ⟨d, r, rfl⟩ := h
  exact .of_steady ((Steady.refl false s).modDisp d _) ⟨by simp, fun hb => by simp [hb]⟩ fun hb => by simp [hb]

/-- The removal of a withdrawn board, with a change of the boards' own fields (R138). -/
theorem withdraw_obeys (n slot : Nat) (b : Boards)
    (hb : b.slots = (removeCtx (joinUrgent s (.withdraw n)) slot).boards.slots) :
    Obeys s (finish false s ((removeCtx (joinUrgent s (.withdraw n)) slot).setBoards b)) := by
  have hkept : Kept s ((removeCtx (joinUrgent s (.withdraw n)) slot).setBoards b) :=
    ⟨(sizes_setBoards _ b (congrArg _ hb)).trans (by simp), fun h => by simp [h]⟩
  have habides : Abides s (removeCtx (joinUrgent s (.withdraw n)) slot) :=
    ((Steady.refl false s).joinUrgent (.withdraw n)).abides.trans_thins (removeCtx_thins _ slot)
  refine .of_heeds_finish hkept ⟨habides.trans_steady ((Steady.refl true _).setBoards hb), fun h => ?_⟩
  have hs : (removeCtx (joinUrgent s (.withdraw n)) slot).sound := by simp [h]
  exact ⟨fun o ho => hs.1 o (hb ▸ ho), hs.2⟩

theorem start_obeys (hr : s.jam.run ≠ .unconfigured) : Obeys s (finish false s (takeStart s)) := by
  have hrun : (setRun s .running).sizes = s.sizes := sizes_setJam s _ (by simp [hr])
  exact .of_heeds_finish ⟨by simp [takeStart, hrun], takeStart_bounded s⟩ ⟨takeStart_abides hr, takeStart_sound s⟩

theorem stop_obeys {t : State} (h : t = s ∨ (s.jam.run ≠ .unconfigured ∧ (t = finish false s (setStopping s .atRest) ∨
    t = finish false s (closeCurrent (setStopping s .atBoardEnd))))) : Obeys s t := by
  rcases h with rfl | ⟨hr, h⟩
  · exact .refl t
  · have hsizes : ∀ q, (setStopping s q).sizes = s.sizes := fun q => sizes_setJam s _ (by simp [hr])
    rcases h with rfl | rfl
    · exact .of_heeds_finish ⟨hsizes _, setStopping_bounded s _⟩
        (.of_steady ((Steady.refl false s).setStopping _ hr) (setStopping_sound s _))
    · exact .of_heeds_finish ⟨by simp [hsizes], fun hb => by simp [hb]⟩
        (.of_steady ((Steady.refl false s).setStopping _ hr).closeCurrent fun hb => by simp [hb])

theorem takeReset_sized (h : Sized s) (hr : s.jam.run ≠ .unconfigured) : Sized (takeReset s) where
  parts := h.parts
  dispensers := (List.length_map _).trans h.dispensers
  groups := h.groups
  clips := (List.length_map _).trans h.clips
  slots := List.length_replicate
  roster := h.roster
  urgent := h.urgent
  alarms := Nat.zero_le _
  reports := h.reports
  reportNumber := h.reportNumber
  responseNumber := h.responseNumber
  tag := h.tag
  configured := (takeReset_abides hr).unconfigured.trans h.configured

theorem runReset_obeys (hr : s.jam.run ≠ .unconfigured) : Obeys s (finish false s (takeReset s)) := by
  have h : Heeds s (takeReset s) := ⟨takeReset_abides hr, takeReset_sound s⟩
  exact .of_sized (fun hs => (takeReset_sized hs hr).fin _) (by simp [takeReset]) (h.finish _ _)

/-- Every request of the table keeps the storage and the laws. -/
theorem exec_request_obeys (s : State) {code : Byte} {len : Nat} {bytes : List Byte} :
    ∀ c : Instr, c.request = some (code, len, bytes) → Leads (Obeys s) (exec c s)
  | .setup _, rfl => .request s _ _ _ _ fun body => (judgeSetup_meets s body).mono fun _ ⟨_, hu, hc, h⟩ =>
      h ▸ (configure_obeys hu (parseSetup_travel hc)).finish rfl _ _
  | .readStatus _, rfl => .request s _ _ _ _ fun _ => .answer rfl (.refl s)
  | .readReports _, rfl => .request s _ _ _ _ fun body => (judgeReadReports_meets s body).mono fun _ ⟨n, h⟩ =>
      h ▸ .of_steady ((Steady.refl false s).setConsole rfl) ⟨takeReports_sizes s n, takeReports_bounded s n⟩ id
  | .bankOpen _, rfl => .request s _ _ _ _ fun body => onBank_meets body fun b =>
      unlessOpen_obeys fun hn => openBank_obeys body b hn
  | .blockBegin _, rfl => .request s _ _ _ _ fun body => onBank_meets body fun b =>
      unlessOpen_obeys fun _ => beginBlock_obeys body b
  | .stepRecord _, rfl => .request s _ _ _ _ fun body => onBank_meets body fun b => by
      split
      · exact .refuse rfl
      · rename_i ho; exact takeStep_obeys ho body b
  | .blockCommit _, rfl => .request s _ _ _ _ fun body => onBank_meets body fun b => by
      split
      · exact .refuse rfl
      · rename_i ho; exact commitBlock_obeys ho b
  | .bankClose _, rfl => .request s _ _ _ _ fun body => onBank_meets body fun b =>
      unlessOpen_obeys fun hn => closeBank_obeys b hn
  | .bankClearAbort _, rfl => .request s _ _ _ _ fun body => onBank_meets body fun b =>
      unlessOpen_obeys fun hn => clearBank_obeys b hn
  | .bankErase _, rfl => .request s _ _ _ _ fun body => onBank_meets body fun b =>
      unlessOpen_obeys fun hn => eraseBank_obeys b hn
  | .partEntry _, rfl => .request s _ _ _ _ fun body => writePart_obeys body
  | .reelLoad _, rfl => .request s _ _ _ _ fun body => meets_ite (fun _ => .refuse rfl) fun _ =>
      (onDispenser_meets body (loadReel_meets s body)).mono fun _ => .of_oneDispenser
  | .serviceBegin _, rfl => .request s _ _ _ _ fun body =>
      (onDispenser_meets body (beginService_meets s)).mono fun _ => .of_oneDispenser
  | .serviceEnd _, rfl => .request s _ _ _ _ fun body =>
      (onDispenser_meets body (endService_meets s)).mono fun _ => .of_oneDispenser
  | .lock _, rfl => .request s _ _ _ _ fun body =>
      (onDispenser_meets body (lockDispenser_meets s)).mono fun _ => .of_oneDispenser
  | .unlock _, rfl => .request s _ _ _ _ fun body =>
      (onDispenser_meets body (unlockDispenser_meets s)).mono fun _ => .of_oneDispenser
  | .releaseGroup _, rfl => .request s _ _ _ _ fun body => (releaseGroup_meets s body).mono fun _ ⟨g, r, h⟩ =>
      h ▸ .of_steady ((Steady.refl false s).modGroup g _) ⟨by simp, fun hb => by simp [hb]⟩ fun hb => by simp [hb]
  | .readDispenser _, rfl => .request s _ _ _ _ fun body => onDispenser_meets body fun _ _ => .answer rfl (.refl s)
  | .home _, rfl => .request s _ _ _ _ fun _ => (judgeHome_meets s).mono fun _ ⟨hr, h⟩ =>
      have hrun : s.jam.run ≠ .unconfigured := by rcases hr with hr | hr <;> simp [hr]
      h ▸ .of_heeds_finish ⟨takeHome_sizes s, takeHome_bounded s⟩
        (.of_steady ((Steady.refl false s).takeHome hrun) (takeHome_sound s))
  | .jog _, rfl => .request s _ _ _ _ fun body => (judgeJog_meets s body).mono fun _ ⟨ax, n, check, hn, hr, h⟩ =>
      have hrun : s.jam.run ≠ .unconfigured := by rcases hr with hr | hr <;> simp [hr]
      h ▸ .of_heeds_finish ⟨takeJog_sizes s ax n check, takeJog_bounded s ax n check⟩
        (.of_steady ((Steady.refl false s).takeJog hrun hn check) (takeJog_sound s ax n check))
  | .readPosition _, rfl => .request s _ _ _ _ fun _ => .answer rfl (.refl s)
  | .boardLoad _, rfl => .request s _ _ _ _ fun body =>
      (judgeBoardLoad_meets s body).mono fun _ ⟨slot, n, id, m, he, _, h⟩ =>
        h ▸ .of_heeds ⟨takeBoard_sizes s slot n id m, takeBoard_bounded s slot n id m⟩
          ⟨(takeBoard_grows (ctxAt_of_emptySlot he) n id m).passes.abides, takeBoard_sound s slot n id m⟩
  | .imageSkip _, rfl => .request s _ _ _ _ fun body => (judgeImageSkip_meets s body).mono fun _ ⟨slot, m, h⟩ =>
      h ▸ .of_heeds_finish ⟨joinMask_sizes s slot m, joinMask_bounded s slot m⟩
        (.of_steady ((Steady.refl false s).joinMask slot m) (joinMask_sound s slot m))
  | .boardWithdraw _, rfl => .request s _ _ _ _ fun body =>
      (judgeWithdraw_meets s body).mono fun _ ⟨n, slot, b, h, hb⟩ => h ▸ withdraw_obeys n slot b hb
  | .readBoard _, rfl => .request s _ _ _ _ fun body => (judgeReadBoard_meets s body).mono fun _ h => h ▸ .refl s
  | .start _, rfl => .request s _ _ _ _ fun _ => (judgeStart_meets s).mono fun _ ⟨hr, h⟩ =>
      have hrun : s.jam.run ≠ .unconfigured := by simp [hr]
      h ▸ start_obeys hrun
  | .stop _, rfl => .request s _ _ _ _ fun body => execStop_meets s body fun q =>
      (judgeStop_meets s q).mono fun t h => stop_obeys h
  | .runReset _, rfl => .request s _ _ _ _ fun _ => (judgeRunReset_meets s).mono fun _ ⟨hr, h⟩ =>
      h ▸ runReset_obeys hr
  | .alarmAck _, rfl => .request s _ _ _ _ fun body => (judgeAck_meets s body).mono fun _ ⟨n, h⟩ =>
      h ▸ .of_steady ((Steady.refl false s).ackAlarm n) ⟨ackAlarm_sizes s n, ackAlarm_bounded s n⟩ (ackAlarm_sound s n)
  | .alarmClear _, rfl => .request s _ _ _ _ fun body => (judgeClear_meets s body).mono fun _ ⟨e, h⟩ =>
      h ▸ .of_heeds_finish ⟨dropAlarm_sizes s e, dropAlarm_bounded s e⟩
        (.of_steady ((Steady.refl false s).dropAlarm e) (dropAlarm_sound s e))
  | .readAlarms _, rfl => .request s _ _ _ _ fun _ => .answer rfl (.refl s)

end

/-! ### The step -/

theorem leads_mono {P Q : State → Prop} {o : Host.Outcome State Fault Refusal} (h : Leads P o) (hpq : ∀ t, P t → Q t) :
    Leads Q o := by
  cases o with
  | next t => exact hpq t h
  | fault f => trivial
  | refused r => trivial

/-- An event keeps the storage and the laws. -/
theorem exec_event_obeys (s : State) (c : Instr) (hr : c.request = none) (hp : c ≠ .pinReset)
    (hk : ∀ n b, c ≠ .unknownRequest n b) : Leads (Obeys s) (exec c s) := by
  have hkept := exec_event_kept s c hr hp hk
  have hheeds := exec_event_heeds s c hr hp hk
  cases ho : exec c s with
  | next t => rw [ho] at hkept hheeds; exact .of_heeds hkept hheeds
  | fault f => trivial
  | refused r => trivial

theorem exec_obeys (s : State) (c : Instr) : Leads (Obeys s) (exec c s) := by
  cases hr : c.request with
  | some r => exact exec_request_obeys s c hr
  | none =>
    by_cases hp : c = .pinReset
    · subst hp; exact execPinReset_obeys s
    · by_cases hk : ∃ n b, c = .unknownRequest n b
      · obtain ⟨n, b, rfl⟩ := hk
        exact .respond s _ _ _
      · exact exec_event_obeys s c hr hp fun n b e => hk ⟨n, b, e⟩

theorem step_obeys (s : State) : Leads (Obeys s) (step s) :=
  leads_step (idle_obeys s) fun c rest => leads_mono (exec_obeys (s.setPending rest) c) fun _ h =>
    (Obeys.setPending s rest).after rfl h

/-- Settles O6: a step obeys, whatever command it runs; the laws follow block by block and context by context from what
each operation keeps. -/
theorem everyStepKeepsTheShapeOfTheStorage : Obligations.EveryStepKeepsTheShapeOfTheStorage := by
  have hobeys : ∀ {s t : State}, step s = .next t → Obeys s t := fun {s t} h => by
    have hstep := step_obeys s
    rwa [h] at hstep
  exact ⟨fun s t hs h => (hobeys h).shape hs, fun s t hs hl h => (hobeys h).lawful hs hl,
    fun s t slot c c' h hc hc' hu _ hserial _ => (hobeys h).keeps slot c c' hc hc' hu hserial⟩

end Sys2Proof.Machine
end
